-- ==== Sys2Proof/Word.lean ====
section
/-! DEFINITION. The words of the ZE-32L's lines and the table of 32 like things the part holds one of for each station. -/

namespace Sys2Proof

/-- A byte on a line. -/
abbrev Byte := BitVec 8
/-- A two-byte field, sent high byte first. -/
abbrev Half := BitVec 16
/-- A four-byte field, sent high byte first. -/
abbrev Word := BitVec 32
/-- A station index, 0..31 (00_scope.md, naming conventions). -/
abbrev Sta := Fin 32

/-- One `α` for each of the 32 stations: the count is fixed (R1). -/
structure PerStation (α : Type) where
  items : List α
  size : items.length = 32
deriving DecidableEq, Repr

/-- The entry of station `k`. -/
def PerStation.get {α : Type} (t : PerStation α) (k : Sta) : α :=
  t.items[k.val]'(by rw [t.size]; exact k.isLt)

/-- `f` applied to the entry of station `k` alone. -/
def PerStation.modify {α : Type} (t : PerStation α) (k : Sta) (f : α → α) : PerStation α :=
  ⟨t.items.modify k.val f, by simp [t.size]⟩

/-- The same entry for every station. -/
def PerStation.replicate {α : Type} (a : α) : PerStation α :=
  ⟨List.replicate 32 a, by simp⟩

/-- Every station index, in ascending order. -/
def Sta.all : List Sta := List.finRange 32

/-- The table whose entry for station `k` is `f k` of the old one. -/
def PerStation.mapAll {α β : Type} (t : PerStation α) (f : Sta → α → β) : PerStation β :=
  ⟨Sta.all.map (fun k => f k (t.get k)), by simp [Sta.all]⟩

end Sys2Proof
end

