-- ==== Sys2Proof/Syntax.lean ====
section
/-! DEFINITION. The commands the ZE-32L takes from outside: one constructor for each row of spec/opcode_table.json. -/

namespace Sys2Proof

/-- One of the two quadrature lines of an encoder (R56). -/
inductive EncLine
  | a
  | b
deriving DecidableEq, Repr

/-- The window of the control cycle in which a load link byte's start bit fell (R74, R78). -/
inductive LinkWindow
  | beacon
  | slot (k : Sta)
  | quiet
deriving DecidableEq, Repr

/-- The levels of one station's inputs when a power-on reset ends: ENCA, ENCB and HOME low (active). -/
structure StationPins where
  encA : Bool
  encB : Bool
  homeLow : Bool
deriving DecidableEq, Repr

/-- The levels of the part's inputs when a power-on reset ends (R115, R171, R73). -/
structure PowerPins where
  permit : Bool
  spd1 : Bool
  spd0 : Bool
  stations : PerStation StationPins
deriving DecidableEq, Repr

/-- The ten settings of a STATION_SET body, as its bytes carry them (R175). -/
structure RawSettings where
  kStep : Half
  encScale : Half
  rMax : Half
  hMax : Word
  tContact : Half
  tRelease : Half
  overload : Half
  loss : Half
  homeCount : Word
  offset : Word
deriving DecidableEq, Repr

/-- The car record of a CAR_SET body in its record form, as its bytes carry it (R175). -/
structure RawCar where
  fl : Byte
  fr : Byte
  rl : Byte
  rr : Byte
  twistLimit : Half
  coupled : Byte
  couplingLimit : Half
deriving DecidableEq, Repr

/-- The segment record of a PLAN_WRITE body, as its bytes carry it (R193). -/
structure RawSegment where
  kind : Byte
  stopAfter : Byte
  accel : Half
  target : Word
  cruise : Half
  dwell : Half
deriving DecidableEq, Repr

/-- The two moments at which a group command is met: its arrival as a GROUP_COMMAND request with a tag (R94),
and its execution from the command slot at a cycle start (R95). -/
inductive CommandPhase
  | arrival (tag : Byte)
  | execution
deriving DecidableEq, Repr

/-- A request of the control line with its body's fields (R175). Bodies a row of the table does not name
(another CAR_SET form, any COMMIT kind byte, any GROUP_COMMAND code) stand here, because a frame can carry them. -/
inductive Request
  | status (clear : Byte)
  | stationGet (index : Byte)
  | stationSet (index : Byte) (presence : Half) (values : RawSettings)
  | carGet (car : Byte)
  | carSet (car : Byte) (record : RawCar)
  | carDelete (car : Byte)
  | carBadForm (car form : Byte)
  | groupGet
  | groupSet (presence : Word) (values : List Word)
  | snapshot
  | faultsRead
  | eventMask (mask : Half)
  | stream (period : Half)
  | planWrite (index : Byte) (record : RawSegment)
  | planRead (role index : Byte)
  | planClear
  | commit (kind : Byte)
  | withdraw
  | planMode (mode : Byte)
  | jog (index : Byte) (distance : Word)
  | home (index : Byte)
  | trim (index : Byte) (distance : Word)
  | openGate (index : Byte)
  | closeGate (index : Byte)
  | setOffset (index : Byte) (offset : Word)
  | groupCommand (code : Byte)
  | restart
deriving DecidableEq, Repr

/-- The commands of the block: the rows of spec/opcode_table.json, in the table's order. -/
inductive Instr
  | powerOn (pins : PowerPins)
  | warmResetBegin
  | warmResetEnd (spd1 spd0 : Bool)
  | cycleStart
  | pendingOffsetTake
  | take
  | slipGateClose (k : Sta)
  | beaconEnd
  | loadByteReceived (window : LinkWindow) (byte : Byte) (framingFault : Bool)
  | slotClose (k : Sta) (inProgress : Bool)
  | waitTimeout
  | dwellCompletion
  | streamSnapshotDue
  | periodCompletion (k : Sta)
  | encoderEdge (k : Sta) (line : EncLine)
  | homeActivation (k : Sta)
  | permitFall
  | permitRise
  | crxByte (byte : Byte) (framingFault : Bool)
  | gapTimerExpiry
  | transmitCompletion (spd1 spd0 : Bool)
  | status (tag clear : Byte)
  | stationGet (tag index : Byte)
  | stationSet (tag index : Byte) (presence : Half) (values : RawSettings)
  | carGet (tag car : Byte)
  | carSet (tag car : Byte) (record : RawCar)
  | carSetDelete (tag car : Byte)
  | groupGet (tag : Byte)
  | groupSet (tag : Byte) (presence : Word) (values : List Word)
  | snapshot (tag : Byte)
  | faultsRead (tag : Byte)
  | eventMask (tag : Byte) (mask : Half)
  | stream (tag : Byte) (period : Half)
  | planWrite (tag index : Byte) (record : RawSegment)
  | planRead (tag role index : Byte)
  | planClear (tag : Byte)
  | commitReplace (tag : Byte)
  | commitAppend (tag : Byte)
  | withdraw (tag : Byte)
  | planMode (tag mode : Byte)
  | jog (tag index : Byte) (distance : Word)
  | home (tag index : Byte)
  | trim (tag index : Byte) (distance : Word)
  | openGate (tag index : Byte)
  | closeGate (tag index : Byte)
  | setOffset (tag index : Byte) (offset : Word)
  | restart (tag : Byte)
  | setupDone (phase : CommandPhase)
  | resetup (phase : CommandPhase)
  | engage (phase : CommandPhase)
  | run (phase : CommandPhase)
  | continueRun (phase : CommandPhase)
  | stop (phase : CommandPhase)
  | resume (phase : CommandPhase)
  | land (phase : CommandPhase)
  | ackFaults (phase : CommandPhase)
  | clearLockout (phase : CommandPhase)
  | homeInactive (k : Sta)
  | bothLinesChange (k : Sta)
  | stepPulseEnd (k : Sta)
deriving DecidableEq, Repr

end Sys2Proof
end

