-- ==== Sys2Proof/Decode.lean ====
section
/-! DEFINITION. The command a word of the table spells. The table gives no row any bits, so no word spells one (log 8). -/

namespace Sys2Proof

/-- The command a word of `nbits` bits spells by the bits of spec/opcode_table.json: none, since no row has bits. -/
def decodeTableWord (_nbits _w : Nat) : Option Instr := none

end Sys2Proof
end

