-- ==== Sys2Proof/Config.lean ====
section
/-! DEFINITION. The one value the spec leaves open, as a constant without a body, and the sizes the spec fixes. -/

namespace Sys2Proof

/-- FREE VALUE (log 14, DESIGN CHOICE): what a signed four-byte field carries for a quantity in µm that lies outside
-2,147,483,648..2,147,483,647. R59 converts every count exactly; R191, R192 and R194 give the field four bytes and
state no result for such a quantity. -/
opaque Config.outOfField : Int → Word

/-- The fault list holds at most 16 entries (R103). -/
def Config.faultListSize : Nat := 16
/-- A plan bank holds at most 16 segments (R156). -/
def Config.bankSize : Nat := 16
/-- The car table holds at most 8 records (R22). -/
def Config.maxCars : Nat := 8
/-- A request is taken only while fewer than 7 frames are held (R174). -/
def Config.requestRoom : Nat := 7
/-- A notice is admitted only while fewer than 5 frames are held (R180). -/
def Config.noticeRoom : Nat := 5

end Sys2Proof
end

