-- ==== Sys2Proof/Machine/State.lean ====
section
/-! DEFINITION. The state of the ZE-32L as plain data: every record, register, queue and mark the spec gives the part, and the machine after reset. -/

namespace Sys2Proof.Machine

/-! ### Names of states, kinds and outcomes -/

/-- The ten station states (section 1.4). -/
inductive StationState
  | unassigned | idle | homing | jogging | seeking | confirming | engaged | trimming | releasing | faulted
deriving DecidableEq, Repr

/-- The state a FAULTED station returns to (R16). -/
inductive Prior
  | idle | engaged
deriving DecidableEq, Repr

/-- The thirteen fault kinds (R192). -/
inductive FaultKind
  | syncTrip | waitTimeout | driveSlip | noContact | contactUnstable | noRelease | overload | loadLoss | loadSilent
  | travelLimit | twist | coupling | runaway
deriving DecidableEq, Repr

/-- The subject of a detection (R103). -/
inductive Subject
  | station (k : Sta)
  | car (n : Nat)
  | coupling (n : Nat)
  | none
deriving DecidableEq, Repr

/-- The station operations whose end STATION_DONE reports (section 1.5). -/
inductive Operation
  | home | jog | trim
deriving DecidableEq, Repr

/-- The results STATION_DONE reports (section 1.5). -/
inductive OpResult
  | ok | failed | aborted
deriving DecidableEq, Repr

/-- Up or down: the direction of a generator or of an encoder edge. -/
inductive Dir
  | up | down
deriving DecidableEq, Repr

/-- The run states of a step generator (R38). -/
inductive RunState
  | idle | rate | counted
deriving DecidableEq, Repr

/-- The level of a BRAKE output (R50). -/
inductive Brake
  | applied | released
deriving DecidableEq, Repr

/-- The outcomes of a load link slot; `none` before the first (R79, R81). -/
inductive SlotOutcome
  | none | fresh | overrange | sensorFault | stale | garbled | late | silent
deriving DecidableEq, Repr

/-- The ten group states. -/
inductive GroupState
  | setup | prepared | engaging | poised | moving | holding | stopping | stopped | landing | lockedOut
deriving DecidableEq, Repr

/-- The stop cause (R106). A fault's cause carries its subject; RUNAWAY is the fault kind `runaway`. -/
inductive StopCause
  | none | command | fault (kind : FaultKind) (subject : Subject) | permit | reset
deriving DecidableEq, Repr

/-- The ten group commands (R94). -/
inductive GroupCommand
  | setupDone | resetup | engage | run | continueRun | stop | resume | land | ackFaults | clearLockout
deriving DecidableEq, Repr

/-- The direction of the reference (R117). -/
inductive RefDir
  | up | down | none
deriving DecidableEq, Repr

/-- One of the two plan banks (R156). -/
inductive Bank
  | a | b
deriving DecidableEq, Repr

/-- The kind of a COMMIT (R161). -/
inductive CommitKind
  | replace | append
deriving DecidableEq, Repr

/-- The run modes (R166). -/
inductive RunMode
  | single | chained
deriving DecidableEq, Repr

/-- The kinds of a segment (R157). -/
inductive SegmentKind
  | move | dwell
deriving DecidableEq, Repr

/-- The outcome byte of a reply (R176, R190). -/
inductive ReplyOutcome
  | done | clamped | busy | wrongState | badValue | badConfig | noDatum | permitLow | loaded | faultsOpen | motionSeen
  | geometry | bankQueued | tooLate | empty | unassigned | unknownKind | badLength
deriving DecidableEq, Repr

/-! ### Stations -/

/-- The ten settings of a station (R1). -/
structure Settings where
  kStep : Nat
  encScale : Nat
  rMax : Nat
  hMax : Nat
  tContact : Nat
  tRelease : Nat
  overload : Nat
  loss : Nat
  homeCount : Word
  offset : Int
deriving DecidableEq, Repr

/-- A HOME, JOG or TRIM whose counted move has not ended. `underFault`: it was taken while the station was FAULTED
(R5, R17). `done`: it has been ended in the stop form and its STATION_DONE has been raised (R6, R195). -/
structure Move where
  op : Operation
  underFault : Bool
  done : Bool
deriving DecidableEq, Repr

/-- The station record (R1). -/
structure StationRec where
  state : StationState
  settings : Settings
  pendingOffset : Option Int
  datumKnown : Bool
  contact : Option Int
  start : Option Int
  attempts : Nat
  confirm : Nat
  faultKind : Option FaultKind
  prior : Option Prior
  move : Option Move
deriving DecidableEq, Repr

/-- A divisor as its main count N and swallow count M (R38, R40). -/
structure Divisor where
  n : Nat
  m : Nat
deriving DecidableEq, Repr

/-- What a generator takes at the completion of its period (R38). -/
inductive PendingValue
  | rate (d : Divisor) (dir : Dir)
  | stop
  | move (d : Divisor) (dir : Dir) (steps : Nat)
deriving DecidableEq, Repr

/-- A step generator and its brake output (R38, R39). `dirHigh` is the level of DIR, which follows `dir` at the end of a
step pulse; `stepHigh` the level of STEP. -/
structure Generator where
  run : RunState
  divisor : Option Divisor
  dir : Dir
  pending : Option PendingValue
  remaining : Nat
  ceiling : Bool
  brake : Brake
  stepHigh : Bool
  dirHigh : Bool
deriving DecidableEq, Repr

/-- A position counter (R56, R58). -/
structure Counter where
  encA : Bool
  encB : Bool
  count : Word
  latched : Word
  latchedRunning : Bool
deriving DecidableEq, Repr

/-- A slip gate in progress: the cycle starts until it closes, and its signed tallies S and C (R62). -/
structure SlipGate where
  left : Nat
  steps : Int
  edges : Int
deriving DecidableEq, Repr

/-- The tracking monitor's values for one station (R62 to R71). -/
structure Monitor where
  gate : Option SlipGate
  slipMark : Bool
  slipRun : Nat
  gateOpen : Bool
  stepTally : BitVec 20
  edgeTally : BitVec 20
  openCycles : Nat
  rest : Word
  runaway : Nat
deriving DecidableEq, Repr

/-- A byte charged to a slot, with its framing fault (R78). -/
structure LinkByte where
  byte : Byte
  framingFault : Bool
deriving DecidableEq, Repr

/-- The load link controller's values for one station (R89). `slotOpen`: the station's window of the present cycle
has not closed; `bytes`: what has been charged to it. -/
structure LinkSlot where
  held : Nat
  miss : Nat
  outcome : SlotOutcome
  fresh : Bool
  silent : Bool
  lossRun : Nat
  slotOpen : Bool
  bytes : List LinkByte
deriving DecidableEq, Repr

/-- One station with everything the blocks hold for it. `imbalance` is its imbalance mark RAISED (R33), `err` and `rate`
its error and commanded rate (R117), `homeLow` its HOME input active (R8). -/
structure Jack where
  record : StationRec
  gen : Generator
  pos : Counter
  mon : Monitor
  link : LinkSlot
  homeLow : Bool
  imbalance : Bool
  err : Int
  rate : Int
deriving DecidableEq, Repr

/-! ### Cars, plans, the reference -/

/-- A car record (R22) with the geometry checker's marks for the car (R27, R28) and for the coupling behind it (R30). -/
structure Car where
  fl : Option Sta
  fr : Option Sta
  rl : Option Sta
  rr : Option Sta
  twistLimit : Nat
  coupled : Bool
  couplingLimit : Nat
  warnRaised : Bool
  lastTwist : Option Int
  lastStep : Option Int
  couplingSet : Bool
deriving DecidableEq, Repr

/-- A segment record (R157). -/
structure Segment where
  kind : SegmentKind
  target : Nat
  cruise : Nat
  accel : Nat
  dwell : Nat
  stopAfter : Bool
deriving DecidableEq, Repr

/-- The plan store (R156). The pending state is QUEUED exactly while a commit kind is present. -/
structure Plan where
  bankA : List Segment
  bankB : List Segment
  active : Bank
  commit : Option CommitKind
  taken : Bool
  mode : RunMode
  segMode : Option RunMode
deriving DecidableEq, Repr

/-- The synchronisation unit's group items (R117). `descent`: the descent mark is ACTIVE. -/
structure Sync where
  ref : Int
  speed : Nat
  dir : RefDir
  planPos : Nat
  dwell : Option Nat
  descent : Bool
  waiting : Bool
deriving DecidableEq, Repr

/-! ### The group -/

/-- The 26 group parameters in the order of R114. -/
structure GroupParams where
  lMax : Nat
  vMax : Nat
  gain : Nat
  deadband : Nat
  holdBand : Nat
  tripBand : Nat
  waitLimit : Nat
  engageRate : Nat
  confirmTarget : Nat
  attemptLimit : Nat
  window : Nat
  landRate : Nat
  landAccel : Nat
  clearance : Nat
  homeRate : Nat
  jogRate : Nat
  homeWindow : Nat
  twistWarn : Nat
  imbalance : Nat
  gateLength : Nat
  slipTolerance : Nat
  slipLimit : Nat
  drift : Nat
  runawayConfirm : Nat
  missLimit : Nat
  lossConfirm : Nat
deriving DecidableEq, Repr

/-- An entry of the fault list (R103). Its class follows from its kind (R107). -/
structure FaultEntry where
  kind : FaultKind
  subject : Subject
  cycle : Byte
deriving DecidableEq, Repr

/-- A group command waiting in the command slot with its request's tag (R94). -/
structure SlotCommand where
  tag : Byte
  command : GroupCommand
deriving DecidableEq, Repr

/-- The group controller (R92). `ratesForced`: every rate has been forced to 0 at an earlier cycle start of the present
stop (R106, log 22). -/
structure Group where
  state : GroupState
  validated : Bool
  cause : StopCause
  permit : Bool
  waitCount : Nat
  cycle : Byte
  slot : Option SlotCommand
  faults : List FaultEntry
  overflow : Bool
  params : GroupParams
  ratesForced : Bool
deriving DecidableEq, Repr

/-! ### The control line -/

/-- The events of R181 with their data (R192). -/
inductive Event
  | lockout (k : Sta)
  | permit (high stopped : Bool)
  | groupStop (kind : FaultKind) (subject : Subject)
  | stationFault (kind : FaultKind) (subject : Subject) (listed : Bool)
  | state (left entered : GroupState)
  | segmentDone (bank : Bank) (index : Nat) (kind : SegmentKind) (last holding : Bool)
  | planLow (bank : Bank) (index : Nat)
  | planTaken (bank : Bank) (kind : CommitKind) (length : Nat) (continues : Bool)
  | contact (k : Sta) (height : Int) (attempts : Nat)
  | released (k : Sta) (lift : Int)
  | slip (k : Sta) (difference : Int) (run : Nat)
  | twistWarn (car : Nat) (twist : Int) (limit : Nat)
  | imbalance (k : Sta) (load mean : Nat)
  | stray (slot : Nat) (address : Option Byte)
  | stationDone (k : Sta) (op : Operation) (result : OpResult)
deriving DecidableEq, Repr

/-- An event with the cycle number of the latest cycle start at the moment of raising (R181). -/
structure Raised where
  event : Event
  cycle : Byte
deriving DecidableEq, Repr

/-- A record of the event pending set (R182). -/
structure PendingEvent where
  raised : Raised
  more : Bool
deriving DecidableEq, Repr

/-- The classes of frame the transmit queue tells apart (R179, R180, R187). -/
inductive FrameClass
  | reply | restartReply | eventNotice | snapshotNotice
deriving DecidableEq, Repr

/-- A frame for CTX: its kind, tag and body (R190). -/
structure Frame where
  cls : FrameClass
  kind : Byte
  tag : Byte
  body : List Byte
deriving DecidableEq, Repr

/-- The receive assembler (R173). `collecting len taken` holds the length field and the bytes taken after it. -/
inductive Assembler
  | hunting
  | length (first : Option Byte)
  | collecting (len : Half) (taken : List Byte)
deriving DecidableEq, Repr

/-- The line controller (R171 to R189). The first frame of `queue` is being sent. `pending` holds at most one record a kind,
highest priority first. `raised`: events raised and not yet handed over (log 9); empty between commands. -/
structure Line where
  asm : Assembler
  queue : List Frame
  pending : List PendingEvent
  mask : Half
  streamPeriod : Nat
  streamCount : Nat
  cold : Bool
  speed1 : Bool
  speed0 : Bool
  raised : List Raised
deriving DecidableEq, Repr

/-- The load link's own lines (R75, R90): LDE, the beacon on LTX while LDE is high, and whether a beacon has been sent since
the last reset (R91, log 21). -/
structure LinkLine where
  lde : Bool
  ltx : List Byte
  started : Bool
deriving DecidableEq, Repr

/-- The levels of PERMIT and of RESET_N (asserted is low). -/
structure Pins where
  permit : Bool
  resetAsserted : Bool
deriving DecidableEq, Repr

/-- The whole part, and the queue of commands waiting outside it. -/
structure State where
  jacks : PerStation Jack
  cars : List Car
  group : Group
  sync : Sync
  plan : Plan
  line : Line
  link : LinkLine
  pins : Pins
  pending : List Instr
deriving DecidableEq, Repr

/-- The reasons a command could fault. There is none: the spec calls no behaviour of the part undefined or unpredictable
(INVENTORY.md, Faults). -/
inductive Fault
deriving DecidableEq, Repr

/-- The reasons a command is refused. -/
inductive Refusal
  /-- A row of the table that has no meaning yet, raised by `exec`'s arm alone. Safe: the model stops where the part goes on. -/
  | notModelled (mnemonic : String)
deriving DecidableEq, Repr

/-! ### Reset -/

/-- The settings after power-on (R1). -/
def Settings.reset : Settings :=
  { kStep := 2000, encScale := 500, rMax := 8000, hMax := 1500000, tContact := 500, tRelease := 200, overload := 15000,
    loss := 100, homeCount := 0, offset := 0 }

/-- The station record after power-on (R1, R19). -/
def StationRec.reset : StationRec :=
  { state := .unassigned, settings := .reset, pendingOffset := none, datumKnown := false, contact := none, start := none,
    attempts := 0, confirm := 0, faultKind := none, prior := none, move := none }

/-- A generator after power-on (R54). -/
def Generator.reset : Generator :=
  { run := .idle, divisor := none, dir := .down, pending := none, remaining := 0, ceiling := false, brake := .applied,
    stepHigh := false, dirHigh := false }

/-- A position counter after power-on (R73); the encoder lines low, low (log 1, DESIGN CHOICE). -/
def Counter.reset : Counter :=
  { encA := false, encB := false, count := 0, latched := 0, latchedRunning := false }

/-- The monitor's values after power-on (R73). -/
def Monitor.reset : Monitor :=
  { gate := none, slipMark := false, slipRun := 0, gateOpen := false, stepTally := 0, edgeTally := 0, openCycles := 0,
    rest := 0, runaway := 0 }

/-- The load link's values after power-on (R90). -/
def LinkSlot.reset : LinkSlot :=
  { held := 0, miss := 0, outcome := .none, fresh := false, silent := false, lossRun := 0, slotOpen := false, bytes := [] }

/-- A station after power-on; its HOME input inactive (log 1, DESIGN CHOICE). -/
def Jack.reset : Jack :=
  { record := .reset, gen := .reset, pos := .reset, mon := .reset, link := .reset, homeLow := false, imbalance := false,
    err := 0, rate := 0 }

/-- The group parameters after power-on (R114, R1, R36, R72, R88). -/
def GroupParams.reset : GroupParams :=
  { lMax := 0, vMax := 5000, gain := 32, deadband := 50, holdBand := 200, tripBand := 2000, waitLimit := 3000,
    engageRate := 500, confirmTarget := 5, attemptLimit := 3, window := 100000, landRate := 2000, landAccel := 20,
    clearance := 20000, homeRate := 1000, jogRate := 2000, homeWindow := 200000, twistWarn := 75, imbalance := 25,
    gateLength := 8, slipTolerance := 500, slipLimit := 3, drift := 100, runawayConfirm := 5, missLimit := 3,
    lossConfirm := 10 }

/-- The group controller after power-on (R115); PERMIT low (log 1, DESIGN CHOICE). -/
def Group.reset : Group :=
  { state := .setup, validated := false, cause := .none, permit := false, waitCount := 0, cycle := 255, slot := none,
    faults := [], overflow := false, params := .reset, ratesForced := false }

/-- The synchronisation unit after power-on (R139). -/
def Sync.reset : Sync :=
  { ref := 0, speed := 0, dir := .none, planPos := 0, dwell := none, descent := false, waiting := false }

/-- The plan store after power-on (R170). -/
def Plan.reset : Plan :=
  { bankA := [], bankB := [], active := .a, commit := none, taken := false, mode := .chained, segMode := none }

/-- The line controller after power-on (R188); the straps low, low (log 1, DESIGN CHOICE). -/
def Line.reset : Line :=
  { asm := .hunting, queue := [], pending := [], mask := 0, streamPeriod := 0, streamCount := 0, cold := true,
    speed1 := false, speed0 := false, raised := [] }

/-- The machine when a power-on reset ends: R19, R37, R54, R73, R90, R115, R139, R170, R188. -/
def State.reset : State :=
  { jacks := PerStation.replicate Jack.reset, cars := [], group := .reset, sync := .reset, plan := .reset, line := .reset,
    link := { lde := false, ltx := [], started := false }, pins := { permit := false, resetAsserted := false },
    pending := [] }

end Sys2Proof.Machine
end

