-- ==== Sys2Proof/Machine/Operands.lean ====
section
/-! DEFINITION. The arithmetic conventions, byte order, cyclic checks, unit conversions and request bodies of the spec. -/

namespace Sys2Proof.Machine

/-! ### Arithmetic (00_scope.md, arithmetic conventions) -/

/-- `num / den` rounded to nearest, halves away from zero. -/
def roundNearest (num : Int) (den : Nat) : Int :=
  let q : Nat := (2 * num.natAbs + den) / (2 * den)
  if num < 0 then -(q : Int) else (q : Int)

/-- `num / den` rounded half up, for a quotient that cannot be negative. -/
def roundHalfUp (num den : Nat) : Nat := (2 * num + den) / (2 * den)

/-- The nearest value to `x` in `lo..hi`. -/
def clampInt (lo hi x : Int) : Int := max lo (min hi x)

/-- Saturated to the signed 16-bit range −32,767..+32,767. -/
def saturate16 (x : Int) : Int := clampInt (-32767) 32767 x

/-- `x` restricted to `0..max`, for the counts that stop at their end. -/
def saturateNat (max x : Nat) : Nat := min max x

/-! ### Byte order (R175, R190): multi-byte values high byte first, signed values in two's complement -/

/-- The two bytes of a field, high byte first. -/
def bytes2 (x : Half) : List Byte := [x.extractLsb' 8 8, x.extractLsb' 0 8]

/-- The four bytes of a field, high byte first. -/
def bytes4 (x : Word) : List Byte :=
  [x.extractLsb' 24 8, x.extractLsb' 16 8, x.extractLsb' 8 8, x.extractLsb' 0 8]

/-- An unsigned one-byte field. -/
def byteOf (n : Nat) : Byte := BitVec.ofNat 8 n
/-- An unsigned two-byte field. -/
def nat2 (n : Nat) : List Byte := bytes2 (BitVec.ofNat 16 n)
/-- An unsigned four-byte field. -/
def nat4 (n : Nat) : List Byte := bytes4 (BitVec.ofNat 32 n)
/-- A signed two-byte field, for the values the spec saturates to its range. -/
def int2 (x : Int) : List Byte := bytes2 (BitVec.ofInt 16 x)

/-- The signed four-byte field of a quantity in µm: two's complement where it fits, and a free value where it does not
(log 14, DESIGN CHOICE). -/
def field32 (x : Int) : Word :=
  if -2147483648 ≤ x ∧ x ≤ 2147483647 then BitVec.ofInt 32 x else Config.outOfField x

/-- A mark as one byte (R194). -/
def markByte (b : Bool) : Byte := if b then 1 else 0

/-- An optional item: a presence byte, then the item (R194). -/
def optional {α : Type} (o : Option α) (item : α → List Byte) : List Byte :=
  match o with
  | some a => 1 :: item a
  | none => [0]

/-- Byte `i` of a body; 0 beyond its end. -/
def byteAt (body : List Byte) (i : Nat) : Byte := body.getD i 0
/-- The two-byte field at byte `i`. -/
def halfAt (body : List Byte) (i : Nat) : Half := byteAt body i ++ byteAt body (i + 1)
/-- The four-byte field at byte `i`. -/
def wordAt (body : List Byte) (i : Nat) : Word := halfAt body i ++ halfAt body (i + 2)

/-! ### Cyclic checks -/

/-- One shift of the CRC-8 register (R77). -/
def crc8Shift (r : Byte) : Byte := if r.msb then (r <<< 1) ^^^ 0x07 else r <<< 1

/-- The CRC-8 of the load link (R77): polynomial x^8 + x^2 + x + 1, initial value 0. -/
def crc8 (bytes : List Byte) : Byte :=
  bytes.foldl (fun r b => crc8Shift^[8] (r ^^^ b)) 0

/-- One shift of the CRC-16 register (R172). -/
def crc16Shift (r : Half) : Half := if r.msb then (r <<< 1) ^^^ 0x1021 else r <<< 1

/-- The CRC-16 of the control line (R172): polynomial 0x1021, initial value 0xFFFF. -/
def crc16 (bytes : List Byte) : Half :=
  bytes.foldl (fun (r : Half) (b : Byte) => crc16Shift^[8] (r ^^^ ((b.setWidth 16 : Half) <<< (8 : Nat)))) 0xFFFF

/-! ### Heights and divisors -/

/-- The height in µm of a count at an encoder scale of `e` nm per count (R59). -/
def heightOf (count : Word) (e : Nat) : Int := roundNearest (count.toInt * e) 1000

/-- The steps of a move of `distance` µm at `kStep` steps per mm (R6, R7, R152). -/
def stepsOf (distance kStep : Nat) : Nat := roundHalfUp (distance * kStep) 1000

/-- The length of a period in reference periods (R39). -/
def Divisor.length (d : Divisor) : Nat := 32 * d.n + d.m

/-- The divisor before its limits (R40, step 2), for a rate of magnitude `mag` above 0. -/
def rawDivisor (mag kStep : Nat) : Nat := (32000000000 + mag * kStep) / (2 * mag * kStep)

/-- The divisor of a rate of magnitude `mag` above 0 (R40, steps 2 to 4). -/
def divisorOf (mag kStep : Nat) : Divisor :=
  let d := min 262143 (max 992 (rawDivisor mag kStep))
  { n := d / 32, m := d % 32 }

/-- Whether the conversion of rate `r` is held at 992, the ceiling (R41). -/
def heldAtCeiling (r : Int) (kStep : Nat) : Bool := r != 0 && rawDivisor r.natAbs kStep < 992

/-- A signed rate as a value for a generator (R40): the stop value for 0. -/
def convertRate (r : Int) (kStep : Nat) : PendingValue :=
  if r = 0 then .stop
  else .rate (divisorOf r.natAbs kStep) (if 0 < r then .up else .down)

/-! ### Request bodies (R175) -/

/-- The body length R175 gives for a request kind; none for a kind it does not list. -/
def bodyLength (kind : Byte) : Option Nat :=
  match kind.toNat with
  | 0x01 => some 1 | 0x02 => some 1 | 0x03 => some 29 | 0x04 => some 1 | 0x05 => some 11 | 0x06 => some 0
  | 0x07 => some 108 | 0x10 => some 0 | 0x11 => some 0 | 0x12 => some 2 | 0x13 => some 2 | 0x20 => some 13
  | 0x21 => some 2 | 0x22 => some 0 | 0x23 => some 1 | 0x24 => some 0 | 0x25 => some 1 | 0x30 => some 5
  | 0x31 => some 1 | 0x32 => some 5 | 0x33 => some 1 | 0x34 => some 1 | 0x35 => some 5 | 0x40 => some 1
  | 0x50 => some 0 | _ => none

/-- The settings of a STATION_SET body, from byte 3 on. -/
def settingsAt (b : List Byte) : RawSettings :=
  { kStep := halfAt b 3, encScale := halfAt b 5, rMax := halfAt b 7, hMax := wordAt b 9, tContact := halfAt b 13,
    tRelease := halfAt b 15, overload := halfAt b 17, loss := halfAt b 19, homeCount := wordAt b 21, offset := wordAt b 25 }

/-- The car record of a CAR_SET body, from byte 2 on. -/
def carAt (b : List Byte) : RawCar :=
  { fl := byteAt b 2, fr := byteAt b 3, rl := byteAt b 4, rr := byteAt b 5, twistLimit := halfAt b 6,
    coupled := byteAt b 8, couplingLimit := halfAt b 9 }

/-- The segment record of a PLAN_WRITE body, from byte 1 on (R193). -/
def segmentAt (b : List Byte) : RawSegment :=
  { kind := byteAt b 1, stopAfter := byteAt b 2, accel := halfAt b 3, target := wordAt b 5, cruise := halfAt b 9,
    dwell := halfAt b 11 }

/-- The request a body of the right length carries (R175). -/
def requestOf (kind : Byte) (b : List Byte) : Request :=
  match kind.toNat with
  | 0x01 => .status (byteAt b 0)
  | 0x02 => .stationGet (byteAt b 0)
  | 0x03 => .stationSet (byteAt b 0) (halfAt b 1) (settingsAt b)
  | 0x04 => .carGet (byteAt b 0)
  | 0x05 =>
    if byteAt b 1 = 0 then .carSet (byteAt b 0) (carAt b)
    else if byteAt b 1 = 1 then .carDelete (byteAt b 0)
    else .carBadForm (byteAt b 0) (byteAt b 1)
  | 0x06 => .groupGet
  | 0x07 => .groupSet (wordAt b 0) ((List.range 26).map (fun i => wordAt b (4 + 4 * i)))
  | 0x10 => .snapshot
  | 0x11 => .faultsRead
  | 0x12 => .eventMask (halfAt b 0)
  | 0x13 => .stream (halfAt b 0)
  | 0x20 => .planWrite (byteAt b 0) (segmentAt b)
  | 0x21 => .planRead (byteAt b 0) (byteAt b 1)
  | 0x22 => .planClear
  | 0x23 => .commit (byteAt b 0)
  | 0x24 => .withdraw
  | 0x25 => .planMode (byteAt b 0)
  | 0x30 => .jog (byteAt b 0) (wordAt b 1)
  | 0x31 => .home (byteAt b 0)
  | 0x32 => .trim (byteAt b 0) (wordAt b 1)
  | 0x33 => .openGate (byteAt b 0)
  | 0x34 => .closeGate (byteAt b 0)
  | 0x35 => .setOffset (byteAt b 0) (wordAt b 1)
  | 0x40 => .groupCommand (byteAt b 0)
  | _ => .restart

/-- The kind byte of a request (R175). -/
def requestKind (r : Request) : Byte :=
  match r with
  | .status _ => 0x01
  | .stationGet _ => 0x02
  | .stationSet _ _ _ => 0x03
  | .carGet _ => 0x04
  | .carSet _ _ => 0x05
  | .carDelete _ => 0x05
  | .carBadForm _ _ => 0x05
  | .groupGet => 0x06
  | .groupSet _ _ => 0x07
  | .snapshot => 0x10
  | .faultsRead => 0x11
  | .eventMask _ => 0x12
  | .stream _ => 0x13
  | .planWrite _ _ => 0x20
  | .planRead _ _ => 0x21
  | .planClear => 0x22
  | .commit _ => 0x23
  | .withdraw => 0x24
  | .planMode _ => 0x25
  | .jog _ _ => 0x30
  | .home _ => 0x31
  | .trim _ _ => 0x32
  | .openGate _ => 0x33
  | .closeGate _ => 0x34
  | .setOffset _ _ => 0x35
  | .groupCommand _ => 0x40
  | .restart => 0x50

/-- The body bytes of a request (R175, R193); the bytes a form leaves unused are 0. -/
def requestBody (r : Request) : List Byte :=
  match r with
  | .status c => [c]
  | .stationGet i => [i]
  | .stationSet i p v =>
    i :: bytes2 p ++ bytes2 v.kStep ++ bytes2 v.encScale ++ bytes2 v.rMax ++ bytes4 v.hMax ++ bytes2 v.tContact
      ++ bytes2 v.tRelease ++ bytes2 v.overload ++ bytes2 v.loss ++ bytes4 v.homeCount ++ bytes4 v.offset
  | .carGet n => [n]
  | .carSet n c =>
    [n, 0, c.fl, c.fr, c.rl, c.rr] ++ bytes2 c.twistLimit ++ [c.coupled] ++ bytes2 c.couplingLimit
  | .carDelete n => [n, 1, 0, 0, 0, 0, 0, 0, 0, 0, 0]
  | .carBadForm n f => [n, f, 0, 0, 0, 0, 0, 0, 0, 0, 0]
  | .groupGet => []
  | .groupSet p vs => bytes4 p ++ vs.flatMap bytes4
  | .snapshot => []
  | .faultsRead => []
  | .eventMask m => bytes2 m
  | .stream p => bytes2 p
  | .planWrite k s =>
    [k, s.kind, s.stopAfter] ++ bytes2 s.accel ++ bytes4 s.target ++ bytes2 s.cruise ++ bytes2 s.dwell
  | .planRead r k => [r, k]
  | .planClear => []
  | .commit k => [k]
  | .withdraw => []
  | .planMode m => [m]
  | .jog i d => i :: bytes4 d
  | .home i => [i]
  | .trim i d => i :: bytes4 d
  | .openGate i => [i]
  | .closeGate i => [i]
  | .setOffset i o => i :: bytes4 o
  | .groupCommand c => [c]
  | .restart => []

/-- The bytes CRC-16 covers (R172): the length, kind, tag and body. -/
def coveredBytes (kind tag : Byte) (body : List Byte) : List Byte :=
  nat2 (body.length + 2) ++ [kind, tag] ++ body

/-- The whole wire image of a frame (R190): sync, length, kind, tag, body, CRC-16. -/
def wireBytes (kind tag : Byte) (body : List Byte) : List Byte :=
  0xA5 :: coveredBytes kind tag body ++ bytes2 (crc16 (coveredBytes kind tag body))

/-- The bytes of a frame of the transmit queue on CTX. -/
def Frame.bytes (f : Frame) : List Byte := wireBytes f.kind f.tag f.body

/-- The bytes a host sends for request `r` with a tag. -/
def requestBytes (tag : Byte) (r : Request) : List Byte := wireBytes (requestKind r) tag (requestBody r)

/-- The station a request's index byte names; none outside 0..31. -/
def stationIndex (i : Byte) : Option Sta :=
  if h : i.toNat < 32 then some ⟨i.toNat, h⟩ else none

end Sys2Proof.Machine
end

