-- ==== Sys2Proof/Machine/Flags.lean ====
section
/-! DEFINITION. The codes of states, kinds and outcomes, and the group summary every frame carries (R177, R190 to R193). -/

namespace Sys2Proof.Machine

/-- The group state codes (R190). -/
def groupCode (g : GroupState) : Nat :=
  match g with
  | .setup => 0 | .prepared => 1 | .engaging => 2 | .poised => 3 | .moving => 4 | .holding => 5 | .stopping => 6
  | .stopped => 7 | .landing => 8 | .lockedOut => 9

/-- The outcome codes (R190). -/
def outcomeCode (o : ReplyOutcome) : Byte :=
  match o with
  | .done => 0x00 | .clamped => 0x01 | .busy => 0x02 | .wrongState => 0x03 | .badValue => 0x04 | .badConfig => 0x05
  | .noDatum => 0x06 | .permitLow => 0x07 | .loaded => 0x08 | .faultsOpen => 0x09 | .motionSeen => 0x0A
  | .geometry => 0x0B | .bankQueued => 0x0C | .tooLate => 0x0D | .empty => 0x0E | .unassigned => 0x0F
  | .unknownKind => 0x10 | .badLength => 0x11

/-- The station state codes (R191); FAULTED is coded by its prior state. -/
def stationCode (state : StationState) (prior : Option Prior) : Nat :=
  match state with
  | .unassigned => 0 | .idle => 1 | .homing => 2 | .jogging => 3 | .seeking => 4 | .confirming => 5 | .engaged => 6
  | .trimming => 7 | .releasing => 8
  | .faulted => match prior with
    | some .engaged => 10
    | _ => 9

/-- The prior state as a station state code (R194). -/
def priorCode (p : Prior) : Nat :=
  match p with
  | .idle => 1 | .engaged => 6

/-- The slot outcome codes (R191). -/
def slotCode (o : SlotOutcome) : Nat :=
  match o with
  | .none => 0 | .fresh => 1 | .overrange => 2 | .sensorFault => 3 | .stale => 4 | .garbled => 5 | .late => 6 | .silent => 7

/-- The fault kind codes (R192). -/
def faultCode (k : FaultKind) : Byte :=
  match k with
  | .syncTrip => 0x01 | .waitTimeout => 0x02 | .driveSlip => 0x03 | .noContact => 0x04 | .contactUnstable => 0x05
  | .noRelease => 0x06 | .overload => 0x07 | .loadLoss => 0x08 | .loadSilent => 0x09 | .travelLimit => 0x0A
  | .twist => 0x0B | .coupling => 0x0C | .runaway => 0x0D

/-- The classes of fault list entries (R107): latched 0, conditional 1, lockout 2. -/
def classOf (k : FaultKind) : Nat :=
  match k with
  | .syncTrip => 0 | .waitTimeout => 0 | .driveSlip => 0 | .noContact => 0 | .contactUnstable => 0 | .noRelease => 0
  | .overload => 1 | .loadLoss => 1 | .loadSilent => 1 | .travelLimit => 1 | .twist => 1 | .coupling => 1
  | .runaway => 2

/-- A subject's byte (R192). -/
def subjectByte (s : Subject) : Byte :=
  match s with
  | .station k => byteOf k.val
  | .car n => byteOf n
  | .coupling n => byteOf n
  | .none => 0xFF

/-- The stop cause codes (R192). -/
def causeCode (c : StopCause) : Byte :=
  match c with
  | .none => 0x00 | .command => 0x10 | .fault k _ => faultCode k | .permit => 0x11 | .reset => 0x12

/-- The subject byte of a stop cause (R192). -/
def causeSubject (c : StopCause) : Byte :=
  match c with
  | .fault _ s => subjectByte s
  | .none => 0xFF | .command => 0xFF | .permit => 0xFF | .reset => 0xFF

/-- The codes of the group commands (R94). -/
def commandCode (c : GroupCommand) : Byte :=
  match c with
  | .setupDone => 0x01 | .resetup => 0x02 | .engage => 0x03 | .run => 0x04 | .continueRun => 0x05 | .stop => 0x06
  | .resume => 0x07 | .land => 0x08 | .ackFaults => 0x09 | .clearLockout => 0x0A

/-- The group command of a code; none for a code not in R94's table. -/
def commandOf (code : Byte) : Option GroupCommand :=
  match code.toNat with
  | 0x01 => some .setupDone | 0x02 => some .resetup | 0x03 => some .engage | 0x04 => some .run | 0x05 => some .continueRun
  | 0x06 => some .stop | 0x07 => some .resume | 0x08 => some .land | 0x09 => some .ackFaults | 0x0A => some .clearLockout
  | _ => none

/-- The bank letters (R192, R194). -/
def bankCode (bank : Bank) : Nat :=
  match bank with
  | .a => 0 | .b => 1

/-- The commit kinds; 0 where absent (R190, R194). -/
def commitCode (c : Option CommitKind) : Nat :=
  match c with
  | none => 0 | some .replace => 1 | some .append => 2

/-- The run modes as PLAN_MODE and PLAN_READ carry them; 0 where absent (R194). -/
def modeCode (m : Option RunMode) : Nat :=
  match m with
  | none => 0 | some .single => 1 | some .chained => 2

/-- The segment kinds (R193). -/
def segmentCode (k : SegmentKind) : Nat :=
  match k with
  | .move => 1 | .dwell => 2

/-- The direction codes of a snapshot (R191). -/
def refDirCode (d : RefDir) : Nat :=
  match d with
  | .none => 0 | .up => 1 | .down => 2

/-- The operation codes of STATION_DONE (R192). -/
def operationCode (o : Operation) : Nat :=
  match o with
  | .home => 1 | .jog => 2 | .trim => 3

/-- The result codes of STATION_DONE (R192). -/
def resultCode (r : OpResult) : Nat :=
  match r with
  | .ok => 0 | .failed => 1 | .aborted => 2

/-- The priority of an event's kind, 1 the highest, which is also its kind code (R181, R192). -/
def Event.priority (e : Event) : Nat :=
  match e with
  | .lockout _ => 1 | .permit _ _ => 2 | .groupStop _ _ => 3 | .stationFault _ _ _ => 4 | .state _ _ => 5
  | .segmentDone _ _ _ _ _ => 6 | .planLow _ _ => 7 | .planTaken _ _ _ _ => 8 | .contact _ _ _ => 9
  | .released _ _ => 10 | .slip _ _ _ => 11 | .twistWarn _ _ _ => 12 | .imbalance _ _ _ => 13 | .stray _ _ => 14
  | .stationDone _ _ _ => 15

/-- A mark as a bit. -/
def bit (mark : Bool) : Nat := if mark then 1 else 0

/-- The group summary (R177, R190), formed from the state that stands. -/
def summary (s : State) : Half :=
  BitVec.ofNat 16 (groupCode s.group.state * 4096 + bit s.group.permit * 2048 + bit s.line.cold * 1024
    + bit s.sync.waiting * 512 + bit (!s.line.pending.isEmpty) * 256 + bankCode s.plan.active * 128
    + bit (s.plan.mode == .chained) * 64 + commitCode s.plan.commit * 16 + bit s.group.slot.isSome * 8)

/-- The kinds with a pending record, laid out as the event mask (R178, R184). -/
def pendingKinds (s : State) : Half :=
  s.line.pending.foldl (fun m p => m ||| BitVec.ofNat 16 (2 ^ (p.raised.event.priority - 1))) 0

/-- The speed code of the straps (R171). -/
def speedCode (l : Line) : Nat := 2 * bit l.speed1 + bit l.speed0

end Sys2Proof.Machine
end

