-- ==== Sys2Proof/Machine/Ops.lean ====
section
/-! DEFINITION. The named reads and updates of State that the blocks share, and the raising of events. -/

namespace Sys2Proof.Machine

/-- The jack of station `k`. -/
def State.jack (s : State) (k : Sta) : Jack := s.jacks.get k

/-- `f` applied to the jack of station `k`. -/
def State.updJack (s : State) (k : Sta) (f : Jack → Jack) : State := { s with jacks := s.jacks.modify k f }

/-- `f k` applied to the jack of every station `k`. -/
def State.updAll (s : State) (f : Sta → Jack → Jack) : State := { s with jacks := s.jacks.mapAll f }

/-- `f` applied to the record of station `k`. -/
def State.updRec (s : State) (k : Sta) (f : StationRec → StationRec) : State :=
  s.updJack k (fun j => { j with record := f j.record })

/-- `f` applied to the generator of station `k`. -/
def State.updGen (s : State) (k : Sta) (f : Generator → Generator) : State :=
  s.updJack k (fun j => { j with gen := f j.gen })

/-- `f` carried out for every station in ascending order. -/
def forStations (f : Sta → State → State) (s : State) : State := Sta.all.foldl (fun t k => f k t) s

/-- A station is assigned unless its state is UNASSIGNED (R2, log 28). -/
def Jack.assigned (j : Jack) : Bool := j.record.state != .unassigned

/-- Some station's jack passes `p`. -/
def anyJack (s : State) (p : Jack → Bool) : Bool := Sta.all.any (fun k => p (s.jack k))

/-- Every assigned station's jack passes `p`. -/
def allAssigned (s : State) (p : Jack → Bool) : Bool :=
  Sta.all.all (fun k => !(s.jack k).assigned || p (s.jack k))

/-- The lowest station whose jack passes `p`. -/
def lowestStation (s : State) (p : Jack → Bool) : Option Sta := Sta.all.find? (fun k => p (s.jack k))

/-- A station in the given state. -/
def Jack.isIn (j : Jack) (st : StationState) : Bool := j.record.state == st

/-- Some station holds a contact height. -/
def anyContact (s : State) : Bool := anyJack s (fun j => j.record.contact.isSome)

/-- The height of the latched count (R59). -/
def Jack.latchedHeight (j : Jack) : Int := heightOf j.pos.latched j.record.settings.encScale
/-- The height of the live count (R59). -/
def Jack.liveHeight (j : Jack) : Int := heightOf j.pos.count j.record.settings.encScale

/-- The segments of the active plan (R156). -/
def Plan.activeBank (p : Plan) : List Segment :=
  match p.active with
  | .a => p.bankA
  | .b => p.bankB

/-- The segments of the pending bank (R156). -/
def Plan.pendingBank (p : Plan) : List Segment :=
  match p.active with
  | .a => p.bankB
  | .b => p.bankA

/-- The pending bank's segments replaced by `l`. -/
def Plan.setPending (p : Plan) (l : List Segment) : Plan :=
  match p.active with
  | .a => { p with bankB := l }
  | .b => { p with bankA := l }

/-- The letter of the pending bank. -/
def Plan.pendingLetter (p : Plan) : Bank :=
  match p.active with
  | .a => .b
  | .b => .a

/-- The segment at the plan position; none once the active plan has completed (R156). -/
def State.segment (s : State) : Option Segment := s.plan.activeBank[s.sync.planPos]?

/-- The active plan has completed (R156). -/
def State.planCompleted (s : State) : Bool := s.plan.activeBank.length ≤ s.sync.planPos

/-- An event raised, to be handed to the line controller with the cycle number of the latest cycle start (R181). -/
def raise (e : Event) (s : State) : State :=
  { s with line := { s.line with raised := s.line.raised ++ [{ event := e, cycle := s.group.cycle }] } }

/-- L, v and the direction as at an entry to SETUP or PREPARED, and as ENGAGING to POISED sets them (R121, R102). -/
def clearReference (s : State) : State :=
  { s with sync := { s.sync with ref := 0, speed := 0, dir := .none } }

/-- A change of the group state: the STATE event (R92), and the reference cleared at an entry to SETUP or PREPARED (R121). -/
def enterGroup (g : GroupState) (s : State) : State :=
  let t := raise (.state s.group.state g) { s with group := { s.group with state := g } }
  if g = .setup ∨ g = .prepared then clearReference t else t

/-- The stop cause set. -/
def setCause (c : StopCause) (s : State) : State := { s with group := { s.group with cause := c } }

/-- The wait count set to 0. -/
def clearWait (s : State) : State := { s with group := { s.group with waitCount := 0 } }

/-- The reference speed set to 0, the reference lift left (R104, R109, R111). -/
def freezeReference (s : State) : State := { s with sync := { s.sync with speed := 0 } }

/-- A fault stop is under way: STOPPING with a fault as its cause (R104). -/
def faultStopUnderWay (s : State) : Bool :=
  match s.group.state, s.group.cause with
  | .stopping, .fault _ _ => true
  | _, _ => false

/-- No value reaches a generator: the permit is low (R48) or the group is LOCKED_OUT (R49). -/
def generatorsHeld (s : State) : Bool := !s.group.permit || s.group.state == .lockedOut

/-- Entering STOPPING from another state opens a new stop, whose rates are not yet forced (R106, log 22). -/
def enterStopping (s : State) : State :=
  if s.group.state = .stopping then s
  else enterGroup .stopping { s with group := { s.group with ratesForced := false } }

end Sys2Proof.Machine
end

