-- ==== Sys2Proof/Machine/Reports.lean ====
section
/-! DEFINITION. The bodies the part sends: event notices, snapshots and the contents of replies (R185, R190 to R194). -/

namespace Sys2Proof.Machine

/-! ### Event notices (R192) -/

/-- The data bytes of an event, before the padding to 11. -/
def eventData (e : Event) : List Byte :=
  match e with
  | .lockout k => [byteOf k.val]
  | .permit high stopped => [markByte high, markByte stopped]
  | .groupStop k s => [faultCode k, subjectByte s]
  | .stationFault k s listed => [faultCode k, subjectByte s, byteOf (classOf k), markByte listed]
  | .state l r => [byteOf (groupCode l), byteOf (groupCode r)]
  | .segmentDone bank i k last holding =>
    [byteOf (bankCode bank), byteOf i, byteOf (segmentCode k), markByte last, markByte holding]
  | .planLow bank i => [byteOf (bankCode bank), byteOf i]
  | .planTaken bank k n continues => [byteOf (bankCode bank), byteOf (commitCode (some k)), byteOf n, markByte continues]
  | .contact k h n => byteOf k.val :: bytes4 (field32 h) ++ [byteOf n]
  | .released k l => byteOf k.val :: bytes4 (field32 l)
  | .slip k d n => byteOf k.val :: int2 d ++ [byteOf n]
  | .twistWarn n t l => byteOf n :: bytes4 (field32 t) ++ nat2 l
  | .imbalance k l m => byteOf k.val :: nat2 l ++ nat2 m
  | .stray n addr => [byteOf n, markByte addr.isSome, addr.getD 0]
  | .stationDone k o r => [byteOf k.val, byteOf (operationCode o), byteOf (resultCode r)]

/-- The 11 data bytes of a notice: the event's data, the rest 0 (R190, R192). -/
def eventBytes (e : Event) : List Byte := (eventData e ++ List.replicate 11 0).take 11

/-- The frame of an event notice, its summary formed from the state that stands (R182, R192). -/
def eventFrame (r : Raised) (more : Bool) (s : State) : Frame :=
  { cls := .eventNotice, kind := 0x70, tag := 0,
    body := bytes2 (summary s) ++ [byteOf r.event.priority, markByte more, r.cycle] ++ eventBytes r.event }

/-! ### Snapshots (R185, R191) -/

/-- The lift above contact of a station that holds a contact height, and the height of any other, from the latched count. -/
def Jack.liftOrHeight (j : Jack) : Int :=
  match j.record.contact with
  | some c => j.latchedHeight - c
  | none => j.latchedHeight

/-- The error as it is reported (R120): in µm, rounded to nearest and saturated. -/
def reportedError (e : Int) : Int := saturate16 (roundNearest e 100)

/-- The 12-byte entry of station `k`. -/
def snapshotEntry (k : Sta) (j : Jack) : List Byte :=
  [byteOf (slotCode j.link.outcome * 32 + k.val),
   byteOf (stationCode j.record.state j.record.prior * 16 + bit j.mon.slipMark * 8 + bit j.gen.ceiling * 4
     + bit j.link.fresh * 2 + bit j.mon.gateOpen)]
    ++ bytes4 (field32 j.liftOrHeight) ++ int2 (reportedError j.err) ++ int2 (saturate16 j.rate) ++ nat2 j.link.held

/-- The stations that have an entry: the assigned ones, in ascending order. -/
def assignedStations (s : State) : List Sta := Sta.all.filter (fun k => (s.jack k).assigned)

/-- The snapshot: the 8-byte group part and the entries. -/
def snapshotBytes (s : State) : List Byte :=
  [s.group.cycle, byteOf (assignedStations s).length] ++ nat4 s.sync.ref.toNat
    ++ nat2 (refDirCode s.sync.dir * 16384 + s.sync.speed)
    ++ (assignedStations s).flatMap (fun k => snapshotEntry k (s.jack k))

/-- The frame of a snapshot notice. -/
def snapshotFrame (s : State) : Frame :=
  { cls := .snapshotNotice, kind := 0x71, tag := 0, body := bytes2 (summary s) ++ snapshotBytes s }

/-! ### Contents of replies (R194) -/

/-- A station setting record as STATION_SET carries it (R194): 26 bytes. -/
def settingsBytes (g : Settings) : List Byte :=
  nat2 g.kStep ++ nat2 g.encScale ++ nat2 g.rMax ++ nat4 g.hMax ++ nat2 g.tContact ++ nat2 g.tRelease ++ nat2 g.overload
    ++ nat2 g.loss ++ bytes4 g.homeCount ++ bytes4 (field32 g.offset)

/-- The corners of a car in the order FL, FR, RL, RR. -/
def Car.corners (c : Car) : List (Option Sta) := [c.fl, c.fr, c.rl, c.rr]

/-- The listings of the car table from car 1 upward and, within a car, in corner order: station, car number, corner (R22). -/
def listings (cars : List Car) : List (Sta × Nat × Nat) :=
  cars.zipIdx.flatMap (fun (c, i) =>
    c.corners.zipIdx.filterMap (fun (o, corner) => o.map (fun k => (k, i + 1, corner))))

/-- A station's car and corner: its first listing (R22). -/
def carAndCorner (cars : List Car) (k : Sta) : Option (Nat × Nat) :=
  ((listings cars).find? (fun l => l.1 == k)).map (fun l => l.2)

/-- The content of a STATION_GET reply (R3, R194). -/
def stationContent (s : State) (k : Sta) : List Byte :=
  let j := s.jack k
  let r := j.record
  [byteOf k.val, byteOf (stationCode r.state r.prior)]
    ++ optional (carAndCorner s.cars k) (fun p => [byteOf p.1, byteOf p.2])
    ++ settingsBytes r.settings
    ++ optional r.pendingOffset (fun o => bytes4 (field32 o))
    ++ [markByte r.datumKnown]
    ++ optional r.contact (fun c => bytes4 (field32 c))
    ++ optional r.start (fun h => bytes4 (field32 h))
    ++ [byteOf r.attempts, byteOf r.confirm]
    ++ optional r.faultKind (fun f => [faultCode f, byteOf (priorCode (r.prior.getD .idle))])
    ++ bytes4 j.pos.count ++ bytes4 j.pos.latched
    ++ optional (if r.datumKnown then some j.latchedHeight else none) (fun h => bytes4 (field32 h))
    ++ nat2 j.link.held
    ++ [byteOf j.link.miss, byteOf (slotCode j.link.outcome), markByte j.mon.slipMark, byteOf j.mon.slipRun,
        markByte j.mon.gateOpen]

/-- A corner byte: the station index, or 0xFF for an absent corner. -/
def cornerByte (o : Option Sta) : Byte :=
  match o with
  | some k => byteOf k.val
  | none => 0xFF

/-- The content of a CAR_GET reply for car number `n` (R25, R194). -/
def carContent (s : State) (n : Nat) : List Byte :=
  byteOf s.cars.length ::
    optional (if n = 0 then none else s.cars[n - 1]?) (fun c =>
      c.corners.map cornerByte ++ nat2 c.twistLimit ++ [markByte c.coupled] ++ nat2 c.couplingLimit
        ++ optional c.lastTwist (fun t => bytes4 (field32 t)) ++ [markByte c.warnRaised]
        ++ optional c.lastStep (fun t => bytes4 (field32 t)) ++ [markByte c.couplingSet]
        ++ c.corners.map (fun o => match o with
          | some k => markByte (s.jack k).imbalance
          | none => 0xFF))

/-- The group parameters in the order of R114. -/
def GroupParams.toList (p : GroupParams) : List Nat :=
  [p.lMax, p.vMax, p.gain, p.deadband, p.holdBand, p.tripBand, p.waitLimit, p.engageRate, p.confirmTarget, p.attemptLimit,
   p.window, p.landRate, p.landAccel, p.clearance, p.homeRate, p.jogRate, p.homeWindow, p.twistWarn, p.imbalance,
   p.gateLength, p.slipTolerance, p.slipLimit, p.drift, p.runawayConfirm, p.missLimit, p.lossConfirm]

/-- The content of a GROUP_GET reply (R92, R194). -/
def groupContent (s : State) : List Byte :=
  s.group.params.toList.flatMap nat4
    ++ [byteOf (groupCode s.group.state), markByte s.group.validated, causeCode s.group.cause, causeSubject s.group.cause,
        markByte s.group.permit]
    ++ nat2 s.group.waitCount
    ++ [s.group.cycle, byteOf s.group.faults.length, markByte s.group.overflow, markByte s.group.slot.isSome]

/-- The content of a FAULTS_READ reply (R108, R194). -/
def faultsContent (s : State) : List Byte :=
  [markByte s.group.overflow, byteOf s.group.faults.length]
    ++ s.group.faults.flatMap (fun e => [faultCode e.kind, subjectByte e.subject, e.cycle, byteOf (classOf e.kind)])

/-- The content of a STATUS reply (R178, R194); `coldBefore` is the cold mark as it stood before the request. -/
def statusContent (s : State) (coldBefore : Bool) : List Byte :=
  [markByte coldBefore, s.group.cycle, byteOf s.group.faults.length, markByte s.group.overflow] ++ bytes2 (pendingKinds s)
    ++ [byteOf (speedCode s.line)]

/-- A segment record as PLAN_READ returns it (R193). -/
def segmentBytes (g : Segment) : List Byte :=
  [byteOf (segmentCode g.kind), markByte g.stopAfter] ++ nat2 g.accel ++ nat4 g.target ++ nat2 g.cruise ++ nat2 g.dwell

/-- The content of a PLAN_READ reply (R160, R194). -/
def planContent (s : State) (pendingRole : Bool) (k : Nat) : List Byte :=
  let segments := if pendingRole then s.plan.pendingBank else s.plan.activeBank
  let letter := if pendingRole then s.plan.pendingLetter else s.plan.active
  [byteOf (bankCode letter), byteOf segments.length]
    ++ (if pendingRole then [markByte s.plan.commit.isSome, byteOf (commitCode s.plan.commit)]
        else [byteOf s.sync.planPos, byteOf (modeCode s.plan.segMode)])
    ++ optional segments[k]? segmentBytes

end Sys2Proof.Machine
end

