-- ==== Sys2Proof/Machine/Line.lean ====
section
/-! DEFINITION. The transmit queue, the event pending set, the admission of frames and the snapshot stream (R176 to R186). -/

namespace Sys2Proof.Machine

/-- The transmit queue replaced. -/
def setQueue (q : List Frame) (s : State) : State := { s with line := { s.line with queue := q } }

/-- The event pending set replaced. -/
def setPendingEvents (l : List PendingEvent) (s : State) : State := { s with line := { s.line with pending := l } }

/-- A frame admitted at the end of the transmit queue (R179). -/
def enqueue (f : Frame) (s : State) : State := setQueue (s.line.queue ++ [f]) s

/-- A kind is masked: bit `priority − 1` of the event mask (R184). -/
def masked (mask : Half) (e : Event) : Bool := mask.getLsbD (e.priority - 1)

/-- Two events are of one kind. -/
def sameKind (e f : Event) : Bool := e.priority == f.priority

/-- A record put into the pending set, which stands in order of priority. -/
def insertPending (p : PendingEvent) (l : List PendingEvent) : List PendingEvent :=
  match l with
  | [] => [p]
  | q :: rest =>
    if p.raised.event.priority < q.raised.event.priority then p :: q :: rest else q :: insertPending p rest

/-- An event handed to the line controller (R182). -/
def handEvent (r : Raised) (s : State) : State :=
  if s.line.pending.any (fun p => sameKind p.raised.event r.event) then
    setPendingEvents
      (s.line.pending.map (fun p => if sameKind p.raised.event r.event then { p with more := true } else p)) s
  else if !masked s.line.mask r.event && s.line.queue.length < Config.noticeRoom then
    enqueue (eventFrame r false s) s
  else
    setPendingEvents (insertPending { raised := r, more := false } s.line.pending) s

/-- The events raised, handed one after another in the order raised (R182). -/
def handOver (s : State) : State :=
  s.line.raised.foldl (fun t r => handEvent r t) { s with line := { s.line with raised := [] } }

/-- One move of R183: the unmasked record of highest priority becomes a notice while fewer than 5 frames are held. -/
def moveOne (s : State) : State :=
  if s.line.queue.length < Config.noticeRoom then
    match s.line.pending.find? (fun p => !masked s.line.mask p.raised.event) with
    | none => s
    | some p =>
      let t := setPendingEvents (s.line.pending.filter (fun q => !sameKind q.raised.event p.raised.event)) s
      enqueue (eventFrame p.raised p.more t) t
  else s

/-- Pending records moved into the queue until it holds 5 frames or no unmasked record is left (R183). Five moves bring any
queue to 5 frames. -/
def movePending (s : State) : State := moveOne^[Config.noticeRoom] s

/-! ### Replies -/

/-- What a request is answered with: its outcome and the content after the summary (R176, R194). -/
structure Reply where
  outcome : ReplyOutcome
  content : List Byte
deriving DecidableEq, Repr

/-- A reply without content. -/
def Reply.plain (o : ReplyOutcome) : Reply := { outcome := o, content := [] }

/-- The frame of a reply, its summary formed from the state that stands (R176, R177). -/
def replyFrame (cls : FrameClass) (kind tag : Byte) (r : Reply) (s : State) : Frame :=
  { cls := cls, kind := kind, tag := tag, body := outcomeCode r.outcome :: bytes2 (summary s) ++ r.content }

/-! ### The stream (R186) -/

/-- A snapshot that has fallen due placed in the queue: replaced, skipped or admitted (R186). The first frame of the queue is
being transmitted. -/
def placeSnapshot (s : State) : State :=
  match s.line.queue with
  | [] => enqueue (snapshotFrame s) s
  | sending :: waiting =>
    if sending.cls = .snapshotNotice then s
    else if waiting.any (fun f => f.cls == .snapshotNotice) then
      setQueue (sending :: waiting.map (fun f => if f.cls == .snapshotNotice then snapshotFrame s else f)) s
    else if s.line.queue.length < Config.noticeRoom then enqueue (snapshotFrame s) s
    else s

/-- The stream's count reaches its period at the next cycle start. -/
def streamDue (s : State) : Bool := s.line.streamPeriod != 0 && s.line.streamPeriod ≤ s.line.streamCount + 1

/-- The stream count set to `n`. -/
def setStreamCount (n : Nat) (s : State) : State := { s with line := { s.line with streamCount := n } }

/-- A due snapshot: the count becomes 0 and the snapshot is placed. -/
def streamSnapshot (s : State) : State := placeSnapshot (setStreamCount 0 s)

/-- The stream's work at a cycle start. -/
def streamWork (s : State) : State :=
  if streamDue s then streamSnapshot s
  else if s.line.streamPeriod = 0 then s
  else setStreamCount (s.line.streamCount + 1) s

end Sys2Proof.Machine
end

