-- ==== Sys2Proof/Machine/Generator.lean ====
section
/-! DEFINITION. The step generators, the handover of rates and counted moves, and the brake outputs (R38 to R55). -/

namespace Sys2Proof.Machine

/-! ### One generator -/

/-- A new direction (R39, R44): DIR takes it at once while STEP is low, and at the end of the step pulse while STEP is high
(log 16). -/
def Generator.turn (g : Generator) (d : Dir) : Generator :=
  if g.stepHigh then { g with dir := d } else { g with dir := d, dirHigh := d == .up }

/-- RATE with a divisor and direction, a period of it begun (R43, R44). -/
def Generator.startRate (g : Generator) (d : Divisor) (dir : Dir) : Generator :=
  { g.turn dir with run := .rate, divisor := some d, pending := none }

/-- COUNTED with a move's divisor, direction and steps, its first period begun (R45). -/
def Generator.startMove (g : Generator) (d : Divisor) (dir : Dir) (steps : Nat) : Generator :=
  { g.turn dir with run := .counted, divisor := some d, pending := none, remaining := steps }

/-- IDLE with nothing pending (R43, R46). -/
def Generator.rest (g : Generator) : Generator :=
  { g with run := .idle, divisor := none, pending := none, remaining := 0 }

/-- A value handed (R42, R44) or a counted move ordered (R45). A counted move ordered in COUNTED, which the spec does not
describe, waits as the pending value (log 12, DESIGN CHOICE). -/
def Generator.hand (g : Generator) (v : PendingValue) : Generator :=
  match g.run, v with
  | .idle, .stop => g
  | .idle, .rate d dir => g.startRate d dir
  | .idle, .move d dir n => g.startMove d dir n
  | .rate, .move d dir n => { g with pending := some (.move d dir n) }
  | .rate, v => match g.pending with
    | some (.move _ _ _) => g
    | _ => { g with pending := some v }
  | .counted, .move d dir n => { g with pending := some (.move d dir n) }
  | .counted, _ => g

/-- The completion of the period in progress (R43, R45, R46): STEP rises, and the pending value or the count is acted on. -/
def Generator.complete (g : Generator) : Generator :=
  let p := { g with stepHigh := true }
  match g.run with
  | .idle => g
  | .rate => match g.pending with
    | none => p
    | some .stop => p.rest
    | some (.rate d dir) => p.startRate d dir
    | some (.move d dir n) => p.startMove d dir n
  | .counted =>
    if 1 < g.remaining then { p with remaining := g.remaining - 1 }
    else match g.pending with
      | some (.move d dir n) => p.startMove d dir n
      | _ => p.rest

/-- The stop form of a counted move (R47). In RATE with the move waiting, the generator is left to go IDLE at the completion of
its period, as under the stop value (log 29). -/
def Generator.stopForm (g : Generator) : Generator :=
  match g.run with
  | .idle => g
  | .rate => match g.pending with
    | some (.move _ _ _) => { g with pending := some .stop }
    | _ => g
  | .counted => { g with remaining := 0, pending := none }

/-- The period abandoned without its pulse (R48): STEP low at once, DIR keeps its level. An IDLE generator loses its pending
value. -/
def Generator.abandon (g : Generator) : Generator :=
  match g.run with
  | .idle => { g with pending := none }
  | _ => { g.rest with stepHigh := false, dir := if g.dirHigh then .up else .down }

/-- The end of the step pulse (R39): STEP falls and DIR takes the generator's direction. -/
def Generator.pulseEnd (g : Generator) : Generator :=
  if g.stepHigh then { g with stepHigh := false, dirHigh := g.dir == .up } else g

/-- The generator is running (R38). -/
def Generator.running (g : Generator) : Bool := g.run != .idle

/-! ### Handing values -/

/-- A rate commanded for station `k` (R40, R42, R136): converted, the rate-ceiling mark set or cleared (R41), the commanded rate
recorded, and the value handed unless the permit is low or the group LOCKED_OUT (R48, R49). -/
def handRate (k : Sta) (r : Int) (s : State) : State :=
  s.updJack k (fun j =>
    let g := { j.gen with ceiling := heldAtCeiling r j.record.settings.kStep }
    { j with rate := r, gen := if generatorsHeld s then g else g.hand (convertRate r j.record.settings.kStep) })

/-- A counted move ordered for station `k` (R45), at a rate above 0; discarded unstarted under R48 and R49. -/
def orderMove (k : Sta) (rate : Nat) (dir : Dir) (steps : Nat) (s : State) : State :=
  s.updJack k (fun j =>
    let g := { j.gen with ceiling := heldAtCeiling rate j.record.settings.kStep }
    { j with gen := if generatorsHeld s then g else g.hand (.move (divisorOf rate j.record.settings.kStep) dir steps) })

/-- The commanded rates and rate-ceiling marks cleared, as for stations that receive no rate at this cycle start (R41, R136). -/
def clearRates (s : State) : State :=
  s.updAll (fun _ j => { j with rate := 0, gen := { j.gen with ceiling := false } })

/-! ### Brakes -/

/-- A FAULTED station's generator runs a counted move taken under R5. -/
def Jack.movesWhileFaulted (j : Jack) : Bool :=
  j.isIn .faulted && j.gen.running && (match j.record.move with
    | some m => m.underFault
    | none => false)

/-- The level a station's brake output is called for (R50). -/
def brakeCalled (g : GroupState) (j : Jack) : Brake :=
  match j.record.state with
  | .homing => .released | .jogging => .released | .seeking => .released | .confirming => .released
  | .trimming => .released | .releasing => .released
  | .engaged => match g with
    | .poised => .released | .moving => .released | .holding => .released | .stopping => .released | .landing => .released
    | .setup => .applied | .prepared => .applied | .engaging => .applied | .stopped => .applied | .lockedOut => .applied
  | .faulted => if j.movesWhileFaulted then .released else .applied
  | .unassigned => .applied
  | .idle => .applied

/-- A brake output after an event (R50 to R52): applied while the permit is low; otherwise at the called-for level, an APPLIED
level waiting for a running generator. -/
def settledBrake (permit : Bool) (g : GroupState) (j : Jack) : Brake :=
  if !permit then .applied
  else match brakeCalled g j with
    | .released => .released
    | .applied => if j.gen.running then j.gen.brake else .applied

/-- Every brake output re-evaluated. -/
def settleBrakes (s : State) : State :=
  s.updAll (fun _ j => { j with gen := { j.gen with brake := settledBrake s.group.permit s.group.state j } })

/-! ### Reports to the tracking monitor -/

/-- The signed tally of a slip gate, which saturates at its ends (R62). -/
def tally (x : Int) : Int := clampInt (-8388608) 8388607 x

/-- The sign of a direction. -/
def Dir.sign (d : Dir) : Int :=
  match d with
  | .up => 1
  | .down => -1

/-- A step pulse reported (R53, R62, R67). -/
def Monitor.pulse (m : Monitor) (d : Dir) : Monitor :=
  { m with gate := m.gate.map (fun g => { g with steps := tally (g.steps + d.sign) }),
           stepTally := if m.gateOpen then m.stepTally + 1 else m.stepTally }

/-- An encoder edge reported (R56, R62, R67). -/
def Monitor.edge (m : Monitor) (d : Dir) : Monitor :=
  { m with gate := m.gate.map (fun g => { g with edges := tally (g.edges + d.sign) }),
           edgeTally := if m.gateOpen then m.edgeTally + 1 else m.edgeTally }

end Sys2Proof.Machine
end

