-- ==== Sys2Proof/Machine/Stations.lean ====
section
/-! DEFINITION. Counted moves of stations, the idle event, faulting a station and its return, and assignment (R2, R6 to R9, R16 to R18, R153, R195). -/

namespace Sys2Proof.Machine

/-! ### Ends of a counted move (R6) -/

/-- The state a station goes to at the end of its counted move; FAULTED stands (R6). -/
def moveEndState (s : StationState) : StationState :=
  match s with
  | .homing => .idle
  | .jogging => .idle
  | .trimming => .engaged
  | .unassigned => .unassigned | .idle => .idle | .seeking => .seeking | .confirming => .confirming | .engaged => .engaged
  | .releasing => .releasing | .faulted => .faulted

/-- The record of a station whose counted move has ended. -/
def StationRec.endMove (r : StationRec) : StationRec := { r with state := moveEndState r.state, move := none }

/-- The move's generator has gone idle of itself: completion (R6, R46), or the end of a stop form, whose STATION_DONE has been
raised (R195). A HOME that ends so has exhausted its window (R9). -/
def finishMove (k : Sta) (s : State) : State :=
  match (s.jack k).record.move with
  | none => s
  | some m =>
    let t := s.updRec k StationRec.endMove
    if m.done then t else raise (.stationDone k m.op (if m.op = .home then .failed else .ok)) t

/-- The stop form of a station's HOME, JOG or TRIM with the result the ordering event gives (R6, R47). A move already ended is
not ended a second time (R195). -/
def stopMove (k : Sta) (result : OpResult) (s : State) : State :=
  match (s.jack k).record.move with
  | none => s
  | some m =>
    if m.done then s
    else raise (.stationDone k m.op result)
      ((s.updGen k Generator.stopForm).updRec k (fun r => { r with move := some { m with done := true } }))

/-- The abandon form, the generator already abandoned (R6, R18): the station goes to its end state at once. -/
def abandonMove (k : Sta) (s : State) : State :=
  match (s.jack k).record.move with
  | none => s
  | some m =>
    let t := s.updRec k StationRec.endMove
    if m.done then t else raise (.stationDone k m.op .aborted) t

/-- The stop form, with result ABORTED, of every trim in progress (R12). -/
def endTrims (s : State) : State :=
  forStations (fun k t => match (t.jack k).record.move with
    | some m => if m.op = .trim then stopMove k .aborted t else t
    | none => t) s

/-! ### Release and the idle event -/

/-- A RELEASING station whose confirm count has reached P is clearing (R151). -/
def clearing (p : GroupParams) (j : Jack) : Bool := j.isIn .releasing && p.confirmTarget ≤ j.record.confirm

/-- The last assigned station has become IDLE in LANDING: the group enters PREPARED (R102). -/
def landedCheck (s : State) : State :=
  if s.group.state = .landing ∧ allAssigned s (fun j => j.isIn .idle) then enterGroup .prepared s else s

/-- A station's release completes (R153). -/
def finishRelease (k : Sta) (s : State) : State :=
  let j := s.jack k
  let lift := j.liveHeight - j.record.contact.getD 0
  landedCheck (raise (.released k lift)
    (s.updRec k (fun r => { r with state := .idle, contact := none, start := none, confirm := 0 })))

/-- The rest count latched to the live count (R69). -/
def Jack.latchRest (j : Jack) : Jack := { j with mon := { j.mon with rest := j.pos.count } }

/-- The idle event of a station's generator (R53): the rest count is latched, and the counted move that ended is taken by the
contact sequencer or the station table. -/
def idleEvent (k : Sta) (s : State) : State :=
  let t := s.updJack k Jack.latchRest
  if clearing t.group.params (t.jack k) then finishRelease k t else finishMove k t

/-! ### FAULTED (R16, R17) -/

/-- The prior state recorded for a state (R16). -/
def priorOf (s : StationState) : Prior :=
  match s with
  | .engaged => .engaged
  | .trimming => .engaged
  | .releasing => .engaged
  | .unassigned => .idle | .idle => .idle | .homing => .idle | .jogging => .idle | .seeking => .idle
  | .confirming => .idle | .faulted => .idle

/-- The record of a station that enters FAULTED (R16). -/
def StationRec.toFaulted (r : StationRec) (kind : FaultKind) : StationRec :=
  { r with
    state := .faulted
    faultKind := some kind
    prior := some (priorOf r.state)
    contact := if priorOf r.state = .engaged then r.contact else none
    start := none
    attempts := 0
    confirm := 0
    move := r.move.map (fun m => { m with underFault := false }) }

/-- A fault names station `k` (R16). The stop form reaches a clearance move too, which raises no STATION_DONE. -/
def faultStation (kind : FaultKind) (k : Sta) (s : State) : State :=
  match (s.jack k).record.state with
  | .unassigned => s
  | .faulted => if kind = .travelLimit then s else stopMove k .aborted s
  | _ => ((stopMove k .aborted s).updGen k Generator.stopForm).updRec k (fun r => r.toFaulted kind)

/-- The kind of the oldest entry that names a station (R17). -/
def oldestFault (l : List FaultEntry) (k : Sta) : Option FaultKind :=
  (l.find? (fun e => e.subject == .station k)).map (fun e => e.kind)

/-- The record of a FAULTED station after the test of R17, `oldest` being the kind of the oldest entry that names it. A move taken
while FAULTED and still in progress goes on as JOGGING or TRIMMING (R17). One that has been ended in the stop form counts as in progress
until its last period is over, as R6 has it of a station that is not FAULTED (log 40, DESIGN CHOICE). The last period of a move that the
fault itself ended is left to its generator (log 25). -/
def StationRec.retest (r : StationRec) (oldest : Option FaultKind) : StationRec :=
  if r.state = .faulted then
    match oldest with
    | some kind => { r with faultKind := some kind }
    | none =>
      let moving := match r.move with
        | some m => m.underFault
        | none => false
      { r with
        state := match r.prior with
          | some .engaged => if moving then .trimming else .engaged
          | _ => if moving then .jogging else .idle
        faultKind := none
        prior := none
        move := if moving then r.move else none }
  else r

/-- The test of R17 for every FAULTED station. -/
def returnFaulted (s : State) : State :=
  s.updAll (fun k j => { j with record := j.record.retest (oldestFault s.group.faults k) })

/-- The fault list replaced after a removal; the overflow mark becomes CLEAR when fewer than 16 entries remain (R103). -/
def setFaults (l : List FaultEntry) (s : State) : State :=
  { s with group := { s.group with
    faults := l, overflow := s.group.overflow && Config.faultListSize ≤ l.length } }

/-! ### Assignment (R2) -/

/-- Some car lists the station. -/
def listed (cars : List Car) (k : Sta) : Bool := cars.any (fun c => c.corners.any (fun o => o == some k))

/-- A station that an accepted car-table change leaves listed by no car (R2, R68). -/
def unassign (k : Sta) (s : State) : State :=
  let t := stopMove k .aborted s
  t.updJack k (fun j => { j with
    record := { j.record with
      state := .unassigned, faultKind := none, prior := none, contact := none, start := none, pendingOffset := none,
      attempts := 0, confirm := 0, move := none }
    mon := if j.mon.gateOpen then
        { j.mon with gateOpen := false, stepTally := 0, edgeTally := 0, openCycles := 0, gate := none }
      else j.mon })

/-- The assignment of R2 applied to the whole table: newly listed stations become IDLE, stations no longer listed UNASSIGNED,
their entries are removed, and the test of R17 is made when entries were removed (log 30). -/
def applyAssignment (s : State) : State :=
  let dropped := Sta.all.filter (fun k => (s.jack k).assigned && !listed s.cars k)
  let t := dropped.foldl (fun t k => unassign k t) s
  let u := t.updAll (fun k j =>
    if j.isIn .unassigned && listed s.cars k then { j with record := { j.record with state := .idle } } else j)
  let kept := u.group.faults.filter (fun e => !dropped.any (fun k => e.subject == .station k))
  if kept.length = u.group.faults.length then u else returnFaulted (setFaults kept u)

end Sys2Proof.Machine
end

