-- ==== Sys2Proof/Machine/Detections.lean ====
section
/-! DEFINITION. Taking a detection: the fault list, fault stops, lockout, and the motion-engine reset (R103 to R105, R109, R113). -/

namespace Sys2Proof.Machine

/-- The record of a station moved by a stop (R105). -/
def StationRec.moveByStop (r : StationRec) : StationRec :=
  match r.state with
  | .seeking => { r with state := .idle, start := none, attempts := 0, confirm := 0 }
  | .confirming => { r with state := .idle, start := none, attempts := 0, confirm := 0 }
  | .releasing => { r with state := .engaged, start := none, attempts := 0, confirm := 0 }
  | .unassigned => r | .idle => r | .homing => r | .jogging => r | .engaged => r | .trimming => r | .faulted => r

/-- The stations moved by a stop (R105); a clearance move ends in the stop form. -/
def moveStations (s : State) : State :=
  s.updAll (fun _ j => { j with
    record := j.record.moveByStop
    gen := if j.isIn .releasing then j.gen.stopForm else j.gen })

/-- Every generator abandoned (R48, R49), the rest count latched at each passage into IDLE (R53, R69). -/
def abandonAll (s : State) : State :=
  s.updAll (fun _ j =>
    let t := if j.gen.running then j.latchRest else j
    { t with gen := t.gen.abandon })

/-- The descent mark ENDED (R129). -/
def endDescent (s : State) : State := { s with sync := { s.sync with descent := false } }

/-- The part of a fault stop, permit fall and lockout that halts the reference (R104, R109, R111, R129). -/
def haltReference (s : State) : State := endDescent (clearWait (freezeReference s))

/-- A detection taken now begins a fault stop (R104). -/
def faultStops (s : State) : Bool :=
  match s.group.state with
  | .engaging => true | .poised => true | .moving => true | .holding => true | .landing => true
  | .stopping => s.group.cause == .command
  | .setup => false | .prepared => false | .stopped => false | .lockedOut => false

/-- The start of a fault stop (R104, R105). -/
def beginFaultStop (kind : FaultKind) (subject : Subject) (s : State) : State :=
  enterStopping (moveStations (haltReference (raise (.groupStop kind subject) (setCause (.fault kind subject) s))))

/-- Every station's rest count re-latched to its live count (R69). -/
def latchAllRest (s : State) : State := s.updAll (fun _ j => j.latchRest)

/-- Entry to LOCKED_OUT for station `k`, which is already FAULTED (R109). -/
def enterLockout (k : Sta) (s : State) : State :=
  let t := moveStations (forStations abandonMove (abandonAll s))
  let u := setCause (.fault .runaway (.station k)) (haltReference (latchAllRest t))
  enterGroup .lockedOut (raise (.lockout k) u)

/-- The entry of R103: added to a list with room, met where it stands, or the overflow mark set; STATION_FAULT raised for a new
fault. -/
def listFault (kind : FaultKind) (subject : Subject) (s : State) : State :=
  if s.group.faults.any (fun e => e.kind == kind && e.subject == subject) then s
  else if s.group.faults.length < Config.faultListSize then
    raise (.stationFault kind subject true) { s with group := { s.group with
      faults := s.group.faults ++ [{ kind := kind, subject := subject, cycle := s.group.cycle }] } }
  else raise (.stationFault kind subject false) { s with group := { s.group with overflow := true } }

/-- The station a detection names enters FAULTED (R16); a TWIST or COUPLING ends every trim in progress (R12). -/
def actOnStations (kind : FaultKind) (subject : Subject) (s : State) : State :=
  match subject with
  | .station k => faultStation kind k s
  | .car _ => endTrims s
  | .coupling _ => endTrims s
  | .none => s

/-- What a detection does to the group (R104, R109). -/
def actOnGroup (kind : FaultKind) (subject : Subject) (s : State) : State :=
  match kind, subject with
  | .runaway, .station k => if s.group.state = .lockedOut then s else enterLockout k s
  | _, _ => if faultStops s then beginFaultStop kind subject s else s

/-- A detection taken by the group controller (R103), and the events it raised handed over. -/
def takeDetection (kind : FaultKind) (subject : Subject) (s : State) : State :=
  handOver (actOnGroup kind subject (actOnStations kind subject (listFault kind subject s)))

/-- A detection as a block hands it. -/
structure Detection where
  kind : FaultKind
  subject : Subject
deriving DecidableEq, Repr

/-- Detections taken in the order handed. -/
def takeDetections (l : List Detection) (s : State) : State :=
  l.foldl (fun t d => takeDetection d.kind d.subject t) s

/-! ### The motion-engine reset (R113) -/

/-- A station's lift above contact less its offset, from the latched or the live count; none without a contact height. -/
def Jack.rebaseValue (latched : Bool) (j : Jack) : Option Int :=
  j.record.contact.map (fun c => (if latched then j.latchedHeight else j.liveHeight) - c - j.record.settings.offset)

/-- The reference lift the reset sets: 100 times the clamped mean, or 0 where no station holds a contact height. -/
def rebasedReference (latched : Bool) (s : State) : Int :=
  let values := Sta.all.filterMap (fun k => (s.jack k).rebaseValue latched)
  if values.isEmpty then 0
  else 100 * clampInt 0 s.group.params.lMax (roundNearest values.sum values.length)

/-- The motion-engine reset (R113). -/
def motionReset (latched : Bool) (s : State) : State :=
  latchAllRest (clearWait { s with sync := { s.sync with
    ref := rebasedReference latched s, speed := 0, dir := .none } })

end Sys2Proof.Machine
end

