-- ==== Sys2Proof/Machine/Geometry.lean ====
section
/-! DEFINITION. The geometry checker: twist, couplings, imbalance and offset validation (R22, R26 to R36). -/

namespace Sys2Proof.Machine

/-! ### Lifts, twists and steps -/

/-- A station's lift above contact from the latched count; none without a contact height (R26). -/
def Jack.lift (j : Jack) : Option Int := j.record.contact.map (fun c => j.latchedHeight - c)

/-- The lift at a corner; none where the corner is absent or its station holds no contact height. -/
def cornerLift (s : State) (o : Option Sta) : Option Int := o.bind (fun k => (s.jack k).lift)

/-- A car's twist, computed when all four corner stations hold a contact height (R27). -/
def twistOf (s : State) (c : Car) : Option Int :=
  match cornerLift s c.fl, cornerLift s c.fr, cornerLift s c.rl, cornerLift s c.rr with
  | some fl, some fr, some rl, some rr => some ((fl + rr) - (fr + rl))
  | _, _, _, _ => none

/-- The mean of the values present, rounded to nearest, halves away from zero; none where there is none (R29, R34). -/
def meanOf (l : List (Option Int)) : Option Int :=
  let values := l.filterMap id
  if values.isEmpty then none else some (roundNearest values.sum values.length)

/-- A car's rear end lift (R29). -/
def rearLift (s : State) (c : Car) : Option Int := meanOf [cornerLift s c.rl, cornerLift s c.rr]
/-- A car's front end lift (R29). -/
def frontLift (s : State) (c : Car) : Option Int := meanOf [cornerLift s c.fl, cornerLift s c.fr]

/-- The car behind the coupling that stands behind the car at list index `i`; none where there is no coupling (R22). -/
def carBehind (cars : List Car) (i : Nat) : Option Car :=
  match cars[i]? with
  | some c => if c.coupled then cars[i + 1]? else none
  | none => none

/-- The step between a car's rear end and the next car's front end, when both have an end lift (R30). -/
def stepBetween (s : State) (front behind : Car) : Option Int :=
  match rearLift s front, frontLift s behind with
  | some r, some f => some (r - f)
  | _, _ => none

/-- A magnitude beyond a limit. -/
def beyond (x : Option Int) (limit : Nat) : Bool :=
  match x with
  | some v => limit < v.natAbs
  | none => false

/-- A twist above the warn level (R28). -/
def aboveWarn (p : GroupParams) (c : Car) (x : Option Int) : Bool :=
  match x with
  | some v => p.twistWarn * c.twistLimit < v.natAbs * 100
  | none => false

/-- The car at list index `i` updated. -/
def State.updCar (s : State) (i : Nat) (f : Car → Car) : State := { s with cars := s.cars.modify i f }

/-! ### The checks of a cycle start (R26 to R30) -/

/-- The twist check of the car at list index `i` (R27, R28). -/
def checkTwist (i : Nat) (s : State) : State :=
  match s.cars[i]? with
  | none => s
  | some c =>
    let twist := twistOf s c
    let warn := aboveWarn s.group.params c twist
    let t := s.updCar i (fun c => { c with lastTwist := twist, warnRaised := warn })
    let u := if warn && !c.warnRaised then raise (.twistWarn (i + 1) (twist.getD 0) c.twistLimit) t else t
    if beyond twist c.twistLimit then takeDetection .twist (.car (i + 1)) u else u

/-- The check of the coupling behind the car at list index `i`, where it exists (R30). -/
def checkCoupling (i : Nat) (s : State) : State :=
  match s.cars[i]?, carBehind s.cars i with
  | some c, some b =>
    let step := stepBetween s c b
    let past := beyond step c.couplingLimit
    let t := s.updCar i (fun c => { c with lastStep := step, couplingSet := past })
    if past then takeDetection .coupling (.coupling (i + 1)) t else t
  | _, _ => s

/-- A trim is in progress at the station: it is TRIMMING, or FAULTED with a TRIM taken under R5 (R6, R11, log 17). -/
def Jack.trims (j : Jack) : Bool :=
  j.isIn .trimming || (j.isIn .faulted && (match j.record.move with
    | some m => m.underFault && m.op == .trim
    | none => false))

/-- LANDING stands before the release phase: the descent is under way. At a reference of 0 the descent ends at the execution of LAND, so
that a twist or a step still over its limit leaves LAND free to begin the release (R26, R149, R154; log 41, DEDUCED). -/
def beforeRelease (found : State) : Bool := found.sync.descent && found.sync.ref != 0

/-- Whether a cycle start makes the twist and coupling checks, from the state it found (R26). -/
def geometryRuns (found : State) : Bool :=
  anyJack found Jack.trims ||
    match found.group.state with
    | .poised => true | .moving => true | .holding => true | .stopping => true
    | .landing => beforeRelease found
    | .setup => false | .prepared => false | .engaging => false | .stopped => false | .lockedOut => false

/-- The checks car by car, each car's twist before the coupling behind it (R26). -/
def geometryChecks (s : State) : State :=
  (List.range s.cars.length).foldl (fun t i => checkCoupling i (checkTwist i t)) s

/-- Every twist-warn mark ARMED (R26). -/
def armWarnings (s : State) : State := { s with cars := s.cars.map (fun c => { c with warnRaised := false }) }

/-! ### Imbalance (R32, R33) -/

/-- One station's imbalance test: its held load against the car's mean. -/
structure LoadTest where
  station : Sta
  load : Nat
  mean : Nat
  heavy : Bool
deriving DecidableEq, Repr

/-- The imbalance tests of one car: of its corner stations holding a contact height, if there are at least two (R32). -/
def loadTests (s : State) (c : Car) : List LoadTest :=
  let stations := (c.corners.filterMap id).filter (fun k => (s.jack k).record.contact.isSome)
  let loads := stations.map (fun k => (s.jack k).link.held)
  let mean := loads.sum / loads.length
  if stations.length < 2 then []
  else stations.map (fun k =>
    { station := k, load := (s.jack k).link.held, mean := mean,
      heavy := mean * (100 + s.group.params.imbalance) < (s.jack k).link.held * 100 })

/-- The imbalance check of a cycle start (R32, R33). No rule orders several IMBALANCE events of one cycle start, of which a pending
record keeps the first (R182): they are raised car by car, and within a car in corner order FL, FR, RL, RR (log 10, DESIGN CHOICE). -/
def imbalanceWork (s : State) : State :=
  let tests := s.cars.flatMap (loadTests s)
  let t := tests.foldl (fun t x =>
    if x.heavy && !(s.jack x.station).imbalance then raise (.imbalance x.station x.load x.mean) t else t) s
  t.updAll (fun k j => { j with imbalance := tests.any (fun x => x.station == k && x.heavy) })

/-- The geometry checker's work at a cycle start that found the state `found` (R26, R32). -/
def geometryWork (found s : State) : State :=
  imbalanceWork (if geometryRuns found then geometryChecks s else armWarnings s)

/-! ### Conditions of TWIST and COUPLING entries (R31) -/

/-- The car at list index `i` with its last twist computed afresh (R31). -/
def refreshTwist (i : Nat) (s : State) : State :=
  match s.cars[i]? with
  | none => s
  | some c => s.updCar i (fun d => { d with lastTwist := twistOf s c })

/-- The coupling behind the car at list index `i` with its last step and mark computed afresh (R31). -/
def refreshStep (i : Nat) (s : State) : State :=
  match s.cars[i]?, carBehind s.cars i with
  | some c, some b => s.updCar i (fun d =>
      { d with lastStep := stepBetween s c b, couplingSet := beyond (stepBetween s c b) c.couplingLimit })
  | _, _ => s

/-- The condition of a TWIST entry for the car at list index `i` holds (R31). -/
def twistHolds (i : Nat) (s : State) : Bool :=
  match s.cars[i]? with
  | none => false
  | some c => beyond (twistOf s c) c.twistLimit

/-- The condition of a COUPLING entry for the coupling behind the car at list index `i` holds (R31). -/
def stepHolds (i : Nat) (s : State) : Bool :=
  match s.cars[i]?, carBehind s.cars i with
  | some c, some b => beyond (stepBetween s c b) c.couplingLimit
  | _, _ => false

/-! ### Offset validation (R34) -/

/-- A car's offset twist; none unless all four corners are present. -/
def offsetTwist (o : Sta → Int) (c : Car) : Option Int :=
  match c.fl, c.fr, c.rl, c.rr with
  | some fl, some fr, some rl, some rr => some ((o fl + o rr) - (o fr + o rl))
  | _, _, _, _ => none

/-- The step of the offset end means at a coupling. -/
def offsetStep (o : Sta → Int) (front behind : Car) : Option Int :=
  match meanOf [front.rl.map o, front.rr.map o], meanOf [behind.fl.map o, behind.fr.map o] with
  | some r, some f => some (r - f)
  | _, _ => none

/-- The first failure of the offset validation at list index `i`: car `i + 1`, or the coupling behind it as 16 + its number. -/
def offsetFailureAt (cars : List Car) (o : Sta → Int) (i : Nat) : Option Nat :=
  match cars[i]? with
  | none => none
  | some c =>
    if beyond (offsetTwist o c) c.twistLimit then some (i + 1)
    else match carBehind cars i with
      | some b => if beyond (offsetStep o c b) c.couplingLimit then some (16 + (i + 1)) else none
      | none => none

/-- The offset validation (R34): none when it passes, otherwise the index of the first failure. -/
def offsetFailure (cars : List Car) (o : Sta → Int) : Option Nat :=
  (List.range cars.length).findSome? (offsetFailureAt cars o)

end Sys2Proof.Machine
end

