-- ==== Sys2Proof/Machine/LoadLink.lean ====
section
/-! DEFINITION. The load link controller: beacon, slots, outcomes and the checks of a cycle start (R74 to R91). -/

namespace Sys2Proof.Machine

/-- The beacon of a cycle (R75, R76). -/
def beaconBytes (cycle : Byte) : List Byte := [0xB4, cycle, crc8 [0xB4, cycle]]

/-- The beacon's work at a cycle start: LDE high, the beacon on LTX, and every slot of the new cycle still to close (R74, R75). -/
def beaconWork (s : State) : State :=
  { s with link := { lde := true, ltx := beaconBytes s.group.cycle, started := true },
           jacks := s.jacks.mapAll (fun _ j => { j with link := { j.link with slotOpen := true, bytes := [] } }) }

/-- The bytes of a slot. -/
def slotBytes (l : List LinkByte) : List Byte := l.map (fun b => b.byte)

/-- Six bytes, none with a framing fault. -/
def wellFramed (l : List LinkByte) : Bool := l.length == 6 && l.all (fun b => !b.framingFault)

/-- The CRC check of an answer of six bytes (R77). -/
def answerPasses (b : List Byte) : Bool := crc8 (b.take 5) == byteAt b 5

/-- The outcome of an assigned slot (R79): the tests in order, the first that applies deciding. -/
def classify (k : Sta) (cycle : Byte) (inProgress : Bool) (l : List LinkByte) : SlotOutcome :=
  let b := slotBytes l
  if l.isEmpty && !inProgress then .silent
  else if inProgress then .late
  else if !wellFramed l then .garbled
  else if !answerPasses b then .garbled
  else if (byteAt b 0).toNat ≠ k.val then .garbled
  else if byteAt b 1 ≠ cycle then .stale
  else if byteAt b 4 = 0x00 then .fresh
  else if byteAt b 4 = 0x01 then .overrange
  else if byteAt b 4 = 0x02 then .sensorFault
  else .garbled

/-- An assigned slot's answer reaches test 5 with another address, which raises STRAY (R80). -/
def wrongAddress (k : Sta) (inProgress : Bool) (l : List LinkByte) : Bool :=
  !inProgress && wellFramed l && answerPasses (slotBytes l) && (byteAt (slotBytes l) 0).toNat != k.val

/-- A station's held values after an outcome carrying `load` (R79). -/
def LinkSlot.record (l : LinkSlot) (o : SlotOutcome) (load : Nat) : LinkSlot :=
  match o with
  | .fresh => { l with outcome := o, held := load, miss := 0, fresh := true, silent := false }
  | .overrange => { l with outcome := o, held := 65535, miss := 0, fresh := true, silent := false }
  | .none => l
  | .sensorFault => { l with outcome := o, miss := saturateNat 15 (l.miss + 1), fresh := false }
  | .stale => { l with outcome := o, miss := saturateNat 15 (l.miss + 1), fresh := false }
  | .garbled => { l with outcome := o, miss := saturateNat 15 (l.miss + 1), fresh := false }
  | .late => { l with outcome := o, miss := saturateNat 15 (l.miss + 1), fresh := false }
  | .silent => { l with outcome := o, miss := saturateNat 15 (l.miss + 1), fresh := false }

/-- A slot closed, its bytes dropped. -/
def LinkSlot.close (l : LinkSlot) : LinkSlot := { l with slotOpen := false, bytes := [] }

/-- The address an unassigned slot's STRAY carries (R81). -/
def strayAddress (l : List LinkByte) (inProgress : Bool) : Option Byte :=
  if !inProgress && wellFramed l && answerPasses (slotBytes l) then some (byteAt (slotBytes l) 0) else none

/-- The close of slot `k` (R79 to R81). -/
def closeSlot (k : Sta) (inProgress : Bool) (s : State) : State :=
  let j := s.jack k
  if !j.link.slotOpen then s
  else if j.assigned then
    let o := classify k s.group.cycle inProgress j.link.bytes
    let load := (halfAt (slotBytes j.link.bytes) 2).toNat
    let t := s.updJack k (fun j => { j with link := (j.link.record o load).close })
    if wrongAddress k inProgress j.link.bytes then
      raise (.stray k.val (some (byteAt (slotBytes j.link.bytes) 0))) t
    else t
  else
    let t := s.updJack k (fun j => { j with link := { j.link.close with outcome := .none, miss := 0, fresh := false } })
    if !j.link.bytes.isEmpty || inProgress then raise (.stray k.val (strayAddress j.link.bytes inProgress)) t else t

/-- A byte received on the load link (R75, R78, R81, R91). LDE is read when the byte is complete, also for a byte during which it has
changed level (log 38, DESIGN CHOICE). -/
def receiveLinkByte (w : LinkWindow) (b : LinkByte) (s : State) : State :=
  if s.link.lde || !s.link.started then s
  else match w with
    | .slot k =>
      if (s.jack k).link.slotOpen then
        s.updJack k (fun j => { j with link := { j.link with bytes := j.link.bytes ++ [b] } })
      else s
    | .beacon => raise (.stray 32 none) s
    | .quiet => raise (.stray 32 none) s

/-! ### The checks of a cycle start (R82 to R87) -/

/-- The states in which silence and overload are checked (R83, R85). -/
def watched (s : StationState) : Bool :=
  match s with
  | .seeking => true | .confirming => true | .engaged => true | .trimming => true | .releasing => true
  | .unassigned => false | .idle => false | .homing => false | .jogging => false | .faulted => false

/-- LOAD_SILENT is handed for the station (R83). -/
def silentNow (p : GroupParams) (j : Jack) : Bool := watched j.record.state && p.missLimit ≤ j.link.miss

/-- OVERLOAD is handed for the station (R85). -/
def overloadNow (j : Jack) : Bool := watched j.record.state && j.record.settings.overload < j.link.held

/-- The loss run count after a cycle start (R86). -/
def lossAfter (g : GroupState) (j : Jack) : Nat :=
  if j.isIn .engaged && (g == .moving || g == .holding) && j.link.held < j.record.settings.loss then
    saturateNat 60 (j.link.lossRun + 1)
  else 0

/-- The detections the load link controller hands for station `k` (R87). -/
def linkDetections (found : State) (k : Sta) : List Detection :=
  let j := found.jack k
  let p := found.group.params
  (if silentNow p j then [{ kind := .loadSilent, subject := .station k }] else [])
    ++ (if overloadNow j then [{ kind := .overload, subject := .station k }] else [])
    ++ (if p.lossConfirm ≤ lossAfter found.group.state j then [{ kind := .loadLoss, subject := .station k }] else [])

/-- The load link controller's checks at a cycle start that found the state `found` (R83 to R87). -/
def linkWork (found s : State) : State :=
  let t := s.updAll (fun k j => { j with link := { j.link with
    silent := j.link.silent || silentNow found.group.params (found.jack k)
    lossRun := lossAfter found.group.state (found.jack k) } })
  takeDetections (Sta.all.flatMap (linkDetections found)) t

end Sys2Proof.Machine
end

