-- ==== Sys2Proof/Machine/Sequencer.lean ====
section
/-! DEFINITION. The contact sequencer: seeking, confirming, engaging, release and the clearance move (R140 to R155). -/

namespace Sys2Proof.Machine

/-- A station's seek rate (R140). -/
def seekRate (p : GroupParams) (j : Jack) : Nat := min p.engageRate j.record.settings.rMax

/-- A fresh sample at or above the contact threshold (R143, R144). -/
def contactSample (j : Jack) : Bool := j.link.fresh && decide (j.record.settings.tContact ≤ j.link.held)

/-- A fresh sample below the contact threshold: a dropout while CONFIRMING (R144). -/
def dropoutSample (j : Jack) : Bool := j.link.fresh && decide (j.link.held < j.record.settings.tContact)

/-- A fresh sample below the release threshold (R151). -/
def releaseSample (j : Jack) : Bool := j.link.fresh && decide (j.link.held < j.record.settings.tRelease)

/-- The rise from the start height is beyond the contact window (R143). -/
def riseBeyond (p : GroupParams) (j : Jack) : Bool :=
  decide ((p.window : Int) < j.latchedHeight - j.record.start.getD j.latchedHeight)

/-- The descent from the start height is beyond the contact window (R151). -/
def descentBeyond (p : GroupParams) (j : Jack) : Bool :=
  decide ((p.window : Int) < j.record.start.getD j.latchedHeight - j.latchedHeight)

/-- `f` carried out for station `k` only while it still stands in the state in which the cycle start found it (R141). -/
def whileFound (k : Sta) (st : StationState) (f : State → State) (s : State) : State :=
  if (s.jack k).isIn st then f s else s

/-- The detection that the judgement of station `k` gives, taken as every other detection is (R103, R104). It is handed whether or
not the station still stands in the state in which it was found (R141), and faults an assigned station that is not FAULTED (R16): one that
a stop has moved at this cycle start enters FAULTED from the state the stop gave it (R148; log 37, DEDUCED). -/
def handJudged (kind : FaultKind) (k : Sta) (s : State) : State := takeDetection kind (.station k) s

/-! ### Engagement (R142 to R147) -/

/-- The record of a station taken into SEEKING at ENGAGE (R142). -/
def StationRec.toSeeking (r : StationRec) (height : Int) : StationRec :=
  { r with state := .seeking, start := some height, attempts := 0, confirm := 0, contact := none }

/-- The record of a station that enters ENGAGED (R145). -/
def StationRec.toEngaged (r : StationRec) (height : Int) : StationRec :=
  { r with state := .engaged, contact := some height, start := none, confirm := 0 }

/-- A station enters ENGAGED (R145): its contact height recorded, the stop value handed and CONTACT raised. -/
def engageStation (k : Sta) (s : State) : State :=
  let h := (s.jack k).latchedHeight
  raise (.contact k h (s.jack k).record.attempts) (handRate k 0 (s.updRec k (fun r => r.toEngaged h)))

/-- First load while SEEKING (R143): CONFIRMING with count 1, or ENGAGED at once where P is 1. -/
def beginConfirm (k : Sta) (s : State) : State :=
  if s.group.params.confirmTarget ≤ 1 then engageStation k s
  else handRate k 0 (s.updRec k (fun r => { r with state := .confirming, confirm := 1 }))

/-- The judgement of a station found SEEKING (R143). -/
def judgeSeeking (found : State) (k : Sta) (s : State) : State :=
  let j := found.jack k
  if contactSample j then whileFound k .seeking (beginConfirm k) s
  else if riseBeyond found.group.params j then handJudged .noContact k s
  else whileFound k .seeking (handRate k (seekRate found.group.params j)) s

/-- A further sample of contact while CONFIRMING (R144). -/
def countContact (k : Sta) (s : State) : State :=
  let n := (s.jack k).record.confirm + 1
  if s.group.params.confirmTarget ≤ n then engageStation k s
  else handRate k 0 (s.updRec k (fun r => { r with confirm := n }))

/-- A dropout with attempts left (R146): SEEKING again from the same start height. -/
def seekAgain (k : Sta) (rate : Nat) (s : State) : State :=
  handRate k rate (s.updRec k (fun r => { r with state := .seeking, confirm := 0, attempts := r.attempts + 1 }))

/-- The judgement of a station found CONFIRMING (R144, R146). -/
def judgeConfirming (found : State) (k : Sta) (s : State) : State :=
  let j := found.jack k
  let p := found.group.params
  if contactSample j then whileFound k .confirming (countContact k) s
  else if dropoutSample j then
    if p.attemptLimit ≤ j.record.attempts + 1 then handJudged .contactUnstable k s
    else whileFound k .confirming (seekAgain k (seekRate p j)) s
  else whileFound k .confirming (handRate k 0) s

/-- The judgement of station `k` at a cycle start that found the group ENGAGING (R141, R145). -/
def judgeEngaging (found : State) (k : Sta) (s : State) : State :=
  match (found.jack k).record.state with
  | .seeking => judgeSeeking found k s
  | .confirming => judgeConfirming found k s
  | .engaged => whileFound k .engaged (handRate k 0) s
  | .unassigned => s | .idle => s | .homing => s | .jogging => s | .trimming => s | .releasing => s | .faulted => s

/-- The passage from ENGAGING to POISED (R102, R147). -/
def poisedTest (s : State) : State :=
  if s.group.state = .engaging ∧ allAssigned s (fun j => j.isIn .engaged) then
    enterGroup .poised (clearReference s)
  else s

/-! ### Release (R150 to R153) -/

/-- The record of a station taken into RELEASING (R150). -/
def StationRec.toReleasing (r : StationRec) (height : Int) : StationRec :=
  { r with state := .releasing, start := some height, confirm := 0, attempts := 0 }

/-- A station taken into RELEASING, −seek rate handed (R150). -/
def startRelease (k : Sta) (s : State) : State :=
  handRate k (-(seekRate s.group.params (s.jack k) : Int))
    (s.updRec k (fun r => r.toReleasing (s.jack k).latchedHeight))

/-- Every ENGAGED station taken into RELEASING at the end of the descent (R150). -/
def releaseAll (s : State) : State :=
  forStations (fun k t => whileFound k .engaged (startRelease k) t) s

/-- The commanded rate of a station recorded without a value handed (R152). -/
def recordRate (k : Sta) (r : Int) (s : State) : State := s.updJack k (fun j => { j with rate := r })

/-- The steps of a station's clearance move (R152). -/
def clearanceSteps (p : GroupParams) (j : Jack) : Nat := stepsOf p.clearance j.record.settings.kStep

/-- A release confirmed (R151, R152): the clearance move ordered, or the release completed where it has 0 steps. The commanded
rate is recorded as −seek rate from the order on (log 26). -/
def confirmRelease (k : Sta) (s : State) : State :=
  let p := s.group.params
  let j := s.jack k
  let t := s.updRec k (fun r => { r with confirm := r.confirm + 1 })
  if clearanceSteps p j = 0 then finishRelease k (handRate k 0 t)
  else orderMove k (seekRate p j) .down (clearanceSteps p j) (recordRate k (-(seekRate p j : Int)) t)

/-- The confirm count of a RELEASING station after a sample that does not confirm the release (R151, step 1). -/
def releaseCount (j : Jack) : Nat :=
  if releaseSample j then j.record.confirm + 1 else if j.link.fresh then 0 else j.record.confirm

/-- The release goes on: the count kept and −seek rate handed (R151, step 3). -/
def lowerOn (k : Sta) (count : Nat) (s : State) : State :=
  handRate k (-(seekRate s.group.params (s.jack k) : Int)) (s.updRec k (fun r => { r with confirm := count }))

/-- The judgement of a station found RELEASING (R151, R152). -/
def judgeReleasing (found : State) (k : Sta) (s : State) : State :=
  let j := found.jack k
  let p := found.group.params
  if clearing p j then whileFound k .releasing (recordRate k (-(seekRate p j : Int))) s
  else if releaseSample j && decide (p.confirmTarget ≤ j.record.confirm + 1) then
    whileFound k .releasing (confirmRelease k) s
  else if descentBeyond p j then handJudged .noRelease k s
  else whileFound k .releasing (lowerOn k (releaseCount j)) s

/-- The judgement of station `k` at a cycle start that found the group LANDING with the descent ENDED (R150, R151). A station found ENGAGED
is taken into RELEASING even where a fault stop or a RUNAWAY lockout of the same cycle start has left it ENGAGED, and its brake is then
called for RELEASED, in LOCKED_OUT too: R141, R150 and R50 are taken before R109 and R52 (log 36, DESIGN CHOICE). -/
def judgeLanding (found : State) (k : Sta) (s : State) : State :=
  match (found.jack k).record.state with
  | .releasing => judgeReleasing found k s
  | .engaged => whileFound k .engaged (startRelease k) s
  | .unassigned => s | .idle => s | .homing => s | .jogging => s | .seeking => s | .confirming => s | .trimming => s
  | .faulted => s

/-- The sequencer's work at a cycle start that found the state `found` (R140, R141). -/
def sequencerWork (found s : State) : State :=
  match found.group.state with
  | .engaging => poisedTest (forStations (judgeEngaging found) s)
  | .landing => if found.sync.descent then s else forStations (judgeLanding found) s
  | .setup => s | .prepared => s | .poised => s | .moving => s | .holding => s | .stopping => s | .stopped => s
  | .lockedOut => s

end Sys2Proof.Machine
end

