-- ==== Sys2Proof/Machine/PlanStore.lean ====
section
/-! DEFINITION. The plan store: segment records, editing, takes, segment starts and completions (R122, R156 to R169). -/

namespace Sys2Proof.Machine

/-! ### Limits of a segment (R122) -/

/-- A MOVE's effective target in centi-µm. -/
def effectiveTarget (p : GroupParams) (g : Segment) : Int := 100 * (min g.target p.lMax : Nat)

/-- A MOVE's effective cruise rate. -/
def effectiveCruise (p : GroupParams) (g : Segment) : Nat := min g.cruise p.vMax

/-! ### Segment starts (R122, R166, R167) -/

/-- The direction toward a target (R122). -/
def dirToward (target ref : Int) : RefDir :=
  if ref < target then .up else if target < ref then .down else .none

/-- The synchronisation unit's items at the start of a segment (R122). -/
def startedSync (p : GroupParams) (g : Segment) (y : Sync) : Sync :=
  match g.kind with
  | .move => if y.speed = 0 then { y with dir := dirToward (effectiveTarget p g) y.ref } else y
  | .dwell => { y with speed := 0, dir := .none, dwell := some (y.dwell.getD g.dwell) }

/-- PLAN_LOW is raised at the start of the segment at the plan position (R167): it is the last, it latches CHAINED, and no APPEND
is queued. -/
def planLowNow (s : State) : Bool :=
  s.sync.planPos + 1 == s.plan.activeBank.length && s.plan.mode == .chained && s.plan.commit != some .append

/-- The segment at the plan position starts: the segment mode is latched, PLAN_LOW raised where it is due, and the direction,
speed and dwell count set. -/
def startSegment (s : State) : State :=
  match s.segment with
  | none => s
  | some g =>
    let t := { s with plan := { s.plan with segMode := some s.plan.mode },
                      sync := startedSync s.group.params g s.sync }
    if planLowNow s then raise (.planLow s.plan.active s.sync.planPos) t else t

/-! ### Takes (R162 to R164) -/

/-- The plan store after a take (R162). -/
def Plan.swapped (p : Plan) : Plan :=
  match p.active with
  | .a => { p with bankA := [], active := .b, commit := none, taken := true, segMode := none }
  | .b => { p with bankB := [], active := .a, commit := none, taken := true, segMode := none }

/-- A take (R162) of the queued kind, `continues` telling whether the group continues moving into its segment 0. -/
def takePlan (kind : CommitKind) (continues : Bool) (s : State) : State :=
  let t := { s with plan := s.plan.swapped, sync := { s.sync with planPos := 0, dwell := none } }
  raise (.planTaken t.plan.active kind t.plan.activeBank.length continues) t

/-- The take of a cycle start (R163, R164): a QUEUED REPLACE, or an APPEND on a completed or empty plan. In MOVING a REPLACE's
segment 0 starts at once. -/
def takeAtCycleStart (s : State) : State :=
  match s.plan.commit with
  | some .replace =>
    if s.group.state = .moving then startSegment (takePlan .replace true s) else takePlan .replace false s
  | some .append => if s.planCompleted then takePlan .append false s else s
  | none => s

/-! ### Completions (R125, R168, R169) -/

/-- The completed segment holds (R168). -/
def holdsAfter (g : Segment) (mode : Option RunMode) : Bool :=
  g.stopAfter || (mode == some .single && g.kind == .move)

/-- The group comes to rest in HOLDING (R125, R168). -/
def enterHolding (s : State) : State :=
  enterGroup .holding { s with sync := { s.sync with speed := 0, dir := .none } }

/-- The completion of segment `g` at the plan position, and the progression of R168 with the events of R169. -/
def completeSegment (g : Segment) (s : State) : State :=
  let k := s.sync.planPos
  let last : Bool := k + 1 == s.plan.activeBank.length
  let holds := holdsAfter g s.plan.segMode
  let appendQueued : Bool := s.plan.commit == some .append
  let rests : Bool := holds || (last && !appendQueued)
  let t := { s with plan := { s.plan with segMode := none }, sync := { s.sync with dwell := none, planPos := k + 1 } }
  let u := if last || rests then raise (.segmentDone s.plan.active k g.kind last rests) t else t
  let w := if last && appendQueued then takePlan .append (!holds) u else u
  if rests then enterHolding w else startSegment w

/-! ### The pending bank (R157 to R161, R165) -/

/-- A segment record of PLAN_WRITE checked and clamped (R157): none when a field is refused, otherwise the record as stored and
whether a clamp changed it. -/
def storeSegment (p : GroupParams) (r : RawSegment) : Option (Segment × Bool) :=
  if r.accel.toNat < 1 ∨ 500 < r.accel.toNat then none
  else if r.kind = 0x01 then
    if r.cruise = 0 then none
    else some ({ kind := .move, target := min r.target.toNat p.lMax, cruise := min r.cruise.toNat p.vMax,
                 accel := r.accel.toNat, dwell := 0, stopAfter := r.stopAfter != 0 },
               decide (p.lMax < r.target.toNat) || decide (p.vMax < r.cruise.toNat))
  else if r.kind = 0x02 then
    if r.dwell.toNat < 1 ∨ 60000 < r.dwell.toNat then none
    else some ({ kind := .dwell, target := 0, cruise := 0, accel := r.accel.toNat, dwell := r.dwell.toNat,
                 stopAfter := r.stopAfter != 0 }, false)
  else none

/-- A record written at index `k`, no greater than the bank's length (R158). -/
def writeSegment (l : List Segment) (k : Nat) (g : Segment) : List Segment :=
  if k < l.length then l.set k g else l ++ [g]

end Sys2Proof.Machine
end

