-- ==== Sys2Proof/Machine/SyncUnit.lean ====
section
/-! DEFINITION. The synchronisation unit: errors, trip check, wait rule, reference, rates and handover (R117 to R139). -/

namespace Sys2Proof.Machine

/-! ### Stage 1: errors (R120) -/

/-- The error of a station against the reference `ref`, in centi-µm; 0 without a contact height. -/
def errorOf (ref : Int) (j : Jack) : Int :=
  match j.record.contact with
  | some c => ref + 100 * (j.record.settings.offset - (j.latchedHeight - c))
  | none => 0

/-- The errors formed. -/
def formErrors (s : State) : State := s.updAll (fun _ j => { j with err := errorOf s.sync.ref j })

/-! ### Stage 2: the trip check (R135) -/

/-- The states in which the trip check is made. -/
def tripChecked (g : GroupState) : Bool :=
  match g with
  | .poised => true | .moving => true | .holding => true | .stopping => true
  | .setup => false | .prepared => false | .engaging => false | .stopped => false | .landing => false | .lockedOut => false

/-- An ENGAGED station beyond the trip band. -/
def trips (p : GroupParams) (j : Jack) : Bool := j.isIn .engaged && 100 * p.tripBand < j.err.natAbs

/-- The SYNC_TRIP detections of a computation, in ascending station order (R137). -/
def tripDetections (s : State) : List Detection :=
  if tripChecked s.group.state then
    (Sta.all.filter (fun k => trips s.group.params (s.jack k))).map (fun k =>
      { kind := .syncTrip, subject := .station k })
  else []

/-! ### Stage 3: the wait rule (R130, R131) -/

/-- The sign of the reference's direction. -/
def RefDir.sign (d : RefDir) : Int :=
  match d with
  | .up => 1
  | .down => -1
  | .none => 0

/-- The MOVE segment under way. -/
def moveUnderWay (s : State) : Bool :=
  s.plan.segMode.isSome && (match s.segment with
    | some g => g.kind == .move
    | none => false)

/-- The wait rule applies (R130). -/
def waitApplies (s : State) : Bool :=
  match s.group.state with
  | .moving => moveUnderWay s && s.sync.dir != .none
  | .stopping => s.group.cause == .command && s.sync.speed != 0
  | _ => false

/-- A station lags (R130). -/
def lags (p : GroupParams) (d : RefDir) (j : Jack) : Bool := j.isIn .engaged && 100 * (p.holdBand : Int) < d.sign * j.err

/-- The computation is a wait cycle (R130). -/
def isWaitCycle (s : State) : Bool := waitApplies s && anyJack s (lags s.group.params s.sync.dir)

/-- The wait count and the waiting mark set. -/
def setWait (count : Nat) (waiting : Bool) (s : State) : State :=
  { s with group := { s.group with waitCount := count }, sync := { s.sync with waiting := waiting } }

/-- A wait cycle's stage 3 (R130, R131): v becomes 0, the wait count increases, and WAIT_TIMEOUT is handed when it reaches the
limit. -/
def waitCycle (s : State) : State :=
  let t := setWait (s.group.waitCount + 1) true (freezeReference s)
  if s.group.params.waitLimit ≤ s.group.waitCount + 1 then takeDetection .waitTimeout .none t else t

/-- A wait cycle whose count reaches the limit. -/
def timesOut (s : State) : Bool := isWaitCycle s && s.group.params.waitLimit ≤ s.group.waitCount + 1

/-! ### Stage 4: the reference (R123 to R129) -/

/-- The stopping distance S(x) (R123). -/
def stoppingDistance (a x : Nat) : Nat := (x / a) * x - a * ((x / a) * (x / a + 1)) / 2

/-- The speed chosen toward a target lying `dRem` ahead (R123). -/
def chooseSpeed (a cruise v dRem : Nat) : Nat :=
  let c := min (v + a) cruise
  let h := min v cruise
  let v1 :=
    if c + stoppingDistance a c ≤ dRem then c
    else if h + stoppingDistance a h ≤ dRem then h
    else v - a
  let v2 := if v1 = 0 then min a dRem else v1
  min v2 dRem

/-- The reference lift, speed and direction. -/
structure Ref where
  lift : Int
  speed : Nat
  dir : RefDir
deriving DecidableEq, Repr

/-- L moved by `v` in direction `d`, stopping at the ends of 0..`top` with speed 0 (R124, R127). -/
def moveBounded (top : Int) (lift : Int) (d : RefDir) (v : Nat) : Ref :=
  let l := lift + d.sign * v
  if l < 0 then { lift := 0, speed := 0, dir := d }
  else if top < l then { lift := top, speed := 0, dir := d }
  else { lift := l, speed := v, dir := d }

/-- The opposite direction. -/
def RefDir.reverse (d : RefDir) : RefDir :=
  match d with
  | .up => .down
  | .down => .up
  | .none => .none

/-- A reference step toward `target` (R123, R124). A step that begins at its target does not move, and its speed is 0 (R117,
log 15). -/
def refStep (top target : Int) (cruise a : Nat) (r : Ref) : Ref :=
  let dRem := r.dir.sign * (target - r.lift)
  if 0 < dRem then
    let v := chooseSpeed a cruise r.speed dRem.toNat
    { r with lift := r.lift + r.dir.sign * v, speed := v }
  else if dRem < 0 then
    if 0 < r.speed then moveBounded top r.lift r.dir (r.speed - a)
    else
      let d := r.dir.reverse
      let v := chooseSpeed a cruise 0 (-dRem).toNat
      { lift := r.lift + d.sign * v, speed := v, dir := d }
  else { r with speed := 0 }

/-- The remaining distance to a target (R123). -/
def remainingDistance (target : Int) (r : Ref) : Int := r.dir.sign * (target - r.lift)

/-- The reference as the synchronisation unit holds it. -/
def Sync.toRef (y : Sync) : Ref := { lift := y.ref, speed := y.speed, dir := y.dir }

/-- The reference set. -/
def setRef (r : Ref) (s : State) : State :=
  { s with sync := { s.sync with ref := r.lift, speed := r.speed, dir := r.dir } }

/-- The top of the reference's range, 100 × L_max (R121). -/
def refTop (p : GroupParams) : Int := 100 * p.lMax

/-- What stage 4 leaves: the state, and v', the speed the reference moved at. -/
structure Stepped where
  state : State
  moved : Nat

/-- Stage 4 with a MOVE under way (R123 to R125). -/
def moveStep (g : Segment) (s : State) : Stepped :=
  let p := s.group.params
  let r := refStep (refTop p) (effectiveTarget p g) (effectiveCruise p g) g.accel s.sync.toRef
  let t := setRef r s
  { state := if remainingDistance (effectiveTarget p g) r = 0 then completeSegment g t else t, moved := r.speed }

/-- Stage 4 with a DWELL under way (R126). -/
def dwellStep (g : Segment) (s : State) : Stepped :=
  let left := (s.sync.dwell.getD 0) - 1
  let t := { s with sync := { s.sync with dwell := some left } }
  { state := if left = 0 then completeSegment g t else t, moved := 0 }

/-- The stop ramp of a controlled stop (R127). -/
def rampStep (s : State) : Stepped :=
  let a := match s.segment with
    | some g => g.accel
    | none => s.sync.speed
  let r := moveBounded (refTop s.group.params) s.sync.ref s.sync.dir (s.sync.speed - a)
  { state := setRef r s, moved := r.speed }

/-- The landing descent (R129): a step toward 0, which ends at L = 0. -/
def descentStep (s : State) : Stepped :=
  let p := s.group.params
  let r := refStep (refTop p) 0 (min p.landRate p.vMax) p.landAccel s.sync.toRef
  if r.lift = 0 then
    { state := endDescent (setRef { lift := 0, speed := 0, dir := .none } s), moved := 0 }
  else { state := setRef r s, moved := r.speed }

/-- Stage 4 of a computation that is neither forced nor a wait cycle. -/
def referenceStage (s : State) : Stepped :=
  match s.group.state with
  | .moving => match s.segment with
    | some g => match g.kind with
      | .move => moveStep g s
      | .dwell => dwellStep g s
    | none => { state := s, moved := 0 }
  | .stopping => if s.group.cause = .command then rampStep s else { state := s, moved := 0 }
  | .landing => if s.sync.descent then descentStep s else { state := s, moved := 0 }
  | _ => { state := s, moved := 0 }

/-- Stage 4 of a forced computation (R128). -/
def forceReference (s : State) : State := { s with sync := { s.sync with speed := 0, dir := .none } }

/-! ### Stages 5 and 6: rates and handover (R132 to R136) -/

/-- The correction of a station (R132). -/
def correction (p : GroupParams) (j : Jack) : Int := roundNearest (j.err * p.gain) 1600

/-- The rate of an ENGAGED station, clamped (R132 to R134). -/
def rateOf (p : GroupParams) (d : RefDir) (moved : Nat) (j : Jack) : Int :=
  let top : Int := j.record.settings.rMax
  let raw := d.sign * moved + correction p j
  match d with
  | .up => clampInt 0 top raw
  | .down => clampInt (-top) 0 raw
  | .none => if j.err.natAbs ≤ 100 * p.deadband then 0 else clampInt (-top) top (correction p j)

/-- The synchronisation unit commands the ENGAGED stations in this state (R136). -/
def syncCommands (s : State) : Bool :=
  match s.group.state with
  | .poised => true | .moving => true | .holding => true | .stopping => true
  | .landing => s.sync.descent
  | .setup => false | .prepared => false | .engaging => false | .stopped => false | .lockedOut => false

/-- The handover of a computation that is not forced (R136). -/
def handRates (moved : Nat) (s : State) : State :=
  if syncCommands s then
    forStations (fun k t =>
      if (t.jack k).isIn .engaged then handRate k (rateOf s.group.params s.sync.dir moved (t.jack k)) t else t) s
  else s

/-- A station that a forced handover reaches (R136). -/
def forcedStation (j : Jack) : Bool :=
  j.assigned && !j.isIn .homing && !j.isIn .jogging && !j.isIn .trimming

/-- The handover of a forced computation: the stop value to every assigned station that makes no counted move of its own (R136). -/
def handStops (s : State) : State :=
  let t := forStations (fun k t => if forcedStation (t.jack k) then handRate k 0 t else t) s
  { t with group := { t.group with ratesForced := true } }

/-! ### The computation (R119) -/

/-- The computation is forced from its first stage (R119). -/
def forcedAtStart (s : State) : Bool :=
  faultStopUnderWay s || (s.group.state == .stopping && s.group.cause == .command && s.sync.speed == 0)

/-- Stages 4 to 6 of a computation. -/
def finishComputation (forced waited : Bool) (s : State) : State :=
  if forced then handStops (forceReference s)
  else if waited then handRates 0 s
  else
    let r := referenceStage s
    handRates r.moved r.state

/-- The computation of a cycle start, with the events it raised handed over. -/
def computation (s : State) : State :=
  let detections := tripDetections (formErrors s)
  let t := takeDetections detections (formErrors s)
  let forced := forcedAtStart s || !detections.isEmpty
  if forced then handOver (finishComputation true false (setWait 0 false t))
  else if isWaitCycle t then
    handOver (finishComputation (timesOut t) true (waitCycle t))
  else handOver (finishComputation false false (setWait 0 false t))

end Sys2Proof.Machine
end

