-- ==== Sys2Proof/Machine/Tracking.lean ====
section
/-! DEFINITION. The position counters and the tracking monitor (R56 to R73), and the home switch (R8, R57). -/

namespace Sys2Proof.Machine

/-! ### Counting (R56) -/

/-- The pair that follows `(a, b)` in the upward order low-low, high-low, high-high, low-high. -/
def upwardNext (a b : Bool) : Bool × Bool :=
  match a, b with
  | false, false => (true, false)
  | true, false => (true, true)
  | true, true => (false, true)
  | false, true => (false, false)

/-- The pair after a change of one line. -/
def changedPair (a b : Bool) (line : EncLine) : Bool × Bool :=
  match line with
  | .a => (!a, b)
  | .b => (a, !b)

/-- The direction of an encoder edge. -/
def edgeDir (a b : Bool) (line : EncLine) : Dir :=
  if changedPair a b line = upwardNext a b then .up else .down

/-- The counter after an edge: the count wraps at 32 bits. -/
def Counter.edge (c : Counter) (line : EncLine) : Counter :=
  let pair := changedPair c.encA c.encB line
  { c with encA := pair.1, encB := pair.2,
           count := match edgeDir c.encA c.encB line with
             | .up => c.count + 1
             | .down => c.count - 1 }

/-- An encoder edge at a station, reported to its monitor. -/
def Jack.edge (j : Jack) (line : EncLine) : Jack :=
  { j with pos := j.pos.edge line, mon := j.mon.edge (edgeDir j.pos.encA j.pos.encB line) }

/-- A change of both lines at once: the new pair is kept, and nothing is counted (R56). -/
def Jack.bothChange (j : Jack) : Jack :=
  { j with pos := { j.pos with encA := !j.pos.encA, encB := !j.pos.encB } }

/-- The latch of a cycle start (R58). -/
def latchWork (s : State) : State :=
  s.updAll (fun _ j => { j with pos := { j.pos with latched := j.pos.count, latchedRunning := j.gen.running } })

/-! ### The home switch (R8, R57) -/

/-- The count preset to the home count and the datum KNOWN; with the generator idle the rest count is re-latched (R57, R69). -/
def Jack.preset (j : Jack) : Jack :=
  let t := { j with pos := { j.pos with count := j.record.settings.homeCount },
                    record := { j.record with datumKnown := true } }
  if j.gen.running then t else t.latchRest

/-- The station is HOMING and its move has not been ended (R8, R195). -/
def Jack.awaitsSwitch (j : Jack) : Bool :=
  j.isIn .homing && (match j.record.move with
    | some m => !m.done
    | none => false)

/-- An activation of the HOME input taken (R8). -/
def takeActivation (k : Sta) (s : State) : State :=
  if (s.jack k).awaitsSwitch then stopMove k .ok (s.updJack k Jack.preset) else s

/-! ### The travel check (R60, R61) -/

/-- The datum is KNOWN and the latched height lies outside 0..H_max. -/
def Jack.outOfTravel (j : Jack) : Bool :=
  j.record.datumKnown && (j.latchedHeight < 0 || (j.record.settings.hMax : Int) < j.latchedHeight)

/-! ### Slip gates (R62 to R64) -/

/-- A gate opened with `left` cycle starts to its close. -/
def SlipGate.opened (left : Nat) : SlipGate := { left := left, steps := 0, edges := 0 }

/-- Distance stepped minus distance measured, in nm multiplied by K_step (R63). -/
def slipDisagreement (j : Jack) (g : SlipGate) : Int :=
  g.steps * 1000000 - g.edges * j.record.settings.encScale * j.record.settings.kStep

/-- The slip tolerance, in nm multiplied by K_step (R63). -/
def slipAllowance (p : GroupParams) (j : Jack) : Nat := p.slipTolerance * 1000 * j.record.settings.kStep

/-- A quiet gate (R63). -/
def SlipGate.quiet (g : SlipGate) : Bool := g.steps == 0 && g.edges == 0

/-- The closing gate is a slip gate of an assigned station (R63). -/
def slips (p : GroupParams) (j : Jack) (g : SlipGate) : Bool :=
  j.assigned && !g.quiet && slipAllowance p j < (slipDisagreement j g).natAbs

/-- The slip run count after a close (R63). -/
def slipRunAfter (p : GroupParams) (j : Jack) (g : SlipGate) : Nat :=
  if !j.assigned then 0
  else if g.quiet then j.mon.slipRun
  else if slips p j g then saturateNat 15 (j.mon.slipRun + 1)
  else 0

/-- The monitor after its gate closed, a new gate standing open (R62, R63). -/
def closedGate (p : GroupParams) (j : Jack) (g next : SlipGate) : Monitor :=
  { j.mon with
    gate := some next
    slipMark := j.mon.slipMark || slips p j g
    slipRun := slipRunAfter p j g }

/-- The difference a SLIP event reports (R63). -/
def slipDifference (j : Jack) (g : SlipGate) : Int :=
  saturate16 (roundNearest (slipDisagreement j g) (1000 * j.record.settings.kStep))

/-- The SLIP event of a closing gate, where it slips. -/
def raiseSlip (k : Sta) (p : GroupParams) (j : Jack) (g : SlipGate) (s : State) : State :=
  if slips p j g then raise (.slip k (slipDifference j g) (slipRunAfter p j g)) s else s

/-- A slip gate that brings the run count to the slip limit or above hands DRIVE_SLIP (R64). -/
def driveSlips (p : GroupParams) (j : Jack) (g : SlipGate) : Bool := slips p j g && p.slipLimit ≤ slipRunAfter p j g

/-- The slip gate that closes at the next cycle start; none while the station's gate is open for calibration. -/
def closingGate (j : Jack) : Option SlipGate :=
  match j.mon.gate with
  | some g => if !j.mon.gateOpen && g.left ≤ 1 then some g else none
  | none => none

/-- A station's gates at a cycle start (R62, R67): an open calibration gate counts the cycle; a slip gate closes, counts down, or
a first one opens. -/
def gateStep (p : GroupParams) (j : Jack) : Monitor :=
  if j.mon.gateOpen then { j.mon with openCycles := saturateNat 65535 (j.mon.openCycles + 1) }
  else match j.mon.gate with
    | none => { j.mon with gate := some (SlipGate.opened p.gateLength) }
    | some g =>
      if g.left ≤ 1 then closedGate p j g (SlipGate.opened p.gateLength)
      else { j.mon with gate := some { g with left := g.left - 1 } }

/-! ### Runaway (R70, R71) -/

/-- The station has moved from its point of rest by more than the drift tolerance. -/
def drifted (p : GroupParams) (j : Jack) : Bool :=
  p.drift < (j.latchedHeight - heightOf j.mon.rest j.record.settings.encScale).natAbs

/-- The runaway count after a cycle start outside LOCKED_OUT (R70). -/
def runawayAfter (p : GroupParams) (j : Jack) : Nat :=
  if j.assigned && !j.pos.latchedRunning && drifted p j then saturateNat 15 (j.mon.runaway + 1) else 0

/-- The runaway count after a cycle start in LOCKED_OUT (R71). -/
def runawayInLockout (p : GroupParams) (j : Jack) : Nat :=
  if !j.assigned then 0
  else if drifted p j then saturateNat 15 (j.mon.runaway + 1)
  else j.mon.runaway - 1

/-- The rest count of an UNASSIGNED station follows its latched count (R70). -/
def restAfter (j : Jack) : Word := if j.assigned then j.mon.rest else j.pos.latched

/-- The watch of a cycle start that finds the group LOCKED_OUT (R71), made before a waiting command is executed (R110, log 24). -/
def lockoutWatch (s : State) : State :=
  if s.group.state = .lockedOut then
    s.updAll (fun _ j => { j with mon := { j.mon with
      runaway := runawayInLockout s.group.params j, rest := restAfter j } })
  else s

/-- A station's monitor after its work at a cycle start that found the group in `g`. -/
def monitorStep (g : GroupState) (p : GroupParams) (j : Jack) : Monitor :=
  let m := gateStep p j
  if g = .lockedOut then m else { m with runaway := runawayAfter p j, rest := restAfter j }

/-- RUNAWAY is handed for the station (R70). -/
def runsAway (g : GroupState) (p : GroupParams) (j : Jack) : Bool :=
  g != .lockedOut && j.assigned && !j.pos.latchedRunning && drifted p j && p.runawayConfirm ≤ runawayAfter p j

/-- The detections the tracking monitor hands for station `k`: TRAVEL_LIMIT, DRIVE_SLIP, RUNAWAY (R60, R64, R70, log 11). -/
def monitorDetections (found : State) (k : Sta) : List Detection :=
  let j := found.jack k
  let p := found.group.params
  (if j.assigned && j.outOfTravel then [{ kind := .travelLimit, subject := .station k }] else [])
    ++ (match closingGate j with
        | some g => if driveSlips p j g then [{ kind := .driveSlip, subject := .station k }] else []
        | none => [])
    ++ (if runsAway found.group.state p j then [{ kind := .runaway, subject := .station k }] else [])

/-- The SLIP event of station `k` at a cycle start. -/
def slipEvent (found : State) (k : Sta) (s : State) : State :=
  match closingGate (found.jack k) with
  | some g => raiseSlip k found.group.params (found.jack k) g s
  | none => s

/-- The tracking monitor's work at a cycle start that found the state `found` (R60 to R70). -/
def monitorWork (found s : State) : State :=
  let t := s.updAll (fun k j => { j with mon := monitorStep found.group.state found.group.params (found.jack k) })
  takeDetections (Sta.all.flatMap (monitorDetections found)) (handOver (forStations (slipEvent found) t))

/-- The close of station `k`'s slip gate as a step of its own, at the cycle start that is about to be counted (R63, log 4). -/
def closeSlipGate (k : Sta) (s : State) : State :=
  let j := s.jack k
  match closingGate j with
  | none => s
  | some g =>
    let p := s.group.params
    let t := s.updJack k (fun j => { j with mon := closedGate p j g (SlipGate.opened (p.gateLength + 1)) })
    let u := handOver (raiseSlip k p j g t)
    if driveSlips p j g then takeDetection .driveSlip (.station k) u else u

end Sys2Proof.Machine
end

