-- ==== Sys2Proof/Machine/Commands.lean ====
section
/-! DEFINITION. The ten group commands and their execution from the command slot (R94 to R102, R107, R110). -/

namespace Sys2Proof.Machine

/-- What the execution of a command leaves: the state, the outcome, the check number and index of R96, and the further content
of its reply (R95, R194). -/
structure Executed where
  state : State
  outcome : ReplyOutcome
  check : Nat
  index : Nat
  extra : List Byte

/-- A command that took effect. -/
def Executed.done (s : State) : Executed := { state := s, outcome := .done, check := 0, index := 0, extra := [] }

/-- A refused command, which changes no state (R95). -/
def Executed.refused (o : ReplyOutcome) (s : State) : Executed :=
  { state := s, outcome := o, check := 0, index := 0, extra := [] }

/-! ### The first checks (R95) -/

/-- The group states in which a command is taken (R96 to R101, R107, R110). -/
def takenIn (c : GroupCommand) (g : GroupState) : Bool :=
  match c with
  | .setupDone => g == .setup
  | .resetup => g == .prepared || g == .stopped
  | .engage => g == .prepared
  | .run => g == .poised
  | .continueRun => g == .holding
  | .stop => g == .poised || g == .moving || g == .holding
  | .resume => g == .stopped
  | .land => g == .poised || g == .holding || g == .stopped
  | .ackFaults => g == .stopped || g == .prepared
  | .clearLockout => g == .lockedOut

/-- The commands that need the permit level HIGH (R95). -/
def needsPermit (c : GroupCommand) : Bool :=
  match c with
  | .engage => true | .run => true | .continueRun => true | .resume => true | .land => true
  | .setupDone => false | .resetup => false | .stop => false | .ackFaults => false | .clearLockout => false

/-! ### SETUP_DONE (R96) -/

/-- A car with a present corner at each end. -/
def Car.hasEnds (c : Car) : Bool := (c.fl.isSome || c.fr.isSome) && (c.rl.isSome || c.rr.isSome)

/-- The first station of a list that stands in it a second time, in the order in which the second listings are met (log 34). -/
def firstRepeat (seen l : List Sta) : Option Sta :=
  match l with
  | [] => none
  | k :: rest => if seen.contains k then some k else firstRepeat (k :: seen) rest

/-- The load thresholds of a station in order: loss < release < contact < overload. -/
def thresholdsOrdered (g : Settings) : Bool :=
  decide (g.loss < g.tRelease) && decide (g.tRelease < g.tContact) && decide (g.tContact < g.overload)

/-- The lowest station among the assigned ones with the smallest H_max. -/
def smallestTravel (s : State) : Option Sta :=
  (assignedStations s).foldl (fun best k => match best with
    | none => some k
    | some b =>
      if (s.jack k).record.settings.hMax < (s.jack b).record.settings.hMax then some k else some b) none

/-- Check 7 of R96: the index of the failure. -/
def liftLimitFailure (s : State) : Option Nat :=
  if s.group.params.lMax = 0 then some 0
  else match smallestTravel s with
    | some k => if (s.jack k).record.settings.hMax < s.group.params.lMax then some k.val else none
    | none => none

/-- Checks 1 to 8 of R96 in order: each with the index it fails with, if it fails. -/
def configChecks (s : State) : List (Nat × Option Nat) :=
  let p := s.group.params
  [(1, if s.cars.isEmpty then some 0 else none),
   (2, (s.cars.findIdx? (fun c => !c.hasEnds)).map (fun i => i + 1)),
   (3, (firstRepeat [] ((listings s.cars).map (fun l => l.1))).map (fun k => k.val)),
   (4, if (s.cars.getLast?.map (fun c => c.coupled)).getD false then some s.cars.length else none),
   (5, ((assignedStations s).find? (fun k => !thresholdsOrdered (s.jack k).record.settings)).map (fun k => k.val)),
   (6, if p.deadband < p.holdBand ∧ p.holdBand < p.tripBand then none else some 0),
   (7, liftLimitFailure s),
   (8, offsetFailure s.cars (fun k => (s.jack k).record.settings.offset))]

/-- The first failing check of R96 with its index. -/
def configFailure (s : State) : Option (Nat × Nat) :=
  (configChecks s).findSome? (fun c => c.2.map (fun i => (c.1, i)))

/-- SETUP_DONE past the checks of R95. -/
def runSetupDone (s : State) : Executed :=
  match configFailure s with
  | some f => { Executed.refused .badConfig s with check := f.1, index := f.2 }
  | none => Executed.done (enterGroup .prepared { s with group := { s.group with validated := true } })

/-! ### RESETUP (R97) -/

/-- Every trim in progress ended where the group is about to leave STOPPED by a command (R12). The STATION_DONE of each trim is
raised here, so before the STATE of the entry that follows: no rule orders the two (log 10, DESIGN CHOICE). -/
def leaveStopped (s : State) : State := if s.group.state = .stopped then endTrims s else s

/-- RESETUP past the checks of R95. Trims ended here raise STATION_DONE before STATE (R12; log 10, DESIGN CHOICE). -/
def runResetup (s : State) : Executed :=
  if s.group.state = .stopped ∧ anyContact s = true then Executed.refused .loaded s
  else
    let t := setCause .none (leaveStopped s)
    Executed.done (enterGroup .setup { t with group := { t.group with validated := false } })

/-! ### ENGAGE (R98, R142) -/

/-- Every assigned station taken from IDLE into SEEKING (R142). -/
def seekAll (s : State) : State :=
  s.updAll (fun _ j =>
    if j.isIn .idle then { j with record := j.record.toSeeking j.latchedHeight } else j)

/-- ENGAGE past the checks of R95. -/
def runEngage (s : State) : Executed :=
  if allAssigned s (fun j => j.isIn .idle) = false then Executed.refused .wrongState s
  else if allAssigned s (fun j => j.record.datumKnown) = false then Executed.refused .noDatum s
  else if anyJack s (fun j => j.mon.gateOpen) = true then Executed.refused .wrongState s
  else Executed.done (seekAll (enterGroup .engaging (clearWait (setCause .none s))))

/-! ### RUN, CONTINUE, RESUME (R99, R100) -/

/-- The group enters MOVING with the segment at the plan position starting (R99, R122). -/
def enterMoving (s : State) : State := startSegment (enterGroup .moving (setCause .none s))

/-- RUN past the checks of R95. -/
def runRun (s : State) : Executed :=
  if s.segment.isNone then Executed.refused .empty s else Executed.done (enterMoving (clearWait s))

/-- CONTINUE past the checks of R95: the wait count keeps its value. -/
def runContinue (s : State) : Executed :=
  if s.segment.isNone then Executed.refused .empty s else Executed.done (enterMoving s)

/-- RESUME past the checks of R95. Trims ended here raise STATION_DONE before STATE (R12; log 10, DESIGN CHOICE). -/
def runResume (s : State) : Executed :=
  if anyJack s (fun j => j.isIn .faulted) = true then Executed.refused .faultsOpen s
  else if allAssigned s (fun j => j.isIn .engaged || j.isIn .trimming) = false then Executed.refused .wrongState s
  else
    let t := leaveStopped s
    if t.segment.isSome then Executed.done (enterMoving (freezeReference t))
    else Executed.done (enterHolding (setCause .none t))

/-! ### STOP (R101) -/

/-- STOP past the checks of R95. -/
def runStop (s : State) : Executed := Executed.done (enterStopping (setCause .command s))

/-! ### LAND (R100, R129) -/

/-- The descent begun at the execution of LAND (R129). -/
def beginDescent (s : State) : State :=
  { s with sync := { s.sync with descent := true, speed := 0, dir := if 0 < s.sync.ref then .down else .none } }

/-- LAND past the checks of R95. When every assigned station is IDLE the group passes on to PREPARED (R102), and the descent mark
is ENDED there (log 18). Trims ended where it leaves STOPPED raise STATION_DONE before STATE (R12; log 10, DESIGN CHOICE). -/
def runLand (s : State) : Executed :=
  if s.group.state = .stopped ∧ anyJack s (fun j => j.isIn .faulted) = true then Executed.refused .faultsOpen s
  else
    let t := beginDescent (enterGroup .landing (setCause .none (leaveStopped s)))
    if allAssigned t (fun j => j.isIn .idle) = true then Executed.done (enterGroup .prepared (endDescent t))
    else Executed.done t

/-! ### ACK_FAULTS (R107) -/

/-- The condition of a conditional entry still holds (R31, R61, R84 to R86). -/
def conditionHolds (s : State) (e : FaultEntry) : Bool :=
  match e.kind, e.subject with
  | .overload, .station k => decide ((s.jack k).record.settings.overload < (s.jack k).link.held)
  | .loadLoss, .station k => decide ((s.jack k).link.held < (s.jack k).record.settings.loss)
  | .loadSilent, .station k => (s.jack k).link.silent
  | .travelLimit, .station k => (s.jack k).outOfTravel
  | .twist, .car n => twistHolds (n - 1) s
  | .coupling, .coupling n => stepHolds (n - 1) s
  | _, _ => false

/-- An entry is kept by ACK_FAULTS: a lockout entry, or a conditional one whose condition holds. -/
def keptByAck (s : State) (e : FaultEntry) : Bool :=
  classOf e.kind == 2 || (classOf e.kind == 1 && conditionHolds s e)

/-- The twists and steps computed afresh for the TWIST and COUPLING entries of the list (R31). -/
def refreshGeometry (s : State) : State :=
  s.group.faults.foldl (fun t e => match e.kind, e.subject with
    | .twist, .car n => refreshTwist (n - 1) t
    | .coupling, .coupling n => refreshStep (n - 1) t
    | _, _ => t) s

/-- ACK_FAULTS past the checks of R95: its reply carries the entries removed and remaining (R194). -/
def runAckFaults (s : State) : Executed :=
  let kept := s.group.faults.filter (keptByAck s)
  let t := returnFaulted (setFaults kept (refreshGeometry s))
  { Executed.done t with extra := [byteOf (s.group.faults.length - kept.length), byteOf kept.length] }

/-! ### CLEAR_LOCKOUT (R110) -/

/-- The group state CLEAR_LOCKOUT and the end of a warm reset choose among, `withContact` being the one for a held contact. -/
def stateAfterLockout (s : State) : GroupState :=
  if anyContact s then .stopped else if s.group.validated then .prepared else .setup

/-- CLEAR_LOCKOUT past the checks of R95. -/
def runClearLockout (s : State) : Executed :=
  match lowestStation s (fun j => j.mon.runaway != 0) with
  | some k => { Executed.refused .motionSeen s with extra := [byteOf k.val] }
  | none =>
    let t := motionReset true (returnFaulted (setFaults (s.group.faults.filter (fun e => e.kind != .runaway)) s))
    Executed.done (enterGroup (stateAfterLockout t) t)

/-! ### Execution (R95) -/

/-- A command past the first two checks of R95. -/
def runChecked (c : GroupCommand) (s : State) : Executed :=
  match c with
  | .setupDone => runSetupDone s
  | .resetup => runResetup s
  | .engage => runEngage s
  | .run => runRun s
  | .continueRun => runContinue s
  | .stop => runStop s
  | .resume => runResume s
  | .land => runLand s
  | .ackFaults => runAckFaults s
  | .clearLockout => runClearLockout s

/-- A command checked and run (R95). -/
def runCommand (c : GroupCommand) (s : State) : Executed :=
  if takenIn c s.group.state = false then Executed.refused .wrongState s
  else if needsPermit c = true ∧ s.group.permit = false then Executed.refused .permitLow s
  else runChecked c s

/-- The content of a GROUP_COMMAND reply (R194). -/
def commandContent (check index : Nat) (code : Byte) (cycle : Byte) (extra : List Byte) : List Byte :=
  [byteOf check, byteOf index, code, cycle] ++ extra

/-- The command slot emptied. -/
def clearSlot (s : State) : State := { s with group := { s.group with slot := none } }

/-- The reply of an executed command (R95). -/
def executedReply (c : SlotCommand) (e : Executed) : Frame :=
  replyFrame .reply 0xC0 c.tag
    { outcome := e.outcome
      content := commandContent e.check e.index (commandCode c.command) e.state.group.cycle e.extra } e.state

/-- The waiting command executed: the slot emptied, the command run, its reply admitted always (R180), and its events handed over
after the reply (R176). -/
def executeCommand (c : SlotCommand) (s : State) : State :=
  let e := runCommand c.command (clearSlot s)
  handOver (enqueue (executedReply c e) e.state)

/-- The execution of a cycle start, where a command waits (R93, R95). -/
def executeSlot (s : State) : State :=
  match s.group.slot with
  | none => s
  | some c => executeCommand c s

end Sys2Proof.Machine
end

