-- ==== Sys2Proof/Machine/Cycle.lean ====
section
/-! DEFINITION. The cycle start as one whole step, and the parts of it that the table lists as steps of their own (R93, R15, R106). -/

namespace Sys2Proof.Machine

/-- `f` unless RESET_N is asserted: then no block acts (R116, R91, R189). -/
def unlessReset (f : State → State) (s : State) : State := if s.pins.resetAsserted then s else f s

/-! ### The stages of a cycle start -/

/-- The cycle number increased (R93). -/
def advanceCycle (s : State) : State := { s with group := { s.group with cycle := s.group.cycle + 1 } }

/-- A pending offset becomes the offset (R15). -/
def StationRec.takeOffset (r : StationRec) : StationRec :=
  match r.pendingOffset with
  | none => r
  | some o => { r with settings := { r.settings with offset := o }, pendingOffset := none }

/-- Every pending offset taken (R15). -/
def takeOffsets (s : State) : State := s.updAll (fun _ j => { j with record := j.record.takeOffset })

/-- The beacon, the latch and what is taken before a waiting command is executed (R75, R58, R15, R163, R71), and the command
(R93). The result is the state the other blocks find (R93). -/
def openCycle (s : State) : State :=
  executeSlot (lockoutWatch (handOver (takeAtCycleStart (takeOffsets (latchWork (beaconWork (advanceCycle s)))))))

/-- The work of the blocks whose detections come before the synchronisation unit's, in the order of R103, on the state `found`
that the command's execution left. Stations that receive no rate at this cycle start lose their commanded rate and rate-ceiling
mark (R41, R136). -/
def blockWork (found : State) : State :=
  handOver (geometryWork found (handOver (sequencerWork found (linkWork found (monitorWork found (clearRates found))))))

/-- The computation, and the release phase where the descent ended in it (R119, R129, R150). -/
def computeCycle (s : State) : State :=
  let t := computation s
  if s.group.state = .landing ∧ s.sync.descent = true ∧ t.sync.descent = false then releaseAll t else t

/-- Every assigned station's latched run state is IDLE (R106). -/
def allAtRest (s : State) : Bool := allAssigned s (fun j => !j.pos.latchedRunning)

/-- The passage from STOPPING to STOPPED, `forced` telling that every rate was forced to 0 at an earlier cycle start of this stop
(R106). -/
def stopTest (forced : Bool) (s : State) : State :=
  if s.group.state = .stopping ∧ forced = true ∧ allAtRest s = true then
    handOver (enterGroup .stopped (clearWait s))
  else s

/-- Every rate has been forced to 0 at an earlier cycle start of the present stop (R106): a stop is under way before the computation,
and a computation of it was forced. A stop that the computation itself begins has no earlier cycle start. -/
def forcedEarlier (s : State) : Bool := s.group.state == .stopping && s.group.ratesForced

/-- Everything after the blocks' checks: the computation, the test of R106, the stream and the brakes. -/
def closeCycle (s : State) : State :=
  settleBrakes (streamWork (stopTest (forcedEarlier s) (computeCycle s)))

/-- The work of a cycle start (R93, log 32). -/
def cycleWork (s : State) : State := closeCycle (blockWork (openCycle s))

/-! ### The rows -/

/-- CYCLE_START (R93). -/
def execCycleStart (s : State) : Host.Outcome State Fault Refusal := .next (unlessReset cycleWork s)

/-- PENDING_OFFSET_TAKE (R15), as a step of its own (log 4). -/
def execPendingOffsetTake (s : State) : Host.Outcome State Fault Refusal := .next (unlessReset takeOffsets s)

/-- TAKE (R162 to R164), as a step of its own (log 4). -/
def execTake (s : State) : Host.Outcome State Fault Refusal :=
  .next (unlessReset (fun t => handOver (takeAtCycleStart t)) s)

/-- SLIP_GATE_CLOSE (R63, R64), as a step of its own (log 4). -/
def execSlipGateClose (k : Sta) (s : State) : Host.Outcome State Fault Refusal :=
  .next (unlessReset (fun t => settleBrakes (closeSlipGate k t)) s)

/-- The wait cycle that reaches the wait limit: WAIT_TIMEOUT handed and the rest of the computation forced (R131). -/
def timeoutWork (s : State) : State :=
  if timesOut s then settleBrakes (handOver (finishComputation true true (waitCycle s))) else s

/-- WAIT_TIMEOUT (R131), as a step of its own (log 4). -/
def execWaitTimeout (s : State) : Host.Outcome State Fault Refusal := .next (unlessReset timeoutWork s)

/-- The DWELL under way whose count runs out at its next computation (R126). -/
def endingDwell (s : State) : Option Segment :=
  match s.group.state, s.segment, s.sync.dwell with
  | .moving, some g, some 1 => if g.kind = .dwell ∧ s.plan.segMode.isSome = true then some g else none
  | _, _, _ => none

/-- The last computation of a DWELL (R126). -/
def dwellWork (s : State) : State :=
  match endingDwell s with
  | some g => settleBrakes (handOver (dwellStep g s).state)
  | none => s

/-- DWELL_COMPLETION (R126), as a step of its own (log 4). -/
def execDwellCompletion (s : State) : Host.Outcome State Fault Refusal := .next (unlessReset dwellWork s)

/-- The stream's count brought to its period (R186). -/
def snapshotWork (s : State) : State := if streamDue s then streamSnapshot s else s

/-- STREAM_SNAPSHOT_DUE (R186), as a step of its own (log 4). -/
def execStreamSnapshotDue (s : State) : Host.Outcome State Fault Refusal := .next (unlessReset snapshotWork s)

end Sys2Proof.Machine
end

