-- ==== Sys2Proof/Machine/Requests.lean ====
section
/-! DEFINITION. What each request of the control line does and what it is answered (R3 to R15, R23 to R25, R66, R68, R92, R94, R108, R114, R157 to R166, R178, R184 to R187). -/

namespace Sys2Proof.Machine

/-- What a request leaves: the state after its effect, and its immediate reply, if it has one (R175, R176). -/
structure Answer where
  state : State
  reply : Option Reply

/-- A refusal: no state is changed and the reply carries no content (R176, R194). -/
def Answer.refused (o : ReplyOutcome) (s : State) : Answer := { state := s, reply := some (Reply.plain o) }

/-- DONE with content, formed after the effect. -/
def Answer.done (s : State) (content : List Byte) : Answer :=
  { state := s, reply := some { outcome := .done, content := content } }

/-- DONE, or CLAMPED where a clamp changed a value. -/
def Answer.clamped (changed : Bool) (s : State) : Answer :=
  { state := s, reply := some (Reply.plain (if changed then .clamped else .done)) }

/-- The station an index names, else BAD_VALUE. -/
def withStation (index : Byte) (s : State) (f : Sta → Answer) : Answer :=
  match stationIndex index with
  | none => Answer.refused .badValue s
  | some k => f k

/-! ### Reads -/

/-- STATUS (R178). -/
def serveStatus (clear : Byte) (s : State) : Answer :=
  if clear = 0 then Answer.done s (statusContent s s.line.cold)
  else if clear = 1 then
    let t := { s with line := { s.line with cold := false } }
    Answer.done t (statusContent t s.line.cold)
  else Answer.refused .badValue s

/-- The slip mark of a station cleared (R65). -/
def clearSlipMark (k : Sta) (s : State) : State :=
  s.updJack k (fun j => { j with mon := { j.mon with slipMark := false } })

/-- STATION_GET (R3, R65): the mark is reported as it stood, and then cleared. -/
def serveStationGet (index : Byte) (s : State) : Answer :=
  withStation index s (fun k => Answer.done (clearSlipMark k s) (stationContent s k))

/-- CAR_GET (R25). -/
def serveCarGet (car : Byte) (s : State) : Answer :=
  if 1 ≤ car.toNat ∧ car.toNat ≤ Config.maxCars then Answer.done s (carContent s car.toNat)
  else Answer.refused .badValue s

/-- GROUP_GET (R92). -/
def serveGroupGet (s : State) : Answer := Answer.done s (groupContent s)

/-- SNAPSHOT (R185). -/
def serveSnapshot (s : State) : Answer := Answer.done s (snapshotBytes s)

/-- FAULTS_READ (R108). -/
def serveFaultsRead (s : State) : Answer := Answer.done s (faultsContent s)

/-- PLAN_READ (R160). -/
def servePlanRead (role index : Byte) (s : State) : Answer :=
  if role.toNat < 2 ∧ index.toNat < Config.bankSize then Answer.done s (planContent s (role == 1) index.toNat)
  else Answer.refused .badValue s

/-! ### STATION_SET (R1, R4) -/

/-- `lo ≤ x ≤ hi`. -/
def inRange (lo hi x : Nat) : Bool := decide (lo ≤ x) && decide (x ≤ hi)

/-- A signed value within −`m`..`m`. -/
def withinMagnitude (m : Nat) (x : Int) : Bool := decide (x.natAbs ≤ m)

/-- Whether each of the ten values of a STATION_SET lies in its range, in the order of R1. -/
def settingsInRange (v : RawSettings) : List Bool :=
  [inRange 100 20000 v.kStep.toNat, inRange 50 20000 v.encScale.toNat, inRange 1 20000 v.rMax.toNat,
   inRange 1 2500000 v.hMax.toNat, inRange 1 65535 v.tContact.toNat, inRange 1 65535 v.tRelease.toNat,
   inRange 1 65534 v.overload.toNat, true, true, withinMagnitude 50000 v.offset.toInt]

/-- Every marked value of a list of tests passes; bit k of the presence list marks the k-th (R175). -/
def markedPass (marked : Nat → Bool) (tests : List Bool) : Bool :=
  tests.zipIdx.all (fun (pass, i) => !marked i || pass)

/-- A marked value, or the one held. -/
def pick {α : Type} (marked : Bool) (new held : α) : α := if marked then new else held

/-- The settings after an accepted STATION_SET (R4). -/
def Settings.write (g : Settings) (m : Half) (v : RawSettings) : Settings :=
  { kStep := pick (m.getLsbD 0) v.kStep.toNat g.kStep
    encScale := pick (m.getLsbD 1) v.encScale.toNat g.encScale
    rMax := pick (m.getLsbD 2) v.rMax.toNat g.rMax
    hMax := pick (m.getLsbD 3) v.hMax.toNat g.hMax
    tContact := pick (m.getLsbD 4) v.tContact.toNat g.tContact
    tRelease := pick (m.getLsbD 5) v.tRelease.toNat g.tRelease
    overload := pick (m.getLsbD 6) v.overload.toNat g.overload
    loss := pick (m.getLsbD 7) v.loss.toNat g.loss
    homeCount := pick (m.getLsbD 8) v.homeCount g.homeCount
    offset := pick (m.getLsbD 9) v.offset.toInt g.offset }

/-- The record after an accepted STATION_SET (R4): a changed encoder scale or home count makes the datum UNKNOWN, and a written
offset the pending offset absent. -/
def StationRec.write (r : StationRec) (m : Half) (v : RawSettings) : StationRec :=
  let g := r.settings.write m v
  { r with
    settings := g
    pendingOffset := if m.getLsbD 9 then none else r.pendingOffset
    datumKnown := r.datumKnown && g.encScale == r.settings.encScale && g.homeCount == r.settings.homeCount }

/-- STATION_SET (R4). -/
def serveStationSet (index : Byte) (m : Half) (v : RawSettings) (s : State) : Answer :=
  withStation index s (fun k =>
    if s.group.state ≠ .setup then Answer.refused .wrongState s
    else if ((s.jack k).isIn .homing || (s.jack k).isIn .jogging) = true then Answer.refused .wrongState s
    else if markedPass (fun i => m.getLsbD i) (settingsInRange v) = false then Answer.refused .badValue s
    else Answer.done (s.updRec k (fun r => r.write m v)) [])

/-! ### CAR_SET (R23, R24) -/

/-- A corner byte is an absence mark or a station index (R23, check 4; R175). -/
def cornerValid (b : Byte) : Bool := b == 0xFF || (stationIndex b).isSome

/-- The car record of an accepted CAR_SET, its marks cleared (R22, R23). -/
def carOf (r : RawCar) : Car :=
  { fl := stationIndex r.fl, fr := stationIndex r.fr, rl := stationIndex r.rl, rr := stationIndex r.rr,
    twistLimit := r.twistLimit.toNat, coupled := r.coupled != 0, couplingLimit := r.couplingLimit.toNat,
    warnRaised := false, lastTwist := none, lastStep := none, couplingSet := false }

/-- The last step and coupling mark of the coupling behind a car cleared. -/
def Car.clearCoupling (c : Car) : Car := { c with lastStep := none, couplingSet := false }

/-- The imbalance marks of the stations a car lists ARMED. -/
def armImbalance (c : Car) (s : State) : State :=
  s.updAll (fun k j => if c.corners.any (fun o => o == some k) then { j with imbalance := false } else j)

/-- The car records with `c` as car `n`, which exists or is the next to be added; the coupling in front of it is cleared. -/
def placeCar (cars : List Car) (n : Nat) (c : Car) : List Car :=
  let l := if n ≤ cars.length then cars.set (n - 1) c else cars ++ [c]
  if 2 ≤ n then l.modify (n - 2) Car.clearCoupling else l

/-- CAR_SET in its record form (R23). -/
def serveCarSet (car : Byte) (r : RawCar) (s : State) : Answer :=
  let n := car.toNat
  if ¬ (1 ≤ n ∧ n ≤ Config.maxCars) then Answer.refused .badValue s
  else if s.group.state ≠ .setup then Answer.refused .wrongState s
  else if s.cars.length + 1 < n then Answer.refused .badValue s
  else if (cornerValid r.fl && cornerValid r.fr && cornerValid r.rl && cornerValid r.rr) = false then
    Answer.refused .badValue s
  else if inRange 100 50000 r.twistLimit.toNat = false then Answer.refused .badValue s
  else if r.coupled ≠ 0 ∧ inRange 100 50000 r.couplingLimit.toNat = false then Answer.refused .badValue s
  else
    let t := match s.cars[n - 1]? with
      | some old => armImbalance old s
      | none => s
    Answer.done (settleBrakes (applyAssignment (armImbalance (carOf r) { t with cars := placeCar t.cars n (carOf r) }))) []

/-- The table without its highest car, the coupling in front of that car discarded with it (R24). -/
def dropCar (cars : List Car) : List Car :=
  let l := cars.dropLast
  if l.isEmpty then l else l.modify (l.length - 1) Car.clearCoupling

/-- CAR_SET in its delete form (R24). -/
def serveCarDelete (car : Byte) (s : State) : Answer :=
  let n := car.toNat
  if ¬ (1 ≤ n ∧ n ≤ Config.maxCars) then Answer.refused .badValue s
  else if s.group.state ≠ .setup then Answer.refused .wrongState s
  else if n ≠ s.cars.length then Answer.refused .badValue s
  else
    let t := match s.cars.getLast? with
      | some old => armImbalance old s
      | none => s
    Answer.done (settleBrakes (applyAssignment { t with cars := dropCar t.cars })) []

/-! ### GROUP_SET (R114) -/

/-- Whether each of the 26 values lies in its range, in the order of R114 (R1, R36, R72, R88, R114). -/
def paramsInRange (v : Nat → Nat) : List Bool :=
  [inRange 1 2500000 (v 0), inRange 1 8000 (v 1), inRange 0 255 (v 2), inRange 0 1000 (v 3), inRange 10 5000 (v 4),
   inRange 11 20000 (v 5), inRange 1 65535 (v 6), inRange 1 20000 (v 7), inRange 1 15 (v 8), inRange 1 7 (v 9),
   inRange 1 200000 (v 10), inRange 1 8000 (v 11), inRange 1 500 (v 12), inRange 1 100000 (v 13), inRange 1 20000 (v 14),
   inRange 1 20000 (v 15), inRange 1 2500000 (v 16), inRange 50 100 (v 17), inRange 5 100 (v 18),
   v 19 == 4 || v 19 == 8 || v 19 == 16 || v 19 == 32, inRange 1 10000 (v 20), inRange 1 15 (v 21), inRange 1 1000 (v 22),
   inRange 1 15 (v 23), inRange 1 15 (v 24), inRange 1 60 (v 25)]

/-- The parameters writable in any state: the gain, the deadband and the two percentages (R114, R36). -/
def writableAnywhere (i : Nat) : Bool := i == 2 || i == 3 || i == 17 || i == 18

/-- The parameters from a table indexed in the order of R114. -/
def GroupParams.ofFn (v : Nat → Nat) : GroupParams :=
  { lMax := v 0, vMax := v 1, gain := v 2, deadband := v 3, holdBand := v 4, tripBand := v 5, waitLimit := v 6,
    engageRate := v 7, confirmTarget := v 8, attemptLimit := v 9, window := v 10, landRate := v 11, landAccel := v 12,
    clearance := v 13, homeRate := v 14, jogRate := v 15, homeWindow := v 16, twistWarn := v 17, imbalance := v 18,
    gateLength := v 19, slipTolerance := v 20, slipLimit := v 21, drift := v 22, runawayConfirm := v 23,
    missLimit := v 24, lossConfirm := v 25 }

/-- The parameters after an accepted GROUP_SET. -/
def GroupParams.write (p : GroupParams) (m : Word) (v : Nat → Nat) : GroupParams :=
  GroupParams.ofFn (fun i => pick (m.getLsbD i) (v i) (p.toList.getD i 0))

/-- The values a GROUP_SET carries, by index. -/
def carried (values : List Word) (i : Nat) : Nat := (values.getD i 0).toNat

/-- Some marked parameter is writable in SETUP only. -/
def marksSetupOnly (m : Word) : Bool := (List.range 26).any (fun i => m.getLsbD i && !writableAnywhere i)

/-- GROUP_SET (R114). A list that is not 26 values long is a body of another length than R175 gives (R174, check 4). -/
def serveGroupSet (m : Word) (values : List Word) (s : State) : Answer :=
  let v := carried values
  if values.length ≠ 26 then Answer.refused .badLength s
  else if s.group.state ≠ .setup ∧ marksSetupOnly m = true then Answer.refused .wrongState s
  else if markedPass (fun i => m.getLsbD i) (paramsInRange v) = false then Answer.refused .badValue s
  else if s.group.state ≠ .setup ∧ m.getLsbD 3 = true ∧ s.group.params.holdBand ≤ v 3 then Answer.refused .badValue s
  else Answer.done { s with group := { s.group with params := s.group.params.write m v } } []

/-! ### EVENT_MASK and STREAM (R184, R186) -/

/-- EVENT_MASK (R184): bit 15 is ignored. The moves of R183 follow the reply. -/
def serveEventMask (m : Half) (s : State) : Answer :=
  let t := { s with line := { s.line with mask := m &&& 0x7FFF } }
  Answer.done t (bytes2 t.line.mask ++ bytes2 (pendingKinds t))

/-- STREAM (R186). -/
def serveStream (period : Half) (s : State) : Answer :=
  let n := period.toNat
  if n = 0 ∨ (5 ≤ n ∧ n ≤ 1000) then
    Answer.done { s with line := { s.line with streamPeriod := n, streamCount := 0 } } (nat2 n)
  else Answer.refused .badValue s

/-! ### Plans (R157 to R166) -/

/-- PLAN_WRITE (R157, R158). -/
def servePlanWrite (index : Byte) (r : RawSegment) (s : State) : Answer :=
  let k := index.toNat
  if Config.bankSize ≤ k then Answer.refused .badValue s
  else if s.plan.commit.isSome then Answer.refused .bankQueued s
  else if s.plan.pendingBank.length < k then Answer.refused .badValue s
  else match storeSegment s.group.params r with
    | none => Answer.refused .badValue s
    | some (g, changed) =>
      Answer.clamped changed { s with plan := s.plan.setPending (writeSegment s.plan.pendingBank k g) }

/-- PLAN_CLEAR (R159). -/
def servePlanClear (s : State) : Answer :=
  if s.plan.commit.isSome then Answer.refused .bankQueued s
  else Answer.done { s with plan := s.plan.setPending [] } []

/-- COMMIT with a valid kind (R161). -/
def serveCommit (kind : CommitKind) (s : State) : Answer :=
  if s.plan.commit.isSome then Answer.refused .bankQueued s
  else if s.plan.pendingBank.isEmpty then Answer.refused .empty s
  else Answer.done { s with plan := { s.plan with commit := some kind, taken := false } } []

/-- COMMIT as its body carries it (R161). -/
def serveCommitByte (kind : Byte) (s : State) : Answer :=
  if kind = 1 then serveCommit .replace s
  else if kind = 2 then serveCommit .append s
  else Answer.refused .badValue s

/-- WITHDRAW (R165). -/
def serveWithdraw (s : State) : Answer :=
  if s.plan.commit.isSome then Answer.done { s with plan := { s.plan with commit := none } } []
  else if s.plan.taken then Answer.refused .tooLate s
  else Answer.refused .wrongState s

/-- PLAN_MODE (R166). -/
def servePlanMode (mode : Byte) (s : State) : Answer :=
  if mode = 1 then Answer.done { s with plan := { s.plan with mode := .single } } []
  else if mode = 2 then Answer.done { s with plan := { s.plan with mode := .chained } } []
  else Answer.refused .badValue s

/-! ### Station operations (R5 to R15) -/

/-- The group states in which an operation is taken (R5). -/
def operationGroup (op : Operation) (g : GroupState) : Bool :=
  match op with
  | .home => g == .setup || g == .prepared
  | .jog => g == .setup || g == .prepared
  | .trim => g == .stopped

/-- A FAULTED station with fault kind TRAVEL_LIMIT, the prior state given and no counted move in progress (R5). -/
def recoverable (prior : Prior) (r : StationRec) : Bool :=
  r.state == .faulted && r.faultKind == some .travelLimit && r.prior == some prior && r.move.isNone

/-- The station states in which an operation is taken (R5). -/
def operationState (op : Operation) (r : StationRec) : Bool :=
  match op with
  | .home => r.state == .idle
  | .jog => r.state == .idle || recoverable .idle r
  | .trim => r.state == .engaged || recoverable .engaged r

/-- The checks of R5 for HOME, JOG and TRIM past the index; the outcome of the first that fails. -/
def operationFailure (op : Operation) (k : Sta) (distance : Int) (s : State) : Option ReplyOutcome :=
  if (s.jack k).assigned = false then some .unassigned
  else if operationGroup op s.group.state = false then some .wrongState
  else if operationState op (s.jack k).record = false then some .wrongState
  else if withinMagnitude 100000 distance = false then some .badValue
  else if s.group.permit = false then some .permitLow
  else none

/-- The travel clamp of R6: the distance a JOG or TRIM moves. -/
def clampedDistance (j : Jack) (d : Int) : Int :=
  let h := j.liveHeight
  let top : Int := j.record.settings.hMax
  if j.record.datumKnown = false then d
  else if 0 < d ∧ top < h + d then max 0 (top - h)
  else if d < 0 ∧ h + d < 0 then min 0 (-h)
  else d

/-- The state an operation enters from IDLE or ENGAGED (R6, R7). -/
def operatingState (op : Operation) : StationState :=
  match op with
  | .home => .homing
  | .jog => .jogging
  | .trim => .trimming

/-- The record of a station whose operation has started its counted move; a FAULTED station stays FAULTED (R6). -/
def StationRec.startMove (r : StationRec) (op : Operation) : StationRec :=
  { r with
    state := if r.state = .faulted then .faulted else operatingState op
    move := some { op := op, underFault := r.state == .faulted, done := false } }

/-- The counted move of an operation started: the station's state, then the generator. -/
def startOperation (op : Operation) (k : Sta) (rate : Nat) (dir : Dir) (steps : Nat) (s : State) : State :=
  orderMove k rate dir steps (s.updRec k (fun r => r.startMove op))

/-- A JOG or TRIM taken (R6). -/
def moveStation (op : Operation) (k : Sta) (d : Int) (s : State) : Answer :=
  let j := s.jack k
  let moved := clampedDistance j d
  let steps := stepsOf moved.natAbs j.record.settings.kStep
  let rate := min s.group.params.jogRate j.record.settings.rMax
  Answer.clamped (moved != d)
    (if steps = 0 then raise (.stationDone k op .ok) s
     else settleBrakes (startOperation op k rate (if 0 < moved then .up else .down) steps s))

/-- JOG (R5, R6, R10). -/
def serveJog (index : Byte) (distance : Word) (s : State) : Answer :=
  withStation index s (fun k => match operationFailure .jog k distance.toInt s with
    | some o => Answer.refused o s
    | none => moveStation .jog k distance.toInt s)

/-- TRIM (R5, R6, R11). -/
def serveTrim (index : Byte) (distance : Word) (s : State) : Answer :=
  withStation index s (fun k => match operationFailure .trim k distance.toInt s with
    | some o => Answer.refused o s
    | none => moveStation .trim k distance.toInt s)

/-- The datum mark UNKNOWN (R7). -/
def loseDatum (k : Sta) (s : State) : State := s.updRec k (fun r => { r with datumKnown := false })

/-- HOME taken (R7): the activation at once where the input is active, else the descent. A window of 0 steps starts no generator
and ends FAILED (log 13, DESIGN CHOICE). -/
def homeStation (k : Sta) (s : State) : State :=
  let t := loseDatum k s
  let j := t.jack k
  let steps := stepsOf t.group.params.homeWindow j.record.settings.kStep
  if j.homeLow then raise (.stationDone k .home .ok) (t.updJack k Jack.preset)
  else if steps = 0 then raise (.stationDone k .home .failed) t
  else settleBrakes (startOperation .home k (min t.group.params.homeRate j.record.settings.rMax) .down steps t)

/-- HOME (R5, R7). -/
def serveHome (index : Byte) (s : State) : Answer :=
  withStation index s (fun k => match operationFailure .home k 0 s with
    | some o => Answer.refused o s
    | none => Answer.done (homeStation k s) [])

/-- The group states in which SET_OFFSET is taken (R5). -/
def offsetGroup (g : GroupState) : Bool := g == .prepared || g == .poised || g == .holding || g == .stopped

/-- The offsets as they would stand after the next cycle start with `o` requested for station `k` (R14). -/
def offsetsWith (s : State) (k : Sta) (o : Int) (i : Sta) : Int :=
  let r := (s.jack i).record
  if i = k then o else r.pendingOffset.getD r.settings.offset

/-- SET_OFFSET (R5, R13, R14). -/
def serveSetOffset (index : Byte) (offset : Word) (s : State) : Answer :=
  withStation index s (fun k =>
    if (s.jack k).assigned = false then Answer.refused .unassigned s
    else if offsetGroup s.group.state = false then Answer.refused .wrongState s
    else if withinMagnitude 50000 offset.toInt = false then Answer.refused .badValue s
    else if (offsetFailure s.cars (offsetsWith s k offset.toInt)).isSome then Answer.refused .geometry s
    else Answer.done (s.updRec k (fun r => { r with pendingOffset := some offset.toInt })) [])

/-! ### Calibration gates (R66, R68) -/

/-- The monitor with a calibration gate just opened (R66). -/
def Monitor.openGate (m : Monitor) : Monitor :=
  { m with gate := none, gateOpen := true, stepTally := 0, edgeTally := 0, openCycles := 0 }

/-- A station state in which a gate may be opened (R66). -/
def gateState (st : StationState) : Bool := st == .idle || st == .jogging || st == .homing

/-- OPEN_GATE (R66). -/
def serveOpenGate (index : Byte) (s : State) : Answer :=
  withStation index s (fun k =>
    let j := s.jack k
    if j.assigned = false then Answer.refused .unassigned s
    else if s.group.state ≠ .setup ∧ s.group.state ≠ .prepared then Answer.refused .wrongState s
    else if gateState j.record.state = false then Answer.refused .wrongState s
    else if j.mon.gateOpen then Answer.refused .wrongState s
    else Answer.done (s.updJack k (fun j => { j with mon := j.mon.openGate })) [])

/-- The tallies a CLOSE_GATE reply carries (R68, R194). -/
def gateContent (m : Monitor) : List Byte :=
  nat4 m.stepTally.toNat ++ nat4 m.edgeTally.toNat ++ nat2 m.openCycles

/-- The monitor with its calibration gate closed (R68); a slip gate opens at the next cycle start. -/
def Monitor.closeGate (m : Monitor) : Monitor :=
  { m with gateOpen := false, stepTally := 0, edgeTally := 0, openCycles := 0, gate := none }

/-- CLOSE_GATE (R68). -/
def serveCloseGate (index : Byte) (s : State) : Answer :=
  withStation index s (fun k =>
    let j := s.jack k
    if j.mon.gateOpen = false then Answer.refused .wrongState s
    else Answer.done (s.updJack k (fun j => { j with mon := j.mon.closeGate })) (gateContent j.mon))

/-! ### GROUP_COMMAND and RESTART (R94, R187) -/

/-- The command slot filled (R94). -/
def fillSlot (c : SlotCommand) (s : State) : State := { s with group := { s.group with slot := some c } }

/-- The immediate reply to a GROUP_COMMAND that is not placed (R94, R194). -/
def immediateReply (o : ReplyOutcome) (code : Byte) (s : State) : Reply :=
  { outcome := o, content := commandContent 0 0 code s.group.cycle [] }

/-- GROUP_COMMAND with a known code (R94): placed without a reply, or BUSY. -/
def serveCommand (tag : Byte) (c : GroupCommand) (s : State) : Answer :=
  match s.group.slot with
  | none => { state := fillSlot { tag := tag, command := c } s, reply := none }
  | some _ => { state := s, reply := some (immediateReply .busy (commandCode c) s) }

/-- GROUP_COMMAND as its body carries it (R94): BAD_VALUE for a code not in the table. -/
def serveGroupCommand (tag code : Byte) (s : State) : Answer :=
  match commandOf code with
  | none => { state := s, reply := some (immediateReply .badValue code s) }
  | some c => serveCommand tag c s

/-! ### Taking a request (R174 to R176) -/

/-- The reply kind of a taken request: its kind plus 0x80 (R176). -/
def replyKind (kind : Byte) : Byte := kind + 0x80

/-- The reply, if there is one, admitted after the effect; then the events the request raised are handed over (R176). -/
def finishRequest (cls : FrameClass) (kind tag : Byte) (a : Answer) : State :=
  handOver (match a.reply with
    | some r => enqueue (replyFrame cls (replyKind kind) tag r a.state) a.state
    | none => a.state)

/-- The line controller takes a request: not while RESET_N is asserted (R189), nor while 7 frames or more are held (R174). -/
def whenRoom (f : State → State) (s : State) : State :=
  if s.pins.resetAsserted then s
  else if Config.requestRoom ≤ s.line.queue.length then s
  else f s

/-- A request taken (R175): `serve` is what its kind does. -/
def takeKind (kind tag : Byte) (serve : State → Answer) (s : State) : State :=
  whenRoom (fun t => finishRequest .reply kind tag (serve t)) s

/-- EVENT_MASK taken: its reply is admitted first, and the moves of R183 follow (R184). -/
def takeEventMask (tag : Byte) (m : Half) (s : State) : State :=
  whenRoom (fun t => movePending (finishRequest .reply 0x12 tag (serveEventMask m t))) s

/-- RESTART taken (R187): its reply begins the warm reset when it has been sent. -/
def takeRestart (tag : Byte) (s : State) : State :=
  whenRoom (fun t => finishRequest .restartReply 0x50 tag (Answer.done t [])) s

/-- A request of any kind taken (R175). -/
def takeRequest (tag : Byte) (r : Request) (s : State) : State :=
  match r with
  | .status clear => takeKind 0x01 tag (serveStatus clear) s
  | .stationGet i => takeKind 0x02 tag (serveStationGet i) s
  | .stationSet i m v => takeKind 0x03 tag (serveStationSet i m v) s
  | .carGet n => takeKind 0x04 tag (serveCarGet n) s
  | .carSet n c => takeKind 0x05 tag (serveCarSet n c) s
  | .carDelete n => takeKind 0x05 tag (serveCarDelete n) s
  | .carBadForm _ _ => takeKind 0x05 tag (Answer.refused .badValue) s
  | .groupGet => takeKind 0x06 tag serveGroupGet s
  | .groupSet m vs => takeKind 0x07 tag (serveGroupSet m vs) s
  | .snapshot => takeKind 0x10 tag serveSnapshot s
  | .faultsRead => takeKind 0x11 tag serveFaultsRead s
  | .eventMask m => takeEventMask tag m s
  | .stream p => takeKind 0x13 tag (serveStream p) s
  | .planWrite k g => takeKind 0x20 tag (servePlanWrite k g) s
  | .planRead r k => takeKind 0x21 tag (servePlanRead r k) s
  | .planClear => takeKind 0x22 tag servePlanClear s
  | .commit k => takeKind 0x23 tag (serveCommitByte k) s
  | .withdraw => takeKind 0x24 tag serveWithdraw s
  | .planMode m => takeKind 0x25 tag (servePlanMode m) s
  | .jog i d => takeKind 0x30 tag (serveJog i d) s
  | .home i => takeKind 0x31 tag (serveHome i) s
  | .trim i d => takeKind 0x32 tag (serveTrim i d) s
  | .openGate i => takeKind 0x33 tag (serveOpenGate i) s
  | .closeGate i => takeKind 0x34 tag (serveCloseGate i) s
  | .setOffset i o => takeKind 0x35 tag (serveSetOffset i o) s
  | .groupCommand c => takeKind 0x40 tag (serveGroupCommand tag c) s
  | .restart => takeRestart tag s

end Sys2Proof.Machine
end

