-- ==== Sys2Proof/Machine/CommandRows.lean ====
section
/-! DEFINITION. The meaning of each group command row of the table, at its arrival and at its execution (R94, R95, log 5). -/

namespace Sys2Proof.Machine

/-- The command in the slot is `c`, and is executed (R95). Where another command waits, or none, there is no such execution
(log 5). -/
def executeWaiting (c : GroupCommand) (s : State) : State :=
  match s.group.slot with
  | some w => if w.command = c then settleBrakes (executeCommand w s) else s
  | none => s

/-- A group command at its arrival or at its execution (R94, R95). -/
def commandPhase (c : GroupCommand) (phase : CommandPhase) (s : State) : State :=
  match phase with
  | .arrival tag => takeKind 0x40 tag (serveCommand tag c) s
  | .execution => unlessReset (executeWaiting c) s

/-- SETUP_DONE (R96). -/
def execSetupDone (phase : CommandPhase) (s : State) : Host.Outcome State Fault Refusal :=
  .next (commandPhase .setupDone phase s)

/-- RESETUP (R97). -/
def execResetup (phase : CommandPhase) (s : State) : Host.Outcome State Fault Refusal :=
  .next (commandPhase .resetup phase s)

/-- ENGAGE (R98). -/
def execEngage (phase : CommandPhase) (s : State) : Host.Outcome State Fault Refusal :=
  .next (commandPhase .engage phase s)

/-- RUN (R99). -/
def execRun (phase : CommandPhase) (s : State) : Host.Outcome State Fault Refusal :=
  .next (commandPhase .run phase s)

/-- CONTINUE (R99). -/
def execContinueRun (phase : CommandPhase) (s : State) : Host.Outcome State Fault Refusal :=
  .next (commandPhase .continueRun phase s)

/-- STOP (R101). -/
def execStop (phase : CommandPhase) (s : State) : Host.Outcome State Fault Refusal :=
  .next (commandPhase .stop phase s)

/-- RESUME (R100). -/
def execResume (phase : CommandPhase) (s : State) : Host.Outcome State Fault Refusal :=
  .next (commandPhase .resume phase s)

/-- LAND (R100, R149). -/
def execLand (phase : CommandPhase) (s : State) : Host.Outcome State Fault Refusal :=
  .next (commandPhase .land phase s)

/-- ACK_FAULTS (R107). -/
def execAckFaults (phase : CommandPhase) (s : State) : Host.Outcome State Fault Refusal :=
  .next (commandPhase .ackFaults phase s)

/-- CLEAR_LOCKOUT (R110). -/
def execClearLockout (phase : CommandPhase) (s : State) : Host.Outcome State Fault Refusal :=
  .next (commandPhase .clearLockout phase s)

end Sys2Proof.Machine
end

