-- ==== Sys2Proof/Machine/Inputs.lean ====
section
/-! DEFINITION. The events of the field lines: generators, encoders, home switches, the permit line and the load link (R8, R39, R43, R46, R53, R56, R75, R78, R79, R111, R112). -/

namespace Sys2Proof.Machine

abbrev Answered := Host.Outcome State Fault Refusal

/-! ### Generators (R39, R43, R45, R46, R53) -/

/-- A period completion at a station: the pulse reported in the direction it was emitted, and the generator's next (R43, R46,
R53). -/
def Jack.completePeriod (j : Jack) : Jack := { j with mon := j.mon.pulse j.gen.dir, gen := j.gen.complete }

/-- The idle event, where the completion left the generator IDLE (R53). -/
def idleIfResting (k : Sta) (s : State) : State := if (s.jack k).gen.running then s else idleEvent k s

/-- The completion of the period in progress of station `k`. No generator runs while the permit is low or the group is LOCKED_OUT
(R48, R49), and an IDLE generator has no period. -/
def periodWork (k : Sta) (s : State) : State :=
  if generatorsHeld s = true ∨ (s.jack k).gen.running = false then s
  else handOver (settleBrakes (idleIfResting k (s.updJack k Jack.completePeriod)))

/-- PERIOD_COMPLETION (R43, R46). -/
def execPeriodCompletion (k : Sta) (s : State) : Answered := .next (unlessReset (periodWork k) s)

/-- STEP_PULSE_END (R39). -/
def execStepPulseEnd (k : Sta) (s : State) : Answered := .next (s.updGen k Generator.pulseEnd)

/-! ### Encoders (R56): counted in every state, through a reset too -/

/-- ENCODER_EDGE (R56). -/
def execEncoderEdge (k : Sta) (line : EncLine) (s : State) : Answered := .next (s.updJack k (fun j => j.edge line))

/-- BOTH_LINES_CHANGE (R56). -/
def execBothLinesChange (k : Sta) (s : State) : Answered := .next (s.updJack k Jack.bothChange)

/-! ### Home switches (R8) -/

/-- The level of a HOME input; low is active. -/
def setHome (k : Sta) (low : Bool) (s : State) : State := s.updJack k (fun j => { j with homeLow := low })

/-- A fall of a HOME input (R8). An input that is low already cannot fall (log 33); while RESET_N is asserted the input alone
moves (log 7). -/
def homeFall (k : Sta) (s : State) : State :=
  if (s.jack k).homeLow then s
  else unlessReset (fun t => handOver (takeActivation k t)) (setHome k true s)

/-- HOME_ACTIVATION (R8). -/
def execHomeActivation (k : Sta) (s : State) : Answered := .next (homeFall k s)

/-- HOME_INACTIVE (R8): nothing changes in the station; the input is armed again. -/
def execHomeInactive (k : Sta) (s : State) : Answered := .next (setHome k false s)

/-! ### The permit line (R111, R112) -/

/-- The group states a permit fall stops (R111). -/
def stoppedByFall (g : GroupState) : Bool :=
  match g with
  | .engaging => true | .poised => true | .moving => true | .holding => true | .stopping => true | .landing => true
  | .setup => false | .prepared => false | .stopped => false | .lockedOut => false

/-- The level of the PERMIT line. -/
def setPermitLine (high : Bool) (s : State) : State := { s with pins := { s.pins with permit := high } }

/-- The permit level of the group controller. -/
def setPermit (high : Bool) (s : State) : State := { s with group := { s.group with permit := high } }

/-- The generators abandoned and every HOME, JOG and TRIM ended in the abandon form (R18, R48). -/
def cutMoves (s : State) : State := forStations abandonMove (abandonAll s)

/-- The group stopped by a permit fall (R111): a fault stop under way keeps its cause. -/
def stopByFall (s : State) : State :=
  let t := haltReference (moveStations s)
  enterGroup (if anyContact t then .stopped else .prepared) (if faultStopUnderWay s then t else setCause .permit t)

/-- A permit fall taken by the group controller (R111). -/
def takeFall (s : State) : State :=
  let stops := stoppedByFall s.group.state
  let t := cutMoves (raise (.permit false stops) (setPermit false s))
  handOver (settleBrakes (if stops then stopByFall t else t))

/-- A permit rise taken by the group controller (R112). -/
def takeRise (s : State) : State :=
  handOver (settleBrakes (motionReset false (raise (.permit true false) (setPermit true s))))

/-- PERMIT_FALL (R111). A line that is low already cannot fall (log 33); while RESET_N is asserted the line alone moves (log 7). -/
def execPermitFall (s : State) : Answered :=
  .next (if s.pins.permit then unlessReset takeFall (setPermitLine false s) else s)

/-- PERMIT_RISE (R112). -/
def execPermitRise (s : State) : Answered :=
  .next (if s.pins.permit then s else unlessReset takeRise (setPermitLine true s))

/-! ### The load link (R75, R78, R79, R81) -/

/-- LDE falls and LTX is idle (R75). -/
def dropBeacon (s : State) : State := { s with link := { s.link with lde := false, ltx := [] } }

/-- BEACON_END (R75). -/
def execBeaconEnd (s : State) : Answered := .next (dropBeacon s)

/-- LOAD_BYTE_RECEIVED (R78, R81). -/
def execLoadByteReceived (w : LinkWindow) (b : Byte) (framingFault : Bool) (s : State) : Answered :=
  .next (unlessReset (fun t => handOver (receiveLinkByte w { byte := b, framingFault := framingFault } t)) s)

/-- SLOT_CLOSE (R79, R81); `inProgress`: a byte whose start bit fell in the slot is still being received (R79). -/
def execSlotClose (k : Sta) (inProgress : Bool) (s : State) : Answered :=
  .next (unlessReset (fun t => handOver (closeSlot k inProgress t)) s)

end Sys2Proof.Machine
end

