-- ==== Sys2Proof/Machine/Resets.lean ====
section
/-! DEFINITION. Power-on and warm reset (R19, R20, R37, R54, R55, R73, R90, R91, R115, R116, R139, R155, R170, R188, R189). -/

namespace Sys2Proof.Machine

/-! ### Power-on -/

/-- A station after a power-on with its inputs at the levels given (R73). -/
def Jack.powered (p : StationPins) : Jack :=
  { Jack.reset with pos := { Counter.reset with encA := p.encA, encB := p.encB }, homeLow := p.homeLow }

/-- The state when a power-on reset ends with the inputs at the levels given: the permit level and the straps are sampled (R115,
R171). -/
def State.powered (p : PowerPins) : State :=
  { State.reset with
    jacks := p.stations.mapAll (fun _ q => Jack.powered q)
    group := { Group.reset with permit := p.permit }
    line := { Line.reset with speed1 := p.spd1, speed0 := p.spd0 }
    pins := { permit := p.permit, resetAsserted := false } }

/-- POWER_ON (R115): everything but the commands still waiting outside the part takes its power-on value (log 31). -/
def execPowerOn (pins : PowerPins) (s : State) : Host.Outcome State Fault Refusal :=
  .next { State.powered pins with pending := s.pending }

/-! ### The start of a warm reset (R55, R68, R73, R91, R189) -/

/-- The monitor with its gates discarded and closed (R68, R73). -/
def Monitor.closeGates (m : Monitor) : Monitor :=
  { m with gate := none, gateOpen := false, stepTally := 0, edgeTally := 0, openCycles := 0 }

/-- A station at the start of a warm reset: its generator abandoned without an idle event, its brake APPLIED, its gates
discarded, its slot of the interrupted cycle dropped. -/
def Jack.warmBegin (j : Jack) : Jack :=
  { j with gen := { j.gen.abandon with brake := .applied }, mon := j.mon.closeGates, link := j.link.close }

/-- The line controller at the start of a warm reset (R189). -/
def Line.warmBegin (l : Line) : Line :=
  { l with asm := .hunting, queue := [], pending := [], mask := 0, streamPeriod := 0, streamCount := 0, raised := [] }

/-- The start of a warm reset. -/
def warmBegin (s : State) : State :=
  { s with
    jacks := s.jacks.mapAll (fun _ j => j.warmBegin)
    line := s.line.warmBegin
    link := { lde := false, ltx := [], started := false }
    pins := { s.pins with resetAsserted := true } }

/-- WARM_RESET_BEGIN (R116): RESET_N falls. It changes nothing where RESET_N is low already (log 33). -/
def execWarmResetBegin (s : State) : Host.Outcome State Fault Refusal :=
  .next (if s.pins.resetAsserted then s else warmBegin s)

/-! ### The end of a warm reset (R20, R37, R55, R73, R91, R116, R139, R170) -/

/-- The state of a station after a warm reset (R20). -/
def warmState (state : StationState) (prior : Option Prior) : StationState :=
  match state with
  | .unassigned => .unassigned | .idle => .idle | .engaged => .engaged
  | .homing => .idle | .jogging => .idle | .seeking => .idle | .confirming => .idle
  | .trimming => .engaged | .releasing => .engaged
  | .faulted => match prior with
    | some .engaged => .engaged
    | _ => .idle

/-- The record of a station after a warm reset (R20). -/
def StationRec.warm (r : StationRec) : StationRec :=
  { r with
    state := warmState r.state r.prior
    pendingOffset := none
    start := none
    attempts := 0
    confirm := 0
    faultKind := none
    prior := none
    move := none }

/-- The load link's values after a warm reset: the held load is kept (R91). -/
def LinkSlot.warm (l : LinkSlot) : LinkSlot := { LinkSlot.reset with held := l.held }

/-- The monitor's values after a warm reset; the rest count is re-latched by the motion-engine reset (R73). -/
def Monitor.warm (m : Monitor) : Monitor := { Monitor.reset with rest := m.rest }

/-- A station after a warm reset: its count, latches and error are kept (R73, R139). -/
def Jack.warm (j : Jack) : Jack :=
  { j with record := j.record.warm, gen := .reset, mon := j.mon.warm, link := j.link.warm, imbalance := false, rate := 0 }

/-- A car's marks after a warm reset (R37). -/
def Car.warm (c : Car) : Car :=
  { c with warnRaised := false, lastTwist := none, lastStep := none, couplingSet := false }

/-- The blocks but for the group state and the reference after a warm reset, the straps read afresh (R171, R189). -/
def warmBlocks (spd1 spd0 : Bool) (s : State) : State :=
  { s with
    jacks := s.jacks.mapAll (fun _ j => j.warm)
    cars := s.cars.map Car.warm
    group := { s.group with
      slot := none, faults := [], overflow := false, permit := s.pins.permit, ratesForced := false }
    sync := { s.sync with descent := false, waiting := false }
    plan := { s.plan with taken := false, segMode := none }
    line := { s.line with speed1 := spd1, speed0 := spd0 }
    pins := { s.pins with resetAsserted := false } }

/-- The state a warm reset brings the group up in (R116). -/
def stateAfterWarm (s : State) : GroupState :=
  if s.group.validated then (if anyContact s then .stopped else .prepared) else .setup

/-- The end of a warm reset (R116). -/
def warmEnd (spd1 spd0 : Bool) (s : State) : State :=
  let t := warmBlocks spd1 spd0 s
  let g := stateAfterWarm t
  handOver (setCause (if g = .stopped then .reset else .none) (motionReset false (enterGroup g t)))

/-- WARM_RESET_END (R116): RESET_N rises, with the straps at the levels given (log 35). It changes nothing where RESET_N is high
already (log 33). -/
def execWarmResetEnd (spd1 spd0 : Bool) (s : State) : Host.Outcome State Fault Refusal :=
  .next (if s.pins.resetAsserted then warmEnd spd1 spd0 s else s)

end Sys2Proof.Machine
end

