-- ==== Sys2Proof/Machine/Receive.lean ====
section
/-! DEFINITION. The bytes of the control line: the receive assembler, the check of a completed frame, and the end of a transmitted frame (R173, R174, R179, R183, R187). -/

namespace Sys2Proof.Machine

/-- The receive assembler set. -/
def setAssembler (a : Assembler) (s : State) : State := { s with line := { s.line with asm := a } }

/-! ### A completed frame (R174) -/

/-- The reply kind of a request whose kind is unknown (R174, check 3). -/
def unknownReplyKind (kind : Byte) : Byte := if kind.toNat < 0x80 then kind + 0x80 else 0xFF

/-- A frame answered at the kind or length check, which changes no state (R174). Its reply carries the outcome and the summary alone,
that of a GROUP_COMMAND of a wrong length too (R174 taken before R194's row; log 39, DEDUCED). -/
def answerBadFrame (kind tag : Byte) (o : ReplyOutcome) (s : State) : State :=
  enqueue (replyFrame .reply kind tag (Reply.plain o) s) s

/-- A frame that has passed the CRC check and found room: kind, length, taken (R174, checks 3 to 5). -/
def dispatchFrame (kind tag : Byte) (body : List Byte) (s : State) : State :=
  match bodyLength kind with
  | none => answerBadFrame (unknownReplyKind kind) tag .unknownKind s
  | some n =>
    if body.length ≠ n then answerBadFrame (replyKind kind) tag .badLength s
    else takeRequest tag (requestOf kind body) s

/-- The check of a completed frame (R174): `taken` holds the bytes after the length field. -/
def frameCheck (len : Half) (taken : List Byte) (s : State) : State :=
  let n := len.toNat
  if crc16 (bytes2 len ++ taken.take n) ≠ halfAt taken n then s
  else whenRoom (dispatchFrame (byteAt taken 0) (byteAt taken 1) ((taken.take n).drop 2)) s

/-! ### Bytes (R173) -/

/-- The assembler after the second length byte. -/
def afterLength (len : Half) : Assembler :=
  if 2 ≤ len.toNat ∧ len.toNat ≤ 402 then .collecting len [] else .hunting

/-- A byte of a frame being collected. -/
def collectByte (len : Half) (taken : List Byte) (b : Byte) (s : State) : State :=
  let l := taken ++ [b]
  if l.length < len.toNat + 2 then setAssembler (.collecting len l) s
  else frameCheck len l (setAssembler .hunting s)

/-- A byte received on CRX (R173). -/
def receiveByte (b : Byte) (framingFault : Bool) (s : State) : State :=
  match s.line.asm with
  | .hunting => if b = 0xA5 ∧ framingFault = false then setAssembler (.length none) s else s
  | .length first =>
    if framingFault then setAssembler .hunting s
    else match first with
      | none => setAssembler (.length (some b)) s
      | some high => setAssembler (afterLength (high ++ b)) s
  | .collecting len taken =>
    if framingFault then setAssembler .hunting s else collectByte len taken b s

/-- CRX_BYTE (R173): bytes are discarded while RESET_N is asserted. -/
def execCrxByte (b : Byte) (framingFault : Bool) (s : State) : Host.Outcome State Fault Refusal :=
  .next (if s.pins.resetAsserted then s else receiveByte b framingFault s)

/-- GAP_TIMER_EXPIRY (R173): the frame is discarded. The timer does not run while HUNTING, where there is none. -/
def execGapTimerExpiry (s : State) : Host.Outcome State Fault Refusal := .next (setAssembler .hunting s)

/-! ### The end of a frame on CTX (R179, R183, R187) -/

/-- A frame's transmission completes: a RESTART reply begins and ends a warm reset, with the straps at the levels given; any other
lets pending records move (R179, R183, R187). -/
def frameSent (spd1 spd0 : Bool) (s : State) : State :=
  match s.line.queue with
  | [] => s
  | f :: rest =>
    let t := setQueue rest s
    if f.cls = .restartReply then warmEnd spd1 spd0 (warmBegin t) else movePending t

/-- TRANSMIT_COMPLETION (R179). The queue is empty while RESET_N is asserted (R189). -/
def execTransmitCompletion (spd1 spd0 : Bool) (s : State) : Host.Outcome State Fault Refusal :=
  .next (if s.pins.resetAsserted then s else frameSent spd1 spd0 s)

end Sys2Proof.Machine
end

