-- ==== Sys2Proof/Machine/RequestRows.lean ====
section
/-! DEFINITION. The meaning of each request row of the table: a completed frame with its tag and body (R175, log 6). -/

namespace Sys2Proof.Machine

/-- STATUS (R178). -/
def execStatus (tag clear : Byte) (s : State) : Host.Outcome State Fault Refusal :=
  .next (takeKind 0x01 tag (serveStatus clear) s)

/-- STATION_GET (R3). -/
def execStationGet (tag index : Byte) (s : State) : Host.Outcome State Fault Refusal :=
  .next (takeKind 0x02 tag (serveStationGet index) s)

/-- STATION_SET (R4). -/
def execStationSet (tag index : Byte) (m : Half) (v : RawSettings) (s : State) : Host.Outcome State Fault Refusal :=
  .next (takeKind 0x03 tag (serveStationSet index m v) s)

/-- CAR_GET (R25). -/
def execCarGet (tag car : Byte) (s : State) : Host.Outcome State Fault Refusal :=
  .next (takeKind 0x04 tag (serveCarGet car) s)

/-- CAR_SET in its record form (R23). -/
def execCarSet (tag car : Byte) (r : RawCar) (s : State) : Host.Outcome State Fault Refusal :=
  .next (takeKind 0x05 tag (serveCarSet car r) s)

/-- CAR_SET in its delete form (R24). -/
def execCarSetDelete (tag car : Byte) (s : State) : Host.Outcome State Fault Refusal :=
  .next (takeKind 0x05 tag (serveCarDelete car) s)

/-- GROUP_GET (R92). -/
def execGroupGet (tag : Byte) (s : State) : Host.Outcome State Fault Refusal :=
  .next (takeKind 0x06 tag serveGroupGet s)

/-- GROUP_SET (R114). -/
def execGroupSet (tag : Byte) (m : Word) (values : List Word) (s : State) : Host.Outcome State Fault Refusal :=
  .next (takeKind 0x07 tag (serveGroupSet m values) s)

/-- SNAPSHOT (R185). -/
def execSnapshot (tag : Byte) (s : State) : Host.Outcome State Fault Refusal :=
  .next (takeKind 0x10 tag serveSnapshot s)

/-- FAULTS_READ (R108). -/
def execFaultsRead (tag : Byte) (s : State) : Host.Outcome State Fault Refusal :=
  .next (takeKind 0x11 tag serveFaultsRead s)

/-- EVENT_MASK (R184). -/
def execEventMask (tag : Byte) (m : Half) (s : State) : Host.Outcome State Fault Refusal :=
  .next (takeEventMask tag m s)

/-- STREAM (R186). -/
def execStream (tag : Byte) (period : Half) (s : State) : Host.Outcome State Fault Refusal :=
  .next (takeKind 0x13 tag (serveStream period) s)

/-- PLAN_WRITE (R158). -/
def execPlanWrite (tag index : Byte) (r : RawSegment) (s : State) : Host.Outcome State Fault Refusal :=
  .next (takeKind 0x20 tag (servePlanWrite index r) s)

/-- PLAN_READ (R160). -/
def execPlanRead (tag role index : Byte) (s : State) : Host.Outcome State Fault Refusal :=
  .next (takeKind 0x21 tag (servePlanRead role index) s)

/-- PLAN_CLEAR (R159). -/
def execPlanClear (tag : Byte) (s : State) : Host.Outcome State Fault Refusal :=
  .next (takeKind 0x22 tag servePlanClear s)

/-- COMMIT with REPLACE (R161). -/
def execCommitReplace (tag : Byte) (s : State) : Host.Outcome State Fault Refusal :=
  .next (takeKind 0x23 tag (serveCommit .replace) s)

/-- COMMIT with APPEND (R161). -/
def execCommitAppend (tag : Byte) (s : State) : Host.Outcome State Fault Refusal :=
  .next (takeKind 0x23 tag (serveCommit .append) s)

/-- WITHDRAW (R165). -/
def execWithdraw (tag : Byte) (s : State) : Host.Outcome State Fault Refusal :=
  .next (takeKind 0x24 tag serveWithdraw s)

/-- PLAN_MODE (R166). -/
def execPlanMode (tag mode : Byte) (s : State) : Host.Outcome State Fault Refusal :=
  .next (takeKind 0x25 tag (servePlanMode mode) s)

/-- JOG (R10). -/
def execJog (tag index : Byte) (distance : Word) (s : State) : Host.Outcome State Fault Refusal :=
  .next (takeKind 0x30 tag (serveJog index distance) s)

/-- HOME (R7). -/
def execHome (tag index : Byte) (s : State) : Host.Outcome State Fault Refusal :=
  .next (takeKind 0x31 tag (serveHome index) s)

/-- TRIM (R11). -/
def execTrim (tag index : Byte) (distance : Word) (s : State) : Host.Outcome State Fault Refusal :=
  .next (takeKind 0x32 tag (serveTrim index distance) s)

/-- OPEN_GATE (R66). -/
def execOpenGate (tag index : Byte) (s : State) : Host.Outcome State Fault Refusal :=
  .next (takeKind 0x33 tag (serveOpenGate index) s)

/-- CLOSE_GATE (R68). -/
def execCloseGate (tag index : Byte) (s : State) : Host.Outcome State Fault Refusal :=
  .next (takeKind 0x34 tag (serveCloseGate index) s)

/-- SET_OFFSET (R13). -/
def execSetOffset (tag index : Byte) (offset : Word) (s : State) : Host.Outcome State Fault Refusal :=
  .next (takeKind 0x35 tag (serveSetOffset index offset) s)

/-- RESTART (R187). -/
def execRestart (tag : Byte) (s : State) : Host.Outcome State Fault Refusal := .next (takeRestart tag s)

end Sys2Proof.Machine
end

