-- ==== Sys2Proof/Machine/Dispatch.lean ====
section
/-! DEFINITION. The meaning of each command: one arm for each row of spec/opcode_table.json. -/

namespace Sys2Proof.Machine

/-- What command `i` does to everything but the queue. -/
def exec (i : Instr) (s : State) : Host.Outcome State Fault Refusal :=
  match i with
  | .powerOn pins => Sys2Proof.Machine.execPowerOn pins s
  | .warmResetBegin => Sys2Proof.Machine.execWarmResetBegin s
  | .warmResetEnd spd1 spd0 => Sys2Proof.Machine.execWarmResetEnd spd1 spd0 s
  | .cycleStart => Sys2Proof.Machine.execCycleStart s
  | .pendingOffsetTake => Sys2Proof.Machine.execPendingOffsetTake s
  | .take => Sys2Proof.Machine.execTake s
  | .slipGateClose k => Sys2Proof.Machine.execSlipGateClose k s
  | .beaconEnd => Sys2Proof.Machine.execBeaconEnd s
  | .loadByteReceived window byte framingFault => Sys2Proof.Machine.execLoadByteReceived window byte framingFault s
  | .slotClose k inProgress => Sys2Proof.Machine.execSlotClose k inProgress s
  | .waitTimeout => Sys2Proof.Machine.execWaitTimeout s
  | .dwellCompletion => Sys2Proof.Machine.execDwellCompletion s
  | .streamSnapshotDue => Sys2Proof.Machine.execStreamSnapshotDue s
  | .periodCompletion k => Sys2Proof.Machine.execPeriodCompletion k s
  | .encoderEdge k line => Sys2Proof.Machine.execEncoderEdge k line s
  | .homeActivation k => Sys2Proof.Machine.execHomeActivation k s
  | .permitFall => Sys2Proof.Machine.execPermitFall s
  | .permitRise => Sys2Proof.Machine.execPermitRise s
  | .crxByte byte framingFault => Sys2Proof.Machine.execCrxByte byte framingFault s
  | .gapTimerExpiry => Sys2Proof.Machine.execGapTimerExpiry s
  | .transmitCompletion spd1 spd0 => Sys2Proof.Machine.execTransmitCompletion spd1 spd0 s
  | .status tag clear => Sys2Proof.Machine.execStatus tag clear s
  | .stationGet tag index => Sys2Proof.Machine.execStationGet tag index s
  | .stationSet tag index presence values => Sys2Proof.Machine.execStationSet tag index presence values s
  | .carGet tag car => Sys2Proof.Machine.execCarGet tag car s
  | .carSet tag car record => Sys2Proof.Machine.execCarSet tag car record s
  | .carSetDelete tag car => Sys2Proof.Machine.execCarSetDelete tag car s
  | .groupGet tag => Sys2Proof.Machine.execGroupGet tag s
  | .groupSet tag presence values => Sys2Proof.Machine.execGroupSet tag presence values s
  | .snapshot tag => Sys2Proof.Machine.execSnapshot tag s
  | .faultsRead tag => Sys2Proof.Machine.execFaultsRead tag s
  | .eventMask tag mask => Sys2Proof.Machine.execEventMask tag mask s
  | .stream tag period => Sys2Proof.Machine.execStream tag period s
  | .planWrite tag index record => Sys2Proof.Machine.execPlanWrite tag index record s
  | .planRead tag role index => Sys2Proof.Machine.execPlanRead tag role index s
  | .planClear tag => Sys2Proof.Machine.execPlanClear tag s
  | .commitReplace tag => Sys2Proof.Machine.execCommitReplace tag s
  | .commitAppend tag => Sys2Proof.Machine.execCommitAppend tag s
  | .withdraw tag => Sys2Proof.Machine.execWithdraw tag s
  | .planMode tag mode => Sys2Proof.Machine.execPlanMode tag mode s
  | .jog tag index distance => Sys2Proof.Machine.execJog tag index distance s
  | .home tag index => Sys2Proof.Machine.execHome tag index s
  | .trim tag index distance => Sys2Proof.Machine.execTrim tag index distance s
  | .openGate tag index => Sys2Proof.Machine.execOpenGate tag index s
  | .closeGate tag index => Sys2Proof.Machine.execCloseGate tag index s
  | .setOffset tag index offset => Sys2Proof.Machine.execSetOffset tag index offset s
  | .restart tag => Sys2Proof.Machine.execRestart tag s
  | .setupDone phase => Sys2Proof.Machine.execSetupDone phase s
  | .resetup phase => Sys2Proof.Machine.execResetup phase s
  | .engage phase => Sys2Proof.Machine.execEngage phase s
  | .run phase => Sys2Proof.Machine.execRun phase s
  | .continueRun phase => Sys2Proof.Machine.execContinueRun phase s
  | .stop phase => Sys2Proof.Machine.execStop phase s
  | .resume phase => Sys2Proof.Machine.execResume phase s
  | .land phase => Sys2Proof.Machine.execLand phase s
  | .ackFaults phase => Sys2Proof.Machine.execAckFaults phase s
  | .clearLockout phase => Sys2Proof.Machine.execClearLockout phase s
  | .homeInactive k => Sys2Proof.Machine.execHomeInactive k s
  | .bothLinesChange k => Sys2Proof.Machine.execBothLinesChange k s
  | .stepPulseEnd k => Sys2Proof.Machine.execStepPulseEnd k s

end Sys2Proof.Machine
end

