-- ==== Sys2Proof/Safety.lean ====
section
/-! DEFINITION. What a safe state of the part is, and the words in which the statements say what a request is answered. -/

namespace Sys2Proof.Machine

/-! ### When a request is taken, and its answer -/

/-- The part takes a request: RESET_N is high, fewer than 7 frames are held (R174), and no event waits to be handed over (log 9). -/
def Ready (s : State) : Prop :=
  s.pins.resetAsserted = false ∧ s.line.queue.length < 7 ∧ s.line.raised = []

/-- `s` with a reply of kind `kind` admitted behind the frames held: outcome, the summary of `s`, content (R176). -/
def answered (kind tag : Byte) (o : ReplyOutcome) (content : List Byte) (s : State) : State :=
  { s with line := { s.line with queue := s.line.queue ++
      [{ cls := .reply, kind := kind, tag := tag, body := outcomeCode o :: bytes2 (summary s) ++ content }] } }

/-- An event handed to a line controller that holds nothing back: its notice admitted behind the frames held (R182). -/
def noticed (e : Event) (s : State) : State :=
  { s with line := { s.line with queue := s.line.queue ++
      [{ cls := .eventNotice, kind := 0x70, tag := 0,
         body := bytes2 (summary s) ++ [byteOf e.priority, 0, s.group.cycle] ++ eventBytes e }] } }

/-- The line controller sends the next `n` frames at once, whatever kinds they are: nothing is masked or pending, no event waits to
be handed over, and at most `5 - n` frames are held (R180, R182). -/
def RoomFor (n : Nat) (s : State) : Prop :=
  s.line.mask = 0 ∧ s.line.pending = [] ∧ s.line.raised = [] ∧ s.line.queue.length + n ≤ 5

/-- The blocks act: RESET_N is high, and no event waits to be handed over (log 9). -/
def Acting (s : State) : Prop := s.pins.resetAsserted = false ∧ s.line.raised = []

/-- A command waits in the slot with a tag, and its reply and `n` notices have room. -/
def Waiting (c : GroupCommand) (tag : Byte) (n : Nat) (s : State) : Prop :=
  s.pins.resetAsserted = false ∧ s.group.slot = some { tag := tag, command := c } ∧ RoomFor (n + 1) s

/-- The row of the table for a group command. -/
def GroupCommand.row (c : GroupCommand) (phase : CommandPhase) : Instr :=
  match c with
  | .setupDone => .setupDone phase
  | .resetup => .resetup phase
  | .engage => .engage phase
  | .run => .run phase
  | .continueRun => .continueRun phase
  | .stop => .stop phase
  | .resume => .resume phase
  | .land => .land phase
  | .ackFaults => .ackFaults phase
  | .clearLockout => .clearLockout phase

/-- The group command of a row at its arrival, with the tag of its request. -/
def arrivalOf (c : GroupCommand) (phase : CommandPhase) : Option (Byte × Request) :=
  match phase with
  | .arrival tag => some (tag, .groupCommand (commandCode c))
  | .execution => none

/-- The tag and the request of a row that is a completed frame (R175, log 6). -/
def requestRow (i : Instr) : Option (Byte × Request) :=
  match i with
  | .status tag c => some (tag, .status c)
  | .stationGet tag i => some (tag, .stationGet i)
  | .stationSet tag i m v => some (tag, .stationSet i m v)
  | .carGet tag n => some (tag, .carGet n)
  | .carSet tag n r => some (tag, .carSet n r)
  | .carSetDelete tag n => some (tag, .carDelete n)
  | .groupGet tag => some (tag, .groupGet)
  | .groupSet tag m vs => some (tag, .groupSet m vs)
  | .snapshot tag => some (tag, .snapshot)
  | .faultsRead tag => some (tag, .faultsRead)
  | .eventMask tag m => some (tag, .eventMask m)
  | .stream tag p => some (tag, .stream p)
  | .planWrite tag k r => some (tag, .planWrite k r)
  | .planRead tag r k => some (tag, .planRead r k)
  | .planClear tag => some (tag, .planClear)
  | .commitReplace tag => some (tag, .commit 1)
  | .commitAppend tag => some (tag, .commit 2)
  | .withdraw tag => some (tag, .withdraw)
  | .planMode tag m => some (tag, .planMode m)
  | .jog tag i d => some (tag, .jog i d)
  | .home tag i => some (tag, .home i)
  | .trim tag i d => some (tag, .trim i d)
  | .openGate tag i => some (tag, .openGate i)
  | .closeGate tag i => some (tag, .closeGate i)
  | .setOffset tag i o => some (tag, .setOffset i o)
  | .restart tag => some (tag, .restart)
  | .setupDone p => arrivalOf .setupDone p
  | .resetup p => arrivalOf .resetup p
  | .engage p => arrivalOf .engage p
  | .run p => arrivalOf .run p
  | .continueRun p => arrivalOf .continueRun p
  | .stop p => arrivalOf .stop p
  | .resume p => arrivalOf .resume p
  | .land p => arrivalOf .land p
  | .ackFaults p => arrivalOf .ackFaults p
  | .clearLockout p => arrivalOf .clearLockout p
  | .powerOn _ => none | .warmResetBegin => none | .warmResetEnd _ _ => none | .cycleStart => none
  | .pendingOffsetTake => none | .take => none | .slipGateClose _ => none | .beaconEnd => none
  | .loadByteReceived _ _ _ => none | .slotClose _ _ => none | .waitTimeout => none | .dwellCompletion => none
  | .streamSnapshotDue => none | .periodCompletion _ => none | .encoderEdge _ _ => none | .homeActivation _ => none
  | .permitFall => none | .permitRise => none | .crxByte _ _ => none | .gapTimerExpiry => none
  | .transmitCompletion _ _ => none | .homeInactive _ => none | .bothLinesChange _ => none | .stepPulseEnd _ => none

/-- Commands carried out one after another. -/
def runAll (l : List Instr) (s : State) : Host.Outcome State Fault Refusal :=
  match l with
  | [] => .next s
  | i :: rest => match exec i s with
    | .next t => runAll rest t
    | .fault r => .fault r
    | .refused r => .refused r

/-! ### What a cycle start finds, and what it leaves of a station -/

/-- A station's lift above contact from its live count, which the next cycle start latches; none without a contact height (R26, R58). -/
def Jack.liveLift (j : Jack) : Option Int := j.record.contact.map (fun c => j.liveHeight - c)

/-- The offset in force at the next cycle start (R15). -/
def Jack.offsetAtStart (j : Jack) : Int := j.record.pendingOffset.getD j.record.settings.offset

/-- The record with its pending offset taken and everything else as it stood (R15). -/
def Jack.recordAtStart (j : Jack) : StationRec :=
  { j.record with settings := { j.record.settings with offset := j.offsetAtStart }, pendingOffset := none }

/-- The error a cycle start forms for station `k` against the reference of `s`, in centi-µm (R120). -/
def errorAt (s : State) (k : Sta) : Int :=
  match (s.jack k).liveLift with
  | some l => s.sync.ref + 100 * ((s.jack k).offsetAtStart - l)
  | none => 0

/-- The lift of a car's end (R29). -/
def State.liveEnd (s : State) (x y : Option Sta) : Option Int :=
  meanOf [x.bind (fun k => (s.jack k).liveLift), y.bind (fun k => (s.jack k).liveLift)]

/-- A cycle start that finds the state `s` makes the twist and coupling checks (R26, R154; logs 17 and 41). -/
def ChecksGeometry (s : State) : Prop :=
  s.group.state ∈ [GroupState.poised, .moving, .holding, .stopping] ∨
    (s.group.state = .landing ∧ s.sync.descent = true ∧ s.sync.ref ≠ 0) ∨
    ∃ k, (s.jack k).record.state = .trimming ∨ ((s.jack k).record.state = .faulted ∧
      ∃ m ∈ (s.jack k).record.move, m.underFault = true ∧ m.op = .trim)

/-- The twist and coupling checks of a cycle start find every car and every coupling within its limit (R27, R30). -/
def GeometryKept (s : State) : Prop :=
  (∀ c ∈ s.cars, ∀ fl ∈ c.fl.bind (fun k => (s.jack k).liveLift), ∀ fr ∈ c.fr.bind (fun k => (s.jack k).liveLift),
    ∀ rl ∈ c.rl.bind (fun k => (s.jack k).liveLift), ∀ rr ∈ c.rr.bind (fun k => (s.jack k).liveLift),
      ((fl + rr) - (fr + rl)).natAbs ≤ c.twistLimit) ∧
    ∀ p ∈ s.cars.zip s.cars.tail, p.1.coupled = true → ∀ rear ∈ s.liveEnd p.1.rl p.1.rr, ∀ front ∈ s.liveEnd p.2.fl p.2.fr,
      (rear - front).natAbs ≤ p.1.couplingLimit

/-- The tracking monitor's checks of a cycle start find nothing at a station: an assigned one within its travel (R60), a closing gate
that does not bring DRIVE_SLIP (R63, R64), and a generator at rest that does not bring RUNAWAY (R70). -/
def TrackingKept (p : GroupParams) (j : Jack) : Prop :=
  j.assigned = true →
    (j.record.datumKnown = true → 0 ≤ j.liveHeight ∧ j.liveHeight ≤ j.record.settings.hMax) ∧
    (∀ g ∈ j.mon.gate, j.mon.gateOpen = false → g.left ≤ 1 →
      (g.steps * 1000000 - g.edges * j.record.settings.encScale * j.record.settings.kStep).natAbs ≤
          p.slipTolerance * 1000 * j.record.settings.kStep ∨ min 15 (j.mon.slipRun + 1) < p.slipLimit) ∧
    (j.gen.run = .idle →
      (j.liveHeight - heightOf j.mon.rest j.record.settings.encScale).natAbs ≤ p.drift ∨
        min 15 (j.mon.runaway + 1) < p.runawayConfirm)

/-- The load link's checks of a cycle start find nothing at a station: neither silence nor an overload in the states that are watched
(R83, R85), and no loss of load in MOVING and HOLDING (R86; the loss confirm value is 1 at least, as R88 has it). -/
def LoadKept (g : GroupState) (p : GroupParams) (j : Jack) : Prop :=
  (j.record.state ∈ [StationState.seeking, .confirming, .engaged, .trimming, .releasing] →
    j.link.miss < p.missLimit ∧ j.link.held ≤ j.record.settings.overload) ∧
  0 < p.lossConfirm ∧
  (j.record.state = .engaged → g = .moving ∨ g = .holding → j.link.held < j.record.settings.loss →
    min 60 (j.link.lossRun + 1) < p.lossConfirm)

/-- A cycle start on `s` without a waiting command finds no fault, but for what the contact sequencer may find in ENGAGING and in
LANDING after the descent: the monitor's, the load link's and the geometry checker's checks find nothing, and no ENGAGED station is
beyond the trip band where that is tested (R60, R64, R70, R83, R85, R86, R27, R30, R135). -/
def Undetected (s : State) : Prop :=
  (∀ k, TrackingKept s.group.params (s.jack k)) ∧ (∀ k, LoadKept s.group.state s.group.params (s.jack k)) ∧
    (ChecksGeometry s → GeometryKept s) ∧
    (s.group.state ∈ [GroupState.poised, .moving, .holding, .stopping] → ∀ k, (s.jack k).record.state = .engaged →
      (errorAt s k).natAbs ≤ 100 * s.group.params.tripBand)

/-- `t` is what a generator `g` becomes on taking the rate `r` (R40 to R44): from IDLE it starts or stays, in RATE the value waits for the
completion of the period unless a counted move waits there, in COUNTED it is discarded. The brake is left open. -/
def Generator.Handed (r : Int) (kStep : Nat) (g t : Generator) : Prop :=
  let d := divisorOf r.natAbs kStep
  let dir : Dir := if 0 < r then .up else .down
  let kept : Generator := { g with ceiling := heldAtCeiling r kStep, brake := t.brake }
  match g.run, g.pending with
  | .idle, _ => t = if r = 0 then kept else { kept with
      run := .rate, divisor := some d, dir := dir, dirHigh := if g.stepHigh then g.dirHigh else dir == .up, pending := none }
  | .rate, some (.move _ _ _) => t = kept
  | .rate, _ => t = { kept with pending := some (if r = 0 then .stop else .rate d dir) }
  | .counted, _ => t = kept

/-- Station `k` receives the rate `r` at a cycle start: it is its commanded rate, and its generator takes it (R136, R42). -/
def Receives (s t : State) (k : Sta) (r : Int) : Prop :=
  (t.jack k).rate = r ∧ Generator.Handed r (s.jack k).record.settings.kStep (s.jack k).gen (t.jack k).gen

/-- Station `k` receives no rate at a cycle start: its commanded rate is 0, its rate-ceiling mark CLEAR, and its generator is left alone
(R136, R41). -/
def ReceivesNothing (s t : State) (k : Sta) : Prop :=
  (t.jack k).rate = 0 ∧ (t.jack k).gen = { (s.jack k).gen with ceiling := false, brake := (t.jack k).gen.brake }

/-- The handover of a computation that is not forced, with direction `d` and speed `v` (R132 to R134, R136): every ENGAGED station
receives the rate formed from its error, every other nothing; and every record keeps its values. -/
def Commanded (s t : State) (d : RefDir) (v : Nat) : Prop :=
  ∀ k, (t.jack k).err = errorAt s k ∧ (t.jack k).record = (s.jack k).recordAtStart ∧
    if (s.jack k).record.state = .engaged then
      Receives s t k (rateOf s.group.params d v { s.jack k with err := errorAt s k })
    else ReceivesNothing s t k

/-- The event `e` was raised in cycle `c` and handed to the line controller: its notice is in the queue, or a record of its kind is
pending (R181, R182). -/
def Reported (e : Event) (c : Byte) (t : State) : Prop :=
  (∃ f ∈ t.line.queue, f.cls = .eventNotice ∧ f.body.drop 2 = [byteOf e.priority, 0, c] ++ eventBytes e) ∨
    ∃ p ∈ t.line.pending, p.raised.event.priority = e.priority

/-- A fault is listed, or the list overflowed (R103). -/
def Listed (f : FaultKind) (x : Subject) (t : State) : Prop :=
  (∃ e ∈ t.group.faults, e.kind = f ∧ e.subject = x) ∨ t.group.overflow = true

/-- The entry of a detection was new, so its STATION_FAULT was raised in cycle `c`, marked LISTED where the list holds the entry (R103). -/
def FaultReported (f : FaultKind) (x : Subject) (c : Byte) (s t : State) : Prop :=
  (∀ e ∈ s.group.faults, ¬ (e.kind = f ∧ e.subject = x)) →
    Reported (.stationFault f x (t.group.faults.any (fun e => e.kind == f && e.subject == x))) c t

/-! ### What a cycle start opens with, before the waiting command is executed -/

/-- The cycle number advanced, the beacon out, every count and run state latched and every pending offset taken (R93, R75, R58, R15). -/
def State.opened (s : State) : State :=
  let c := s.group.cycle + 1
  let t := s.updAll (fun _ j => { j with
    pos := { j.pos with latched := j.pos.count, latchedRunning := j.gen.running }
    link := { j.link with slotOpen := true, bytes := [] }
    record := j.recordAtStart })
  { t with
    group := { t.group with cycle := c }
    link := { lde := true, ltx := [0xB4, c, crc8 [0xB4, c]], started := true } }

/-- The drift from the point of rest is beyond the tolerance, on the live count, which the next cycle start latches (R70, R58). -/
def Jack.driftsBeyond (p : GroupParams) (j : Jack) : Bool :=
  decide (p.drift < (j.liveHeight - heightOf j.mon.rest j.record.settings.encScale).natAbs)

/-- The monitor of a station after the watch of R71, made in LOCKED_OUT before the waiting command is executed (R110, log 24). -/
def Jack.watchedMonitor (p : GroupParams) (j : Jack) : Monitor :=
  { j.mon with
    runaway := if j.assigned = false then 0
      else if j.driftsBeyond p then min 15 (j.mon.runaway + 1)
      else j.mon.runaway - 1
    rest := if j.assigned then j.mon.rest else j.pos.count }

/-- That watch made of every station where the group is LOCKED_OUT. -/
def State.watchedInLockout (s : State) : State :=
  if s.group.state = .lockedOut then s.updAll (fun _ j => { j with mon := j.watchedMonitor s.group.params }) else s

/-! ### The line controller's queue and pending set (R182, R183) -/

/-- The notice of a record of the pending set, its summary that of `s` (R183, R192). -/
def PendingEvent.notice (p : PendingEvent) (s : State) : Frame :=
  { cls := .eventNotice, kind := 0x70, tag := 0
    body := bytes2 (summary s) ++ [byteOf p.raised.event.priority, if p.more then 1 else 0, p.raised.cycle]
      ++ eventBytes p.raised.event }

/-- What the moves of R183 leave of a pending set that stands in order of priority: the unmasked records are admitted, the first of
them first, until 5 frames are held or none is left; each notice's summary is formed when its record has been removed. -/
def State.pendingMoved (s : State) : State :=
  let free := s.line.pending.filter (fun p => !s.line.mask.getLsbD (p.raised.event.priority - 1))
  let moved := free.take (5 - s.line.queue.length)
  let without (n : Nat) : List PendingEvent := s.line.pending.filter (fun p =>
    !(moved.take n).any (fun q => q.raised.event.priority == p.raised.event.priority))
  { s with line := { s.line with
    pending := without moved.length
    queue := s.line.queue ++ moved.mapIdx (fun i p =>
      p.notice { s with line := { s.line with pending := without (i + 1) } }) } }

/-- `t` is `s` after an event `e` of the present cycle has been handed to the line controller (R182): a record of its kind that is pending
is marked "more"; without one the event is sent at once where its kind is not masked and fewer than 5 frames are held, and becomes a
pending record, in order of priority, where it is masked or they are not. -/
def EventTaken (e : Event) (s t : State) : Prop :=
  let kind (p : PendingEvent) : Nat := p.raised.event.priority
  let masked : Bool := s.line.mask.getLsbD (e.priority - 1)
  ((∃ p ∈ s.line.pending, kind p = e.priority) → t = { s with line := { s.line with
    pending := s.line.pending.map (fun p => if kind p = e.priority then { p with more := true } else p) } }) ∧
  ((∀ p ∈ s.line.pending, kind p ≠ e.priority) →
    (masked = false → s.line.queue.length < 5 → t = noticed e s) ∧
    (masked = true ∨ 5 ≤ s.line.queue.length → t = { s with line := { s.line with
      pending := s.line.pending.takeWhile (fun p => decide (kind p < e.priority)) ++
        { raised := { event := e, cycle := s.group.cycle }, more := false } ::
        s.line.pending.dropWhile (fun p => decide (kind p < e.priority)) } }))

/-! ### What the test of R17 and the assignment of R2 leave -/

/-- The record of a FAULTED station after the test of R17 with the fault list `l`: its fault kind is that of the oldest entry naming it;
without one it is in its prior state, or in the operation state of a counted move taken under R5 and still in progress, the last period
of one that has been ended among them (log 40, the model's choice). Of a move that is not in progress nothing is left (log 25). -/
def StationRec.tested (r : StationRec) (k : Sta) (l : List FaultEntry) : StationRec :=
  let goesOn : Bool := r.move.any (fun m => m.underFault)
  match l.find? (fun e => e.subject == .station k) with
  | some e => { r with faultKind := some e.kind }
  | none => { r with
      state := if r.prior = some .engaged then (if goesOn then .trimming else .engaged) else if goesOn then .jogging else .idle
      faultKind := none
      prior := none
      move := if goesOn then r.move else none }

/-- `t` is `s` with the assignment of R2 applied to its new car table: a station newly listed goes from UNASSIGNED to IDLE with
everything else kept; one no longer listed becomes UNASSIGNED, its optional fields absent, its counts 0 and its calibration gate closed
(R68), a counted move ended in the stop form (R6), and the entries that name it are removed; where entries are, the overflow mark is
CLEAR with fewer than 16 left (R103) and the test of R17 is made. Settings and counts are kept. -/
def AssignmentApplied (s t : State) : Prop :=
  let dropped (k : Sta) : Bool := (s.jack k).assigned && !listed t.cars k
  t.group.faults = s.group.faults.filter (fun e => !Sta.all.any (fun k => dropped k && e.subject == .station k)) ∧
  t.group.overflow = (s.group.overflow && (t.group.faults == s.group.faults || decide (16 ≤ t.group.faults.length))) ∧
  ∀ k, (t.jack k).pos = (s.jack k).pos ∧
    (t.jack k).record =
      (if dropped k then { (s.jack k).record with
          state := .unassigned, faultKind := none, prior := none, contact := none, start := none, pendingOffset := none
          attempts := 0, confirm := 0, move := none }
      else if (s.jack k).assigned = false ∧ listed t.cars k = true then { (s.jack k).record with state := .idle }
      else if (s.jack k).record.state = .faulted ∧ t.group.faults ≠ s.group.faults then
        (s.jack k).record.tested k t.group.faults
      else (s.jack k).record) ∧
    (t.jack k).mon = (if dropped k = true ∧ (s.jack k).mon.gateOpen = true then
        { (s.jack k).mon with gateOpen := false, stepTally := 0, edgeTally := 0, openCycles := 0, gate := none }
      else (s.jack k).mon) ∧
    (t.jack k).gen = { (s.jack k).gen with
      brake := (t.jack k).gen.brake, remaining := (t.jack k).gen.remaining, pending := (t.jack k).gen.pending } ∧
    (dropped k = true → (s.jack k).gen.run = .counted → (∃ m ∈ (s.jack k).record.move, m.done = false) →
      (t.jack k).gen.remaining = 0 ∧ (t.jack k).gen.pending = none) ∧
    (dropped k = false ∨ (s.jack k).record.move = none →
      (t.jack k).gen.remaining = (s.jack k).gen.remaining ∧ (t.jack k).gen.pending = (s.jack k).gen.pending)

/-! ### Safe states -/

/-- A snapshot notice. -/
def Frame.isSnapshot (f : Frame) : Bool := f.cls == .snapshotNotice

/-- The transmit queue holds at most 8 frames, at most 7 while a group command waits for its reply, and at most one snapshot
notice (R179, R180). -/
def QueueSafe (s : State) : Prop :=
  s.line.queue.length ≤ 8 ∧ (s.group.slot.isSome = true → s.line.queue.length ≤ 7) ∧
    s.line.queue.countP Frame.isSnapshot ≤ 1

/-- The pending set holds at most one record of each kind, in order of priority (R182, R183). -/
def PendingSafe (s : State) : Prop :=
  (s.line.pending.map (fun p => p.raised.event.priority)).Pairwise (fun a b => a < b)

/-- The fault list holds at most 16 entries, no two of one kind and subject, and the overflow mark is SET only while it is full
(R103). -/
def FaultListSafe (s : State) : Prop :=
  s.group.faults.length ≤ 16 ∧ (s.group.faults.map (fun e => (e.kind, e.subject))).Nodup ∧
    (s.group.overflow = true → s.group.faults.length = 16)

/-- The station states in which a contact height is held (section 1.4). -/
def holdsContact (r : StationRec) : Bool :=
  r.state == .engaged || r.state == .trimming || r.state == .releasing || (r.state == .faulted && r.prior == some .engaged)

/-- The optional fields of a record are present exactly where R1 and section 1.4 say. -/
def RecordSafe (r : StationRec) : Prop :=
  (r.faultKind.isSome = (r.state == .faulted)) ∧ (r.prior.isSome = (r.state == .faulted)) ∧
    (r.contact.isSome = holdsContact r)

/-- Every station record holds its optional fields as its state says. -/
def StationsSafe (s : State) : Prop := ∀ k, RecordSafe (s.jack k).record

/-- A divisor within the limits of R40. -/
def DivisorSafe (d : Divisor) : Prop :=
  992 ≤ d.length ∧ d.length ≤ 262143 ∧ 31 ≤ d.n ∧ d.n ≤ 8191 ∧ d.m ≤ 31

/-- A pending value whose divisor, if it has one, is within the limits. -/
def PendingValueSafe (v : PendingValue) : Prop :=
  match v with
  | .stop => True
  | .rate d _ => DivisorSafe d
  | .move d _ _ => DivisorSafe d

/-- A generator holds a divisor exactly while it runs, every divisor it holds is within the limits of R40, an IDLE generator has no
pending value, and steps remain only in COUNTED (R38, R40). -/
def GeneratorSafe (g : Generator) : Prop :=
  (g.divisor.isSome = g.running) ∧ (∀ d, g.divisor = some d → DivisorSafe d) ∧
    (∀ v, g.pending = some v → PendingValueSafe v) ∧ (g.run = .idle → g.pending = none) ∧
    (g.run ≠ .counted → g.remaining = 0)

/-- Every generator is safe. -/
def GeneratorsSafe (s : State) : Prop := ∀ k, GeneratorSafe (s.jack k).gen

/-- The permit level is the level of the line; no generator runs or waits to run while the permit is low, the group is LOCKED_OUT
or RESET_N is asserted; every brake is APPLIED while the permit is low or RESET_N is asserted (R48, R49, R52, R55, R111, R112). -/
def PermitSafe (s : State) : Prop :=
  (s.pins.resetAsserted = false → s.group.permit = s.pins.permit) ∧
    (s.pins.resetAsserted = true ∨ s.group.permit = false ∨ s.group.state = .lockedOut →
      ∀ k, (s.jack k).gen.run = .idle ∧ (s.jack k).gen.pending = none) ∧
    (s.pins.resetAsserted = true ∨ s.group.permit = false → ∀ k, (s.jack k).gen.brake = .applied)

/-- A station's brake output as R50 to R52 leave it after an event: APPLIED while the permit is low; RELEASED where it is called for
RELEASED; APPLIED where it is called for APPLIED and the generator is IDLE. -/
def BrakeSafe (s : State) (j : Jack) : Prop :=
  (s.group.permit = false → j.gen.brake = .applied) ∧
    (s.group.permit = true → brakeCalled s.group.state j = .released → j.gen.brake = .released) ∧
    (s.group.permit = true → brakeCalled s.group.state j = .applied → j.gen.run = .idle → j.gen.brake = .applied)

/-- Every brake output stands as R50 to R52 leave it, unless RESET_N is asserted. -/
def BrakesSafe (s : State) : Prop := s.pins.resetAsserted = false → ∀ k, BrakeSafe s (s.jack k)

/-- A stored segment record within the ranges of R157 that no parameter moves. -/
def SegmentSafe (g : Segment) : Prop :=
  1 ≤ g.accel ∧ g.accel ≤ 500 ∧ (g.kind = .dwell → 1 ≤ g.dwell ∧ g.dwell ≤ 60000)

/-- Each bank holds at most 16 valid segments, a QUEUED bank holds one at least, and the plan position is no greater than the active
plan's length (R117, R156, R157, R161). -/
def PlanSafe (s : State) : Prop :=
  s.plan.bankA.length ≤ 16 ∧ s.plan.bankB.length ≤ 16 ∧ (∀ g ∈ s.plan.bankA, SegmentSafe g) ∧
    (∀ g ∈ s.plan.bankB, SegmentSafe g) ∧ (s.plan.commit.isSome = true → s.plan.pendingBank ≠ []) ∧
    s.sync.planPos ≤ s.plan.activeBank.length

/-- The group's states, contacts and reference belong together: stations seek and confirm only in ENGAGING; an unvalidated group is
in SETUP or LOCKED_OUT; no contact height is held in SETUP, in PREPARED or by an unvalidated group; the reference is 0 in SETUP and
PREPARED, and lies within 0..100 times the lift limit always (R92, R102, R110, R116, R121). -/
def GroupSafe (s : State) : Prop :=
  StationsSafe s ∧
    (∀ k, (s.jack k).record.state = .seeking ∨ (s.jack k).record.state = .confirming → s.group.state = .engaging) ∧
    (s.group.validated = false → s.group.state = .setup ∨ s.group.state = .lockedOut) ∧
    (s.group.state = .setup ∨ s.group.state = .prepared ∨ s.group.validated = false →
      ∀ k, (s.jack k).record.contact = none) ∧
    (s.group.state = .setup ∨ s.group.state = .prepared → s.sync.ref = 0) ∧
    0 ≤ s.sync.ref ∧ s.sync.ref ≤ 100 * (s.group.params.lMax : Int)

/-- The saturating counts of a station stay within their fields (R62, R63, R67, R70, R79, R86). -/
def CountsSafe (j : Jack) : Prop :=
  j.mon.slipRun ≤ 15 ∧ j.mon.runaway ≤ 15 ∧ j.mon.openCycles ≤ 65535 ∧ j.link.miss ≤ 15 ∧ j.link.held ≤ 65535 ∧
    j.link.lossRun ≤ 60 ∧
    (∀ g, j.mon.gate = some g →
      -8388608 ≤ g.steps ∧ g.steps ≤ 8388607 ∧ -8388608 ≤ g.edges ∧ g.edges ≤ 8388607)

/-- The counts of every station stay within their fields. -/
def TalliesSafe (s : State) : Prop := ∀ k, CountsSafe (s.jack k)

/-- What CAR_SET writes of a car: its corners, limits and coupling (R22). -/
def Car.config (c : Car) : List (Option Sta) × Nat × Bool × Nat :=
  ([c.fl, c.fr, c.rl, c.rr], c.twistLimit, c.coupled, c.couplingLimit)

/-- The configuration a lift relies on: the cars, and each station's settings but for its offset, with its step and load settings
(R4, R22). -/
def configuration (s : State) : List (List (Option Sta) × Nat × Bool × Nat) × List Settings :=
  (s.cars.map Car.config, Sta.all.map (fun k => { (s.jack k).record.settings with offset := 0 }))

end Sys2Proof.Machine
end

