-- ==== Sys2Proof/WellFormed.lean ====
section
/-! DEFINITION. The commands that can reach the part: the operands their rows and frames allow. -/

namespace Sys2Proof

/-- The byte 0xFF of a station index, which names no station, is a byte like any other: the part answers it (R3). What the syntax
leaves wider than the line is the number of a GROUP_SET's values: a frame of the body length of R175 carries 26. -/
def Instr.wellFormed (i : Instr) : Bool :=
  match i with
  | .groupSet _ _ values => values.length == 26
  | _ => true

/-- A request whose body has the length R175 gives its kind, and whose delete form, bad form and coded bodies are what a body can
carry: GROUP_SET has 26 values, and a bad CAR_SET form is neither of the two good ones. -/
def Request.wellFormed (r : Request) : Bool :=
  match r with
  | .groupSet _ values => values.length == 26
  | .carBadForm _ form => form != 0 && form != 1
  | _ => true

end Sys2Proof
end

