-- ==== Sys2Proof/Certificates/Slice0/Obligations.lean ====
section
/-! DEFINITION. The statements for the provers: what each command does, what every command leaves alone, and the invariants every step keeps. -/

open Sys2Proof Sys2Proof.Machine

/-! ### The machine -/

/-- A step takes the command at the front of the queue and answers what that command does with the queue's rest; with an empty queue
the block idles (the model's queue and its idling: log 2). -/
def Obligations.StepRunsTheFrontCommand : Prop :=
  (∀ (i : Instr) (rest : List Instr) (s : State), s.pending = i :: rest → step s = exec i { s with pending := rest }) ∧
    ∀ s : State, s.pending = [] → step s = .next s

/-- Every command completes in every state, and none touches the queue of commands (the queue is the model's: log 2). -/
def Obligations.EveryCommandCompletesAndKeepsTheQueue : Prop :=
  ∀ (i : Instr) (s : State), ∃ t, exec i s = .next t ∧ t.pending = s.pending

/-- While RESET_N is asserted no cycle start, no part of one, no period completion, no byte, no slot close, no frame, no request and
no command execution has an effect; and a request that finds 7 frames held is discarded (R116, R91, R189, R174). That WARM_RESET_BEGIN
with RESET_N asserted already changes nothing is the model's choice (log 33). -/
def Obligations.ResetAndAFullQueueDiscardCommands : Prop :=
  (∀ (i : Instr) (s : State), s.pins.resetAsserted = true →
    ((requestRow i).isSome = true ∨ (∃ c : GroupCommand, i = c.row .execution) ∨
      i ∈ [.warmResetBegin, .cycleStart, .pendingOffsetTake, .take, .waitTimeout, .dwellCompletion, .streamSnapshotDue] ∨
      (∃ k, i = .slipGateClose k ∨ i = .periodCompletion k) ∨ (∃ w b f, i = .loadByteReceived w b f) ∨
      (∃ k p, i = .slotClose k p) ∨ (∃ b f, i = .crxByte b f) ∨ (∃ a b, i = .transmitCompletion a b)) →
    exec i s = .next s) ∧
  ∀ (i : Instr) (s : State), (requestRow i).isSome = true → 7 ≤ s.line.queue.length → exec i s = .next s

/-! ### Resets -/

/-- POWER_ON: every station record at the values of R1's table with every optional field absent, the position counts 0 and no car
(R19); every generator IDLE with DIR and STEP low, its divisor and pending value absent, its remaining steps 0, its rate-ceiling
mark CLEAR and its brake APPLIED (R54); and every other block at its power-on values. -/
def Obligations.PowerOnSetsEveryValue : Prop :=
  ∀ (p : PowerPins) (s : State), ∃ commands, exec (.powerOn p) s = .next
    { jacks := p.stations.mapAll (fun _ q =>
        { record := {
            state := .unassigned
            settings := {
              kStep := 2000, encScale := 500, rMax := 8000, hMax := 1500000, tContact := 500, tRelease := 200,
              overload := 15000, loss := 100, homeCount := 0, offset := 0 }
            pendingOffset := none, datumKnown := false, contact := none, start := none, attempts := 0, confirm := 0,
            faultKind := none, prior := none, move := none }
          gen := {
            run := .idle, divisor := none, dir := .down, pending := none, remaining := 0, ceiling := false,
            brake := .applied, stepHigh := false, dirHigh := false }
          pos := { encA := q.encA, encB := q.encB, count := 0, latched := 0, latchedRunning := false }
          mon := {
            gate := none, slipMark := false, slipRun := 0, gateOpen := false, stepTally := 0, edgeTally := 0,
            openCycles := 0, rest := 0, runaway := 0 }
          link := {
            held := 0, miss := 0, outcome := .none, fresh := false, silent := false, lossRun := 0,
            slotOpen := false, bytes := [] }
          homeLow := q.homeLow, imbalance := false, err := 0, rate := 0 })
      cars := []
      group := {
        state := .setup, validated := false, cause := .none, permit := p.permit, waitCount := 0, cycle := 255, slot := none,
        faults := [], overflow := false, ratesForced := false
        params := {
          lMax := 0, vMax := 5000, gain := 32, deadband := 50, holdBand := 200, tripBand := 2000,
          waitLimit := 3000, engageRate := 500, confirmTarget := 5, attemptLimit := 3, window := 100000, landRate := 2000,
          landAccel := 20, clearance := 20000, homeRate := 1000, jogRate := 2000, homeWindow := 200000, twistWarn := 75,
          imbalance := 25, gateLength := 8, slipTolerance := 500, slipLimit := 3, drift := 100, runawayConfirm := 5,
          missLimit := 3, lossConfirm := 10 } }
      sync := { ref := 0, speed := 0, dir := .none, planPos := 0, dwell := none, descent := false, waiting := false }
      plan := { bankA := [], bankB := [], active := .a, commit := none, taken := false, mode := .chained, segMode := none }
      line := {
        asm := .hunting, queue := [], pending := [], mask := 0, streamPeriod := 0, streamCount := 0, cold := true,
        speed1 := p.spd1, speed0 := p.spd0, raised := [] }
      link := { lde := false, ltx := [], started := false }
      pins := { permit := p.permit, resetAsserted := false }
      pending := commands }

/-- The state after reset satisfies every invariant of this file; it is the state POWER_ON leaves with every input at the level log 1
chooses and an empty queue. -/
def Obligations.ResetIsASafeState : Prop :=
  (QueueSafe State.reset ∧ PendingSafe State.reset ∧ FaultListSafe State.reset ∧ GroupSafe State.reset ∧
    GeneratorsSafe State.reset ∧ PermitSafe State.reset ∧ BrakesSafe State.reset ∧ PlanSafe State.reset ∧
    TalliesSafe State.reset) ∧
  ∀ s : State, s.pending = [] →
    exec (.powerOn {
      permit := false, spd1 := false, spd0 := false,
      stations := PerStation.replicate { encA := false, encB := false, homeLow := false } }) s = .next State.reset

/-- WARM_RESET_BEGIN: every generator is abandoned, every brake APPLIED, every gate discarded, the slots of the interrupted cycle
dropped, the link idle; the line controller drops its frames, its pending records, its mask and its stream; everything else is kept
(R55, R68, R73, R91, R189). A running generator loses its divisor and its remaining steps, its STEP falls and its direction is that of
DIR (log 16); an idle one loses its pending value; DIR and the rate-ceiling mark are kept. -/
def Obligations.WarmResetBeginHaltsTheBlocks : Prop :=
  ∀ s : State, s.pins.resetAsserted = false → ∃ t, exec .warmResetBegin s = .next t ∧
    t.pins = { s.pins with resetAsserted := true } ∧ t.link = { lde := false, ltx := [], started := false } ∧
    t.line = { s.line with asm := .hunting, queue := [], pending := [], mask := 0, streamPeriod := 0, streamCount := 0,
                           raised := [] } ∧
    t.cars = s.cars ∧ t.group = s.group ∧ t.sync = s.sync ∧ t.plan = s.plan ∧
    ∀ k, (t.jack k).record = (s.jack k).record ∧ (t.jack k).pos = (s.jack k).pos ∧
      (t.jack k).gen = (if (s.jack k).gen.run = .idle then { (s.jack k).gen with pending := none, brake := .applied }
        else { (s.jack k).gen with
          run := .idle, divisor := none, pending := none, remaining := 0, stepHigh := false, brake := .applied
          dir := if (s.jack k).gen.dirHigh then .up else .down }) ∧
      (t.jack k).mon = { (s.jack k).mon with gate := none, gateOpen := false, stepTally := 0, edgeTally := 0, openCycles := 0 } ∧
      (t.jack k).link = { (s.jack k).link with slotOpen := false, bytes := [] } ∧
      (t.jack k).err = (s.jack k).err ∧ (t.jack k).rate = (s.jack k).rate ∧
      (t.jack k).imbalance = (s.jack k).imbalance ∧ (t.jack k).homeLow = (s.jack k).homeLow

/-- WARM_RESET_END: the stations take the states of R20 with the optional fields of an engagement in progress absent; the group
comes up STOPPED, PREPARED or SETUP with the permit level sampled and its slot and fault list empty, and the reference is re-based
from the live counts as at a permit rise (R116, R113); the generators, the monitor and the load link take the values of R55, R73 and
R91, the cars' marks those of section 2.9 (R37), the plan store those of section 9.8 (R170), the synchronisation unit those of section
7.9 (R139) and the line controller those of section 10.9 (R189); settings, datum, counts, contact heights, plan and cars are kept. The
one event is STATE, from the state interrupted. -/
def Obligations.WarmResetEndBringsTheGroupUp : Prop :=
  ∀ (a b : Bool) (s : State), s.pins.resetAsserted = true → RoomFor 1 s → ∃ t, exec (.warmResetEnd a b) s = .next t ∧
    t.pins = { s.pins with resetAsserted := false } ∧ t.link = s.link ∧
    t.line = { s.line with
      speed1 := a, speed0 := b
      queue := s.line.queue ++
        [eventFrame { event := .state s.group.state t.group.state, cycle := s.group.cycle } false t] } ∧
    t.group = { s.group with
      state := if s.group.validated then (if anyContact s then .stopped else .prepared) else .setup
      cause := if s.group.validated = true ∧ anyContact s = true then .reset else .none
      permit := s.pins.permit, waitCount := 0, slot := none, faults := [], overflow := false, ratesForced := false } ∧
    t.sync = { s.sync with ref := rebasedReference false s, speed := 0, dir := .none, descent := false, waiting := false } ∧
    t.plan = { s.plan with taken := false, segMode := none } ∧
    t.cars = s.cars.map (fun c =>
      { c with warnRaised := false, lastTwist := none, lastStep := none, couplingSet := false }) ∧
    ∀ k, (t.jack k).record =
        { (s.jack k).record with
          state := match (s.jack k).record.state, (s.jack k).record.prior with
            | .unassigned, _ => .unassigned
            | .engaged, _ | .trimming, _ | .releasing, _ | .faulted, some .engaged => .engaged
            | _, _ => .idle
          pendingOffset := none, start := none, attempts := 0, confirm := 0, faultKind := none, prior := none, move := none } ∧
      (t.jack k).gen = Generator.reset ∧ (t.jack k).pos = (s.jack k).pos ∧
      (t.jack k).mon = { Monitor.reset with rest := (s.jack k).pos.count } ∧
      (t.jack k).link = { LinkSlot.reset with held := (s.jack k).link.held } ∧
      (t.jack k).imbalance = false ∧ (t.jack k).rate = 0 ∧ (t.jack k).err = (s.jack k).err ∧
      (t.jack k).homeLow = (s.jack k).homeLow

/-! ### The cycle start and its parts -/

/-- CYCLE_START: the cycle number advances, the beacon with that number and its CRC-8 goes out, every count and run state is latched, every
pending offset becomes the offset, and the command slot is empty afterwards. Counts, held loads and slot outcomes, group parameters, the
permit level, the pins, the settings but for offsets, and the line's mask, period and assembler are left alone (R93, R75, R76, R58, R15,
R95). While the stream is on its count goes up by one, and at the period it becomes 0 and a snapshot of what the cycle start leaves falls
due: it takes the place of one that waits, is skipped behind one being sent, or is admitted where none is held and fewer than 5 frames are
(R186); that it shows the passage to STOPPED of R106 too is the model's choice (log 23). A command waiting in the slot is executed on the
state so opened, after TAKE and after the watch of R71 (log 24): its reply goes into the queue and stays there, and the cycle start then
goes on as one that finds the state the execution left, with an empty slot and the brakes still as they were (R93, R95; the execution as a
row is log 5, TAKE as one log 4). -/
def Obligations.CycleStartLatchesAndSendsBeacon : Prop :=
  (∀ s : State, s.pins.resetAsserted = false → ∃ t, exec .cycleStart s = .next t ∧
    (let due : Prop := s.line.streamPeriod ≠ 0 ∧ s.line.streamPeriod ≤ s.line.streamCount + 1
    let others (x : State) : List Frame := x.line.queue.filter (fun f => !f.isSnapshot)
    let snapshots (x : State) : List Frame := x.line.queue.filter Frame.isSnapshot
    t.line.streamCount = (if due then 0 else if s.line.streamPeriod = 0 then s.line.streamCount else s.line.streamCount + 1) ∧
    (¬ due → snapshots t = snapshots s) ∧
    (∀ f rest, due → s.line.queue = f :: rest → f.cls = .snapshotNotice → snapshots t = snapshots s) ∧
    (∀ f before g after, due → s.line.queue = f :: before ++ g :: after → f.cls ≠ .snapshotNotice → g.cls = .snapshotNotice →
      (∀ x ∈ before ++ after, x.cls ≠ .snapshotNotice) →
      snapshots t = [snapshotFrame t] ∧ t.line.queue[before.length + 1]? = some (snapshotFrame t)) ∧
    (due → snapshots s = [] →
      t.line.queue = if (others t).length < 5 then others t ++ [snapshotFrame t] else others t)) ∧
    t.group.cycle = s.group.cycle + 1 ∧
    t.link = { lde := true, ltx := [0xB4, s.group.cycle + 1, crc8 [0xB4, s.group.cycle + 1]], started := true } ∧
    t.group.slot = none ∧ t.group.params = s.group.params ∧ t.group.permit = s.group.permit ∧ t.pins = s.pins ∧
    t.line.mask = s.line.mask ∧ t.line.streamPeriod = s.line.streamPeriod ∧ t.line.asm = s.line.asm ∧
    t.line.cold = s.line.cold ∧ t.line.raised = [] ∧
    ∀ k, (t.jack k).pos =
        { (s.jack k).pos with latched := (s.jack k).pos.count, latchedRunning := (s.jack k).gen.running } ∧
      (t.jack k).record.settings = (match (s.jack k).record.pendingOffset with
        | some o => { (s.jack k).record.settings with offset := o }
        | none => (s.jack k).record.settings) ∧
      (t.jack k).record.pendingOffset = none ∧ (t.jack k).record.datumKnown = (s.jack k).record.datumKnown ∧
      (t.jack k).link.held = (s.jack k).link.held ∧ (t.jack k).link.outcome = (s.jack k).link.outcome ∧
      (t.jack k).link.miss = (s.jack k).link.miss ∧ (t.jack k).link.slotOpen = true ∧ (t.jack k).link.bytes = [] ∧
      (t.jack k).homeLow = (s.jack k).homeLow) ∧
  ∀ (c : GroupCommand) (tag : Byte) (s u v : State), s.pins.resetAsserted = false →
    s.group.slot = some { tag := tag, command := c } → exec .take s.opened = .next u →
    exec (c.row .execution) u.watchedInLockout = .next v →
    ∃ t f, exec .cycleStart s = .next t ∧ v.line.queue[u.line.queue.length]? = some f ∧
      t.line.queue[u.line.queue.length]? = some f ∧ f.cls = .reply ∧ f.kind = 0xC0 ∧ f.tag = tag ∧
      (f.body.drop 5).take 2 = [commandCode c, s.group.cycle + 1] ∧ v.group.slot = none ∧
      exec .cycleStart s = exec .cycleStart { v.updAll (fun k j => { j with
          gen := { j.gen with brake := (s.jack k).gen.brake }
          mon := if v.group.state = .lockedOut then (s.jack k).mon else j.mon }) with
        group := { v.group with cycle := s.group.cycle } }

/-- What a cycle start's checks find is listed, or the list overflowed, and the station it names is FAULTED, in every group state (R103,
R16). It begins a fault stop in ENGAGING, POISED, MOVING, HOLDING, LANDING and a controlled STOPPING: the group is STOPPING with a fault as
its cause and every rate 0 but for stations in counted moves of their own, or LOCKED_OUT; a controlled stop already at rest may pass to
STOPPED there (R104, R106). In any other state the group stands as it did, with its cause, but for the passage of R106 and a lockout. The
kinds: TRAVEL_LIMIT where the datum is KNOWN and the height outside 0..H_max (R60); DRIVE_SLIP where a gate closes as a slip gate that brings
the run count to the limit (R63, R64); LOAD_SILENT at the miss limit and OVERLOAD above the overload threshold, in the station states that
are watched (R83, R85); LOAD_LOSS at the loss confirm value (R86); TWIST and COUPLING beyond their limits where they are checked, in the
states of R26 and through any trim (R27, R30). An ENGAGED station beyond the trip band at the computation is FAULTED too, by SYNC_TRIP
unless an earlier check named it (R135; with a loss confirm value of 1 at least, as R88 has it). An assigned station at rest but drifted
from its point of rest, for the confirm value's number of cycle starts, takes the group from any other state into LOCKED_OUT with every
generator IDLE and is listed and FAULTED (R70, R109). A full list overflows. STATION_FAULT is raised for every entry that was new, marked by
whether it is listed (R103), GROUP_STOP for the stop cause (R104), and LOCKOUT for the station that led to LOCKED_OUT (R109). -/
def Obligations.DetectionsStopTheGroup : Prop :=
  ∀ s : State, s.pins.resetAsserted = false → s.group.slot = none → StationsSafe s → ∃ t, exec .cycleStart s = .next t ∧
    let halts : Prop := s.group.state ∈ [.engaging, .poised, .moving, .holding, .landing] ∨
      (s.group.state = .stopping ∧ s.group.cause = .command)
    let tested : Prop := s.group.state ∈ [.poised, .moving, .holding, .stopping]
    let checked : Prop := ChecksGeometry s ∧ s.group.state ≠ .engaging ∧ (s.group.state = .landing → s.sync.descent = true)
    let rested : Prop := s.group.state = .stopping ∧ t.group.state = .stopped
    let cycle : Byte := s.group.cycle + 1
    let locked : Prop := t.group.state = .lockedOut ∧
      ∃ i, t.group.cause = .fault .runaway (.station i) ∧ Reported (.lockout i) cycle t
    let stopped : Prop := locked ∨
      ((t.group.state = .stopping ∨ rested) ∧ (∃ f x, t.group.cause = .fault f x ∧ Reported (.groupStop f x) cycle t) ∧
        ∀ i, forcedStation (t.jack i) = true → (t.jack i).rate = 0)
    let stands : Prop := locked ∨ (t.group.cause = s.group.cause ∧ (t.group.state = s.group.state ∨ rested))
    let acted : Prop := (halts → stopped) ∧ (¬ halts → stands)
    let isListed (f : FaultKind) (x : Subject) : Prop :=
      (t.group.faults.any (fun e => e.kind == f && e.subject == x) = true ∨ t.group.overflow = true) ∧
        FaultReported f x cycle s t
    let found (f : FaultKind) (k : Sta) : Prop :=
      acted ∧ isListed f (.station k) ∧ (t.jack k).record.state = .faulted
    let watchedIn : List StationState := [.seeking, .confirming, .engaged, .trimming, .releasing]
    let lift (k : Sta) : Option Int := (s.jack k).record.contact.map (fun c => (s.jack k).liveHeight - c)
    let endLift (x y : Option Sta) : Option Int := meanOf [x.bind lift, y.bind lift]
    (∀ k, (s.jack k).assigned = true → (s.jack k).record.datumKnown = true →
      ((s.jack k).liveHeight < 0 ∨ ((s.jack k).record.settings.hMax : Int) < (s.jack k).liveHeight) → found .travelLimit k) ∧
    (∀ k g, (s.jack k).assigned = true → (s.jack k).mon.gateOpen = false → (s.jack k).mon.gate = some g → g.left ≤ 1 →
      s.group.params.slipTolerance * 1000 * (s.jack k).record.settings.kStep <
        (g.steps * 1000000 - g.edges * (s.jack k).record.settings.encScale * (s.jack k).record.settings.kStep : Int).natAbs →
      s.group.params.slipLimit ≤ min 15 ((s.jack k).mon.slipRun + 1) → found .driveSlip k) ∧
    (∀ k, (s.jack k).record.state ∈ watchedIn → s.group.params.missLimit ≤ (s.jack k).link.miss →
      found .loadSilent k) ∧
    (∀ k, (s.jack k).record.state ∈ watchedIn → (s.jack k).record.settings.overload < (s.jack k).link.held →
      found .overload k) ∧
    (∀ k, s.group.state = .moving ∨ s.group.state = .holding → (s.jack k).record.state = .engaged →
      (s.jack k).link.held < (s.jack k).record.settings.loss →
      s.group.params.lossConfirm ≤ min 60 ((s.jack k).link.lossRun + 1) → found .loadLoss k) ∧
    (∀ (i : Nat) (c : Car) (fl fr rl rr : Int), checked → s.cars[i]? = some c → c.fl.bind lift = some fl →
      c.fr.bind lift = some fr → c.rl.bind lift = some rl → c.rr.bind lift = some rr →
      c.twistLimit < ((fl + rr) - (fr + rl)).natAbs → acted ∧ isListed .twist (.car (i + 1))) ∧
    (∀ (i : Nat) (c d : Car) (rear front : Int), checked → s.cars[i]? = some c → c.coupled = true → s.cars[i + 1]? = some d →
      endLift c.rl c.rr = some rear → endLift d.fl d.fr = some front → c.couplingLimit < (rear - front).natAbs →
      acted ∧ isListed .coupling (.coupling (i + 1))) ∧
    (∀ k y, tested → (s.jack k).record.state = .engaged → lift k = some y →
      let offset := (s.jack k).record.pendingOffset.getD (s.jack k).record.settings.offset
      100 * s.group.params.tripBand < (s.sync.ref + 100 * (offset - y)).natAbs →
      acted ∧ (t.group.state ≠ .lockedOut → ∃ f, (t.jack k).record.state = .faulted ∧ (t.jack k).record.faultKind = some f ∧
        isListed f (.station k) ∧ f ∈ [.syncTrip, .travelLimit, .driveSlip, .loadSilent, .overload, .loadLoss] ∧
        (TrackingKept s.group.params (s.jack k) → LoadKept s.group.state s.group.params (s.jack k) → f = .syncTrip))) ∧
    (∀ k, s.group.state ≠ .lockedOut → (s.jack k).assigned = true → (s.jack k).gen.run = .idle →
      s.group.params.drift <
        ((s.jack k).liveHeight - heightOf (s.jack k).mon.rest (s.jack k).record.settings.encScale).natAbs →
      s.group.params.runawayConfirm ≤ min 15 ((s.jack k).mon.runaway + 1) →
      locked ∧ isListed .runaway (.station k) ∧ (t.jack k).record.state = .faulted ∧
      t.sync.speed = 0 ∧ ∀ i, (t.jack i).gen.run = .idle ∧ (t.jack i).gen.pending = none)

/-- What a cycle start's checks record. A station is over where it holds a contact height at a corner of a car with two such corners at
least, and its held load is above the car's mean (the integer quotient) by more than the percentage: its imbalance mark is RAISED exactly
then (R32, R33; the contact heights are those the cycle start leaves: log 19). Without a waiting command: the silent mark is SET at the miss
limit and stands, and the loss run count counts an ENGAGED station's light cycles in MOVING and HOLDING (R83, R86); where the geometry
checks are made (R26, logs 17 and 41), each car's twist is recorded with its warn mark, and each coupling's step with its mark, from the
lifts above contact (R27 to R30); where they are not, the warn marks are ARMED and the rest stands. An end's lift is that of its one
station, or the mean of two with halves away from zero (R29). A mark that becomes RAISED raises its event, IMBALANCE or TWIST_WARN (R28,
R33). The tracking monitor: an open calibration gate counts the cycle; without one, a slip gate opens where none is, counts down, or closes
and the next opens, and its close is judged as R63 says, with SLIP raised for a slip gate (R62, R63, R67). The runaway count counts the
cycle starts at which an assigned station's generator is at rest and its drift beyond the tolerance, and is 0 otherwise; in LOCKED_OUT it
goes up on drift and down by one without; an UNASSIGNED station's is 0 and its rest count follows its count; the entry to LOCKED_OUT latches
every rest count (R69 to R71). -/
def Obligations.CycleStartRecordsItsChecks : Prop :=
  (∀ s : State, s.pins.resetAsserted = false → ∃ t, exec .cycleStart s = .next t ∧
    let p := s.group.params
    let holders (c : Car) : List Sta :=
      ([c.fl, c.fr, c.rl, c.rr].filterMap id).filter (fun k => (t.jack k).record.contact.isSome)
    let mean (c : Car) : Nat := ((holders c).map (fun k => (s.jack k).link.held)).sum / (holders c).length
    let lift (k : Sta) : Option Int := (t.jack k).record.contact.map (fun c => (s.jack k).liveHeight - c)
    let endLift (x y : Option Sta) : Option Int := meanOf [x.bind lift, y.bind lift]
    let twist (c : Car) : Option Int :=
      match c.fl.bind lift, c.fr.bind lift, c.rl.bind lift, c.rr.bind lift with
      | some fl, some fr, some rl, some rr => some ((fl + rr) - (fr + rl))
      | _, _, _, _ => none
    let stepTo (c d : Car) : Option Int := match endLift c.rl c.rr, endLift d.fl d.fr with
      | some rear, some front => some (rear - front)
      | _, _ => none
    let trimming : Prop := ∃ k, (s.jack k).record.state = .trimming ∨ ((s.jack k).record.state = .faulted ∧
      ∃ m, (s.jack k).record.move = some m ∧ m.underFault = true ∧ m.op = .trim)
    let checked : Prop := s.group.state ∈ [GroupState.poised, .moving, .holding, .stopping] ∨
      (s.group.state = .landing ∧ s.sync.descent = true ∧ s.sync.ref ≠ 0) ∨ trimming
    t.cars.length = s.cars.length ∧
    (∀ k, (t.jack k).imbalance = true ↔ ∃ c ∈ s.cars, k ∈ holders c ∧ 2 ≤ (holders c).length ∧
      mean c * (100 + p.imbalance) < (s.jack k).link.held * 100) ∧
    (∀ c ∈ s.cars, ∀ k ∈ holders c, 2 ≤ (holders c).length → mean c * (100 + p.imbalance) < (s.jack k).link.held * 100 →
      (s.jack k).imbalance = false → Reported (.imbalance k (s.jack k).link.held (mean c)) (s.group.cycle + 1) t) ∧
    (s.group.slot = none →
      (∀ k, let j := s.jack k
        let nm (g : SlipGate) : Int := g.steps * 1000000 - g.edges * j.record.settings.encScale * j.record.settings.kStep
        let slips (g : SlipGate) : Bool := j.assigned && !(g.steps == 0 && g.edges == 0) &&
          decide (p.slipTolerance * 1000 * j.record.settings.kStep < (nm g).natAbs)
        let run (g : SlipGate) : Nat := if j.assigned = false then 0 else if g.steps = 0 ∧ g.edges = 0 then j.mon.slipRun
          else if slips g then min 15 (j.mon.slipRun + 1) else 0
        let opened : SlipGate := { left := p.gateLength, steps := 0, edges := 0 }
        let gated : Monitor :=
          if j.mon.gateOpen then { j.mon with openCycles := min 65535 (j.mon.openCycles + 1) }
          else match j.mon.gate with
            | none => { j.mon with gate := some opened }
            | some g => if g.left ≤ 1 then
                { j.mon with gate := some opened, slipMark := j.mon.slipMark || slips g, slipRun := run g }
              else { j.mon with gate := some { g with left := g.left - 1 } }
        let enters : Prop := t.group.state = .lockedOut ∧ s.group.state ≠ .lockedOut
        (t.jack k).mon = { gated with
          runaway := if s.group.state = .lockedOut then (j.watchedMonitor p).runaway
            else if j.assigned = true ∧ j.gen.run = .idle ∧ j.driftsBeyond p = true then min 15 (j.mon.runaway + 1) else 0
          rest := if enters ∨ j.assigned = false then j.pos.count else j.mon.rest } ∧
        ∀ g ∈ j.mon.gate, j.mon.gateOpen = false → g.left ≤ 1 → slips g = true →
          Reported (.slip k (saturate16 (roundNearest (nm g) (1000 * j.record.settings.kStep))) (run g)) (s.group.cycle + 1) t) ∧
      (∀ k, ((t.jack k).link.silent = true ↔ (s.jack k).link.silent = true ∨
          ((s.jack k).record.state ∈ [StationState.seeking, .confirming, .engaged, .trimming, .releasing] ∧
            p.missLimit ≤ (s.jack k).link.miss)) ∧
        (t.jack k).link.lossRun =
          if (s.jack k).record.state = .engaged ∧ (s.group.state = .moving ∨ s.group.state = .holding) ∧
              (s.jack k).link.held < (s.jack k).record.settings.loss then min 60 ((s.jack k).link.lossRun + 1) else 0) ∧
      (¬ checked → t.cars = s.cars.map (fun c => { c with warnRaised := false })) ∧
      (checked → ∀ (i : Nat) (c : Car), s.cars[i]? = some c →
        let turned : Car := { c with
          lastTwist := twist c
          warnRaised := (twist c).any (fun x => decide (p.twistWarn * c.twistLimit < x.natAbs * 100)) }
        (turned.warnRaised = true → c.warnRaised = false → ∀ x ∈ twist c,
          Reported (.twistWarn (i + 1) x c.twistLimit) (s.group.cycle + 1) t) ∧
        (∀ d, c.coupled = true → s.cars[i + 1]? = some d → t.cars[i]? = some { turned with
          lastStep := stepTo c d
          couplingSet := (stepTo c d).any (fun x => decide (c.couplingLimit < x.natAbs)) }) ∧
        (c.coupled = false ∨ s.cars[i + 1]? = none → t.cars[i]? = some turned)))) ∧
  ∀ x y : Int, meanOf [none, none] = none ∧ meanOf [some x, none] = some x ∧ meanOf [none, some x] = some x ∧
    ∃ m, meanOf [some x, some y] = some m ∧
      (2 * m = x + y ∨ ((2 * m - (x + y)).natAbs = 1 ∧ (x + y).natAbs < (2 * m).natAbs))

/-- A cycle start enters STOPPED only from STOPPING, and only where every rate was forced to 0 at an earlier cycle start of the stop and
every assigned station's generator is IDLE at the latch; it then does, with the wait count 0, unless a RUNAWAY locks the group out
(R106). In STOPPING with a fault as its cause, or with COMMAND and the speed come to 0, it forces every rate to 0 (R119, R128, R136);
that an earlier cycle start of the stop did is the mark the model keeps (log 22). -/
def Obligations.StoppedFollowsAForcedCycle : Prop :=
  ∀ s : State, s.pins.resetAsserted = false → s.group.slot = none → ∃ t, exec .cycleStart s = .next t ∧
    let atRest : Prop := ∀ k, (s.jack k).assigned = true → (s.jack k).gen.run = .idle
    (s.group.state ≠ .stopping → s.group.state ≠ .stopped → t.group.state ≠ .stopped) ∧
    (s.group.state = .stopping → s.group.ratesForced = false ∨ ¬ atRest → t.group.state ≠ .stopped) ∧
    (s.group.state = .stopping → s.group.ratesForced = true → atRest →
      (t.group.state = .stopped ∨ t.group.state = .lockedOut) ∧ t.group.waitCount = 0) ∧
    (s.group.state = .stopping → faultStopUnderWay s = true ∨ (s.group.cause = .command ∧ s.sync.speed = 0) →
      t.group.state ≠ .lockedOut → (t.group.state = .stopping ∨ t.group.state = .stopped) ∧ t.group.ratesForced = true ∧
        t.sync.speed = 0 ∧ t.sync.dir = .none ∧ ∀ k, forcedStation (t.jack k) = true → (t.jack k).rate = 0)

/-- CYCLE_START's computation where nothing is found and no station lags (R119, R120, R123, R124, R126, R127, R129, R132 to R136). With a
MOVE under way that this step does not complete, the reference goes on by the speed chosen in its direction, slows where the target lies
behind, and turns from rest; in a controlled stop it slows by the segment's step; in the descent it goes down toward 0, and at 0 the descent
ends with every ENGAGED station taken into RELEASING (R150), and where LAND was executed at 0 so whatever the twists (R154, log 41); in
POISED, in HOLDING and through a DWELL it rests. The group, the plan and every record keep their values, the wait count and the waiting mark
are cleared (R131), and every ENGAGED station receives the rate formed from its error, the speed and the direction. `u` is what TAKE leaves
of `s`: `s` itself where nothing is taken. -/
def Obligations.CycleStartMovesTheReference : Prop :=
  ∀ s u : State, s.pins.resetAsserted = false → s.group.slot = none → s.group.permit = true → Undetected s →
    exec .take s = .next u → 0 ≤ s.sync.ref → s.sync.ref ≤ 100 * (s.group.params.lMax : Int) → ∃ t, exec .cycleStart s = .next t ∧
    let p := s.group.params
    let y := u.sync
    let top : Int := 100 * (p.lMax : Int)
    let sign : Int := match y.dir with | .up => 1 | .down => -1 | .none => 0
    let turned : RefDir := match y.dir with | .up => .down | .down => .up | .none => .none
    let unlagged : Prop := ∀ k, (s.jack k).record.state = .engaged → sign * errorAt s k ≤ 100 * (p.holdBand : Int)
    let kept : Prop := t.plan = u.plan ∧ t.group = { s.group with cycle := s.group.cycle + 1, waitCount := 0 }
    let goesOn (ref : Int) (v : Nat) (d : RefDir) : Prop := kept ∧
      t.sync = { y with ref := ref, speed := v, dir := d, waiting := false } ∧ Commanded s t d v
    let slows (a : Nat) : Prop :=
      let v := y.speed - a
      let l := y.ref + sign * v
      (0 ≤ l → l ≤ top → goesOn l v y.dir) ∧ (l < 0 → goesOn 0 0 y.dir) ∧ (top < l → goesOn top 0 y.dir)
    (∀ g, s.group.state = .moving → u.segment = some g → g.kind = .move → unlagged →
      let dist : Int := sign * (100 * ((min g.target p.lMax : Nat) : Int) - y.ref)
      let cruise := min g.cruise p.vMax
      (0 < dist → (chooseSpeed g.accel cruise y.speed dist.toNat : Int) < dist →
        goesOn (y.ref + sign * chooseSpeed g.accel cruise y.speed dist.toNat) (chooseSpeed g.accel cruise y.speed dist.toNat)
          y.dir) ∧
      (dist < 0 → 0 < y.speed → slows g.accel) ∧
      (dist < 0 → y.speed = 0 → (chooseSpeed g.accel cruise 0 (-dist).toNat : Int) < -dist →
        goesOn (y.ref - sign * chooseSpeed g.accel cruise 0 (-dist).toNat) (chooseSpeed g.accel cruise 0 (-dist).toNat) turned)) ∧
    (∀ g, s.group.state = .stopping → s.group.cause = .command → s.group.ratesForced = false → 0 < y.speed →
      u.segment = some g → unlagged → slows g.accel) ∧
    (s.group.state = .landing → y.descent = true →
      let v := chooseSpeed p.landAccel (min p.landRate p.vMax) y.speed y.ref.toNat
      (0 < y.ref → y.dir = .down → (v : Int) < y.ref → goesOn (y.ref - v) v .down) ∧
      (y.ref = 0 ∨ (y.dir = .down ∧ (v : Int) = y.ref) → kept ∧
        t.sync = { y with ref := 0, speed := 0, dir := .none, descent := false, waiting := false } ∧
        ∀ k, (t.jack k).err = errorAt s k ∧
          if (s.jack k).record.state = .engaged then
            (t.jack k).record = { (s.jack k).recordAtStart with
              state := .releasing, start := some (s.jack k).liveHeight, confirm := 0, attempts := 0 } ∧
            Receives s t k (-((min p.engageRate (s.jack k).record.settings.rMax : Nat) : Int))
          else (t.jack k).record = (s.jack k).recordAtStart ∧ ReceivesNothing s t k)) ∧
    (s.group.state = .poised ∨ s.group.state = .holding →
      kept ∧ t.sync = { y with waiting := false } ∧ Commanded s t y.dir 0) ∧
    (∀ g n, s.group.state = .moving → u.segment = some g → g.kind = .dwell → y.dwell = some (n + 2) →
      kept ∧ t.sync = { y with dwell := some (n + 1), waiting := false } ∧ Commanded s t y.dir 0)

/-- CYCLE_START's computation that completes a segment, where nothing is found and no station lags: a MOVE whose step leaves no distance
to its target, the step that begins without one included (R123 to R125; its speed is then 0: log 15), and a DWELL whose count runs out
(R126). A segment that stops after, a MOVE in SINGLE, and the plan's last without an APPEND queued take the group to HOLDING with speed
0 and direction NONE; any other starts the next segment with the speed carried. After the plan's last a queued APPEND is taken in both
cases (R162, R164, R168). SEGMENT_DONE, PLAN_TAKEN, PLAN_LOW and STATE are raised as R167, R169 and R92 say. Rates are formed from the
completing step's speed and the direction that is left (R125). `u` is what TAKE leaves of `s`. -/
def Obligations.MoveCompletesAtItsTarget : Prop :=
  ∀ (s u : State) (g : Segment) (m : RunMode), s.pins.resetAsserted = false → s.group.slot = none → s.group.permit = true →
    Undetected s → exec .take s = .next u → s.group.state = .moving → u.segment = some g → u.plan.segMode = some m →
    let p := s.group.params
    let y := u.sync
    let sign : Int := match y.dir with | .up => 1 | .down => -1 | .none => 0
    let turned : RefDir := match y.dir with | .up => .down | .down => .up | .none => .none
    (g.kind = .move → ∀ k, (s.jack k).record.state = .engaged → sign * errorAt s k ≤ 100 * (p.holdBand : Int)) →
    ∃ t, exec .cycleStart s = .next t ∧
    let target (h : Segment) : Int := 100 * ((min h.target p.lMax : Nat) : Int)
    let dist : Int := sign * (target g - y.ref)
    let k := y.planPos
    let last : Prop := k + 1 = u.plan.activeBank.length
    let queued : Prop := u.plan.commit = some .append
    let holds : Prop := g.stopAfter = true ∨ (m = .single ∧ g.kind = .move)
    let exchanged (mode : Option RunMode) : Plan := match u.plan.active with
      | .a => { u.plan with bankA := [], active := .b, commit := none, taken := true, segMode := mode }
      | .b => { u.plan with bankB := [], active := .a, commit := none, taken := true, segMode := mode }
    let c := s.group.cycle + 1
    let taken (continues : Bool) : Prop :=
      Reported (.planTaken u.plan.pendingLetter .append u.plan.pendingBank.length continues) c t
    let completes (ref : Int) (v : Nat) (d : RefDir) : Prop :=
      let rests (plan : Plan) (pos : Nat) : Prop :=
        t.group = { s.group with cycle := c, waitCount := 0, state := .holding } ∧ t.plan = plan ∧
        t.sync = { y with ref := ref, speed := 0, dir := .none, planPos := pos, dwell := none, waiting := false } ∧
        Commanded s t .none v ∧ Reported (.segmentDone u.plan.active k g.kind (decide last) true) c t ∧
        Reported (.state .moving .holding) c t
      let starts (h : Segment) (plan : Plan) (pos : Nat) : Prop :=
        let dir : RefDir := if h.kind = .dwell then .none else if 0 < v then d
          else if ref < target h then .up else if target h < ref then .down else .none
        t.group = { s.group with cycle := c, waitCount := 0 } ∧ t.plan = plan ∧
        t.sync = { y with
          ref := ref, speed := if h.kind = .dwell then 0 else v, dir := dir, planPos := pos
          dwell := if h.kind = .dwell then some h.dwell else none, waiting := false } ∧
        Commanded s t dir v ∧
        (pos + 1 = plan.activeBank.length → plan.mode = .chained → plan.commit ≠ some .append →
          Reported (.planLow plan.active pos) c t)
      (holds ∨ last → (last → ¬ queued) → rests { u.plan with segMode := none } (k + 1)) ∧
      (holds → last → queued → rests (exchanged none) 0 ∧ taken false) ∧
      (∀ h, ¬ holds → u.plan.activeBank[k + 1]? = some h → starts h { u.plan with segMode := some u.plan.mode } (k + 1)) ∧
      (∀ h rest, ¬ holds → last → queued → u.plan.pendingBank = h :: rest →
        starts h (exchanged (some u.plan.mode)) 0 ∧ taken true ∧ Reported (.segmentDone u.plan.active k g.kind true false) c t)
    let cruise := min g.cruise p.vMax
    (g.kind = .move → dist = 0 → completes y.ref 0 y.dir) ∧
    (g.kind = .move → 0 < dist → (chooseSpeed g.accel cruise y.speed dist.toNat : Int) = dist →
      completes (target g) dist.toNat y.dir) ∧
    (g.kind = .move → dist < 0 → y.speed = 0 → (chooseSpeed g.accel cruise 0 (-dist).toNat : Int) = -dist →
      completes (target g) (-dist).toNat turned) ∧
    (g.kind = .dwell → y.dwell = some 1 → y.speed = 0 → completes y.ref 0 y.dir)

/-- A station becomes ENGAGED at a cycle start of ENGAGING only on a fresh sample at or above its contact threshold that completes the
confirm target, its contact height is then the height latched there, and CONTACT is raised (R143 to R145). Where no check finds a fault,
every station is judged from its state: a SEEKING one goes on at the seek rate, or begins to confirm with a count of 1 and the stop value; a
CONFIRMING one counts a fresh sample, keeps its count without one, and after a dropout seeks again from the same start height with one
attempt more; an ENGAGED one is handed the stop value (R140, R143 to R146). When every assigned station is ENGAGED after that, the group is
POISED with its reference 0, and that cycle start's computation commands the stations (R147, R102), or trips one whose error is beyond the
trip band (R135); otherwise it stays ENGAGING. A rise beyond the window, and a dropout without an attempt left, are listed and stop the
group. The lowest such station is faulted with prior state IDLE where nothing was found before it; the stations below it have made their
transitions, and of every other station one that seeks or confirms is IDLE, or FAULTED with prior state IDLE where its own judgement gives a
detection, which is listed (R143, R146, R148, R16, R103, R141; log 37). STATION_FAULT and GROUP_STOP are raised for what is found (R103,
R104). -/
def Obligations.ContactNeedsConfirmedSamples : Prop :=
  (∀ (k : Sta) (s t : State), s.pins.resetAsserted = false → s.group.state = .engaging → s.group.slot = none →
    ((s.jack k).record.state = .seeking ∨ (s.jack k).record.state = .confirming) → exec .cycleStart s = .next t →
    (t.jack k).record.state = .engaged →
    (s.jack k).link.fresh = true ∧ (s.jack k).record.settings.tContact ≤ (s.jack k).link.held ∧
      ((s.jack k).record.state = .seeking → s.group.params.confirmTarget ≤ 1) ∧
      ((s.jack k).record.state = .confirming → s.group.params.confirmTarget ≤ (s.jack k).record.confirm + 1) ∧
      (t.jack k).record.contact = some (s.jack k).liveHeight ∧ (t.jack k).record.start = none ∧
      Reported (.contact k (s.jack k).liveHeight (s.jack k).record.attempts) (s.group.cycle + 1) t) ∧
  ∀ s u : State, s.pins.resetAsserted = false → s.group.state = .engaging → s.group.slot = none → exec .take s = .next u →
    let p := s.group.params
    let contact (j : Jack) : Bool := j.link.fresh && decide (j.record.settings.tContact ≤ j.link.held)
    let dropout (j : Jack) : Bool := j.link.fresh && decide (j.link.held < j.record.settings.tContact)
    let tooFar (j : Jack) : Prop := j.record.state = .seeking ∧ contact j = false ∧
      ∃ h ∈ j.record.start, (p.window : Int) < j.liveHeight - h
    let unstable (j : Jack) : Prop := j.record.state = .confirming ∧ dropout j = true ∧ p.attemptLimit ≤ j.record.attempts + 1
    let seek (j : Jack) : Nat := min p.engageRate j.record.settings.rMax
    let judged (j : Jack) : StationRec :=
      let r := j.recordAtStart
      let engaged : StationRec := { r with state := .engaged, contact := some j.liveHeight, start := none, confirm := 0 }
      match j.record.state with
      | .seeking => if contact j then (if p.confirmTarget ≤ 1 then engaged else { r with state := .confirming, confirm := 1 }) else r
      | .confirming =>
        if contact j then
          (if p.confirmTarget ≤ j.record.confirm + 1 then engaged else { r with confirm := j.record.confirm + 1 })
        else if dropout j then { r with state := .seeking, confirm := 0, attempts := j.record.attempts + 1 } else r
      | _ => r
    let rate (j : Jack) : Nat :=
      if (j.record.state = .seeking ∧ contact j = false) ∨ (j.record.state = .confirming ∧ dropout j = true) then seek j else 0
    let error (ref : Int) (j : Jack) : Int := match (judged j).contact with
      | some c => ref + 100 * (j.offsetAtStart - (j.liveHeight - c))
      | none => 0
    let allEngaged : Prop := ∀ k, (s.jack k).assigned = true → (judged (s.jack k)).state = .engaged
    (s.group.permit = true → Undetected s → ¬ ChecksGeometry s → (∀ k, ¬ tooFar (s.jack k) ∧ ¬ unstable (s.jack k)) →
      ∃ t, exec .cycleStart s = .next t ∧ t.plan = u.plan ∧
        ((allEngaged → ∀ k, (s.jack k).assigned = true → (error 0 (s.jack k)).natAbs ≤ 100 * p.tripBand) →
          ∀ k, (t.jack k).record = judged (s.jack k) ∧ (t.jack k).err = error t.sync.ref (s.jack k)) ∧
        (allEngaged → ∀ k, (s.jack k).assigned = true → 100 * p.tripBand < (error 0 (s.jack k)).natAbs →
          t.group.state = .stopping ∧ Listed .syncTrip (.station k) t ∧
          FaultReported .syncTrip (.station k) (s.group.cycle + 1) s t ∧
          (∃ i, t.group.cause = .fault .syncTrip (.station i) ∧
            Reported (.groupStop .syncTrip (.station i)) (s.group.cycle + 1) t) ∧ (t.jack k).record = { judged (s.jack k) with
            state := .faulted, faultKind := some .syncTrip, prior := some .engaged, start := none, attempts := 0, confirm := 0
            move := (t.jack k).record.move }) ∧
        (¬ allEngaged → t.group = { s.group with cycle := s.group.cycle + 1, waitCount := 0 } ∧
          t.sync = { u.sync with waiting := false } ∧
          ∀ k, if (s.jack k).record.state ∈ [.seeking, .confirming, .engaged] then Receives s t k (rate (s.jack k))
            else ReceivesNothing s t k) ∧
        (allEngaged → (∀ k, (s.jack k).assigned = true → (error 0 (s.jack k)).natAbs ≤ 100 * p.tripBand) →
          t.group = { s.group with cycle := s.group.cycle + 1, waitCount := 0, state := .poised } ∧
          t.sync = { u.sync with ref := 0, speed := 0, dir := .none, waiting := false } ∧
          Reported (.state .engaging .poised) (s.group.cycle + 1) t ∧
          ∀ k, if (s.jack k).assigned = true then
              Receives s t k (rateOf p .none 0 { s.jack k with err := error 0 (s.jack k) })
            else ReceivesNothing s t k)) ∧
    let found (f : FaultKind) (k : Sta) : Prop :=
      (f = .noContact ∧ tooFar (s.jack k)) ∨ (f = .contactUnstable ∧ unstable (s.jack k))
    let moved (r : StationRec) : StationRec :=
      let n : StationRec := { r with start := none, attempts := 0, confirm := 0 }
      if r.state = .seeking ∨ r.state = .confirming then { n with state := .idle }
      else if r.state = .releasing then { n with state := .engaged } else r
    let left (k i : Sta) : StationRec := moved (if i < k then judged (s.jack i) else (s.jack i).recordAtStart)
    let foundAfter (f : FaultKind) (k i : Sta) : Prop := k < i ∧ found f i
    ∃ t, exec .cycleStart s = .next t ∧
      (∀ f k, found f k → (t.group.state = .stopping ∨ t.group.state = .lockedOut) ∧ Listed f (.station k) t ∧
        FaultReported f (.station k) (s.group.cycle + 1) s t ∧
        (t.jack k).record.state = .faulted ∧ (t.jack k).record.prior = some .idle ∧ (t.jack k).record.contact = none ∧
        (t.jack k).rate = 0) ∧
      ∀ f k, found f k → (∀ i, i < k → ¬ tooFar (s.jack i) ∧ ¬ unstable (s.jack i)) → s.group.permit = true → Undetected s →
        ¬ ChecksGeometry s →
        (∀ i c, i ≠ k → (left k i).state = .engaged → (left k i).contact = some c →
          (s.sync.ref + 100 * ((s.jack i).offsetAtStart - ((s.jack i).liveHeight - c))).natAbs ≤ 100 * p.tripBand) →
        t.group.state = .stopping ∧ t.group.cause = .fault f (.station k) ∧ t.sync = { u.sync with
          speed := 0, dir := .none, descent := false, waiting := false } ∧
        Reported (.groupStop f (.station k)) (s.group.cycle + 1) t ∧
        (t.jack k).record = { (s.jack k).recordAtStart with
          state := .faulted, faultKind := some f, prior := some .idle, contact := none, start := none, attempts := 0, confirm := 0
          move := (t.jack k).record.move } ∧
        ∀ i, i ≠ k →
          ((∀ g, ¬ foundAfter g k i) → (t.jack i).record = left k i) ∧
          ∀ g, foundAfter g k i → (t.jack i).record = { left k i with
            state := .faulted, faultKind := some g, prior := some .idle, contact := none, start := none, attempts := 0, confirm := 0
            move := (left k i).move.map (fun m => { m with underFault := false, done := true }) }

/-- TAKE: a QUEUED REPLACE is taken, and a QUEUED APPEND where the active plan has completed: the banks change roles, the old plan is
emptied, the plan position is 0, the taken mark SET, and PLAN_TAKEN reports it. In MOVING a REPLACE's segment 0 starts at once: a carried
speed keeps its direction, at speed 0 a MOVE takes it afresh from its target, and a DWELL is at rest with its count; PLAN_LOW follows
PLAN_TAKEN (log 10) where that segment is the plan's last in CHAINED (R122, R166, R167). A QUEUED APPEND on a plan that has not completed,
and an EDITABLE bank, are left alone (R162 to R164). -/
def Obligations.TakeExchangesTheBanks : Prop :=
  ∀ (s : State), Acting s →
    let swapped (mode : Option RunMode) : Plan := match s.plan.active with
      | .a => { s.plan with bankA := [], active := .b, commit := none, taken := true, segMode := mode }
      | .b => { s.plan with bankB := [], active := .a, commit := none, taken := true, segMode := mode }
    ((s.plan.commit = none ∨ (s.plan.commit = some .append ∧ s.sync.planPos < s.plan.activeBank.length)) →
      exec .take s = .next s) ∧
    (∀ kind, s.plan.commit = some kind → RoomFor 1 s →
      ((kind = .replace ∧ s.group.state ≠ .moving) ∨ (kind = .append ∧ s.plan.activeBank.length ≤ s.sync.planPos)) →
      exec .take s = .next (noticed (.planTaken s.plan.pendingLetter kind s.plan.pendingBank.length false)
        { s with plan := swapped none, sync := { s.sync with planPos := 0, dwell := none } })) ∧
    (∀ h rest, s.plan.commit = some .replace → s.group.state = .moving → s.plan.pendingBank = h :: rest →
      let low : Prop := rest = [] ∧ s.plan.mode = .chained
      let target : Int := 100 * ((min h.target s.group.params.lMax : Nat) : Int)
      let started : State := { s with
        plan := swapped (some s.plan.mode)
        sync := { s.sync with
          planPos := 0
          dwell := if h.kind = .dwell then some h.dwell else none
          speed := if h.kind = .dwell then 0 else s.sync.speed
          dir := if h.kind = .dwell then .none else if 0 < s.sync.speed then s.sync.dir
            else if s.sync.ref < target then .up else if target < s.sync.ref then .down else .none } }
      let taken : State := noticed (.planTaken s.plan.pendingLetter .replace s.plan.pendingBank.length true) started
      (¬ low → RoomFor 1 s → exec .take s = .next taken) ∧
      (low → RoomFor 2 s → exec .take s = .next (noticed (.planLow s.plan.pendingLetter 0) taken)))

/-- SLIP_GATE_CLOSE: a quiet gate leaves the run count, a gate within the tolerance sets it to 0, and a slip gate sets the mark and counts
one more; a new gate opens (R62, R63). A slip gate below the slip limit raises SLIP and does no more; at the limit or above, the station
is FAULTED, DRIVE_SLIP is listed or the list overflowed, and a MOVING group begins a fault stop with it as the cause (R64, R16, R103,
R104). The new gate counts one cycle start more because the row stands before that cycle start's own work (log 4). -/
def Obligations.SlipGateIsJudgedAtItsClose : Prop :=
  ∀ (k : Sta) (g : SlipGate) (s : State), Acting s → BrakesSafe s → (s.jack k).assigned = true →
    (s.jack k).mon.gateOpen = false → (s.jack k).mon.gate = some g → g.left ≤ 1 →
    let e := (s.jack k).record.settings.encScale
    let ks := (s.jack k).record.settings.kStep
    let d : Int := g.steps * 1000000 - g.edges * e * ks
    let next : SlipGate := { left := s.group.params.gateLength + 1, steps := 0, edges := 0 }
    (g.steps = 0 → g.edges = 0 → exec (.slipGateClose k) s =
      .next (s.updJack k (fun j => { j with mon := { j.mon with gate := some next } }))) ∧
    ((g.steps ≠ 0 ∨ g.edges ≠ 0) → d.natAbs ≤ s.group.params.slipTolerance * 1000 * ks → exec (.slipGateClose k) s =
      .next (s.updJack k (fun j => { j with mon := { j.mon with gate := some next, slipRun := 0 } }))) ∧
    (s.group.params.slipTolerance * 1000 * ks < d.natAbs → (s.jack k).mon.slipRun + 1 < s.group.params.slipLimit →
      s.group.params.slipLimit ≤ 15 → RoomFor 1 s → exec (.slipGateClose k) s =
      .next (noticed (.slip k (saturate16 (roundNearest d (1000 * ks))) ((s.jack k).mon.slipRun + 1))
        (s.updJack k (fun j => { j with mon :=
          { j.mon with gate := some next, slipMark := true, slipRun := j.mon.slipRun + 1 } })))) ∧
    (s.group.params.slipTolerance * 1000 * ks < d.natAbs → s.group.params.slipLimit ≤ min 15 ((s.jack k).mon.slipRun + 1) →
      ∃ t, exec (.slipGateClose k) s = .next t ∧
        (t.jack k).mon = { (s.jack k).mon with
          gate := some next, slipMark := true, slipRun := min 15 ((s.jack k).mon.slipRun + 1) } ∧
        (t.jack k).record.state = .faulted ∧
        (t.group.faults.any (fun x => x.kind == .driveSlip && x.subject == .station k) = true ∨ t.group.overflow = true) ∧
        (s.group.state = .moving → t.group.state = .stopping ∧ t.group.cause = .fault .driveSlip (.station k)))

/-- The wait rule (R130, R131): with a MOVE under way in MOVING and a direction, or on the ramp of a controlled stop, an ENGAGED station
more than the hold band behind in the direction of travel makes the computation a wait cycle. WAIT_TIMEOUT, the wait cycle whose count
reaches the wait limit: a fault stop begins with WAIT_TIMEOUT as its cause, listed where the list has room and holds none; the
reference speed is 0, the direction NONE, the waiting mark SET, and every rate 0 but for stations in counted moves of their own; the
reference lift, the plan and the counts are left alone (R104, R128). Where no such cycle is due the row changes nothing (log 4). A
CYCLE_START that finds no fault and one station lagging: below the limit the reference lift, its direction and the segment stay, the
speed becomes 0, the wait count goes up by one with the waiting mark SET, and every ENGAGED station is commanded from its correction
alone; at the limit the fault stop begins. `u` is what TAKE leaves of `s`. -/
def Obligations.WaitTimeoutBeginsAFaultStop : Prop :=
  let sign (d : RefDir) : Int := match d with | .up => 1 | .down => -1 | .none => 0
  let applies (s : State) : Prop :=
    (s.group.state = .moving ∧ s.plan.segMode.isSome = true ∧ (∃ g ∈ s.segment, g.kind = .move) ∧ s.sync.dir ≠ .none) ∨
      (s.group.state = .stopping ∧ s.group.cause = .command ∧ 0 < s.sync.speed)
  let stopped (s t : State) (cycle : Byte) : Prop :=
    t.group = { s.group with
      cycle := cycle, state := .stopping, cause := .fault .waitTimeout .none, waitCount := 0, ratesForced := true
      faults := if (∃ e ∈ s.group.faults, e.kind = .waitTimeout ∧ e.subject = .none) ∨ 16 ≤ s.group.faults.length then s.group.faults
        else s.group.faults ++ [{ kind := .waitTimeout, subject := .none, cycle := cycle }]
      overflow := s.group.overflow || (decide (16 ≤ s.group.faults.length) &&
        !s.group.faults.any (fun e => e.kind == .waitTimeout && e.subject == .none)) } ∧
    ∀ k, forcedStation (t.jack k) = true → (t.jack k).rate = 0
  (∀ s : State, Acting s →
    let due : Prop := applies s ∧ s.group.params.waitLimit ≤ s.group.waitCount + 1 ∧
      ∃ k, (s.jack k).record.state = .engaged ∧ 100 * (s.group.params.holdBand : Int) < sign s.sync.dir * (s.jack k).err
    (¬ due → exec .waitTimeout s = .next s) ∧
    (due → ∃ t, exec .waitTimeout s = .next t ∧ stopped s t s.group.cycle ∧
      t.sync = { s.sync with speed := 0, dir := .none, descent := false, waiting := true } ∧ t.plan = s.plan ∧ t.cars = s.cars ∧
      ∀ k, (t.jack k).pos = (s.jack k).pos ∧ (t.jack k).link = (s.jack k).link ∧ (t.jack k).mon = (s.jack k).mon ∧
        ((s.jack k).record.state = .engaged → (t.jack k).record = (s.jack k).record ∧ (t.jack k).rate = 0))) ∧
  ∀ s u : State, s.pins.resetAsserted = false → s.group.slot = none → s.group.permit = true → Undetected s →
    exec .take s = .next u → applies u → (s.group.state = .stopping → s.group.ratesForced = false) →
    (∃ k, (s.jack k).record.state = .engaged ∧ 100 * (s.group.params.holdBand : Int) < sign u.sync.dir * errorAt s k) →
    ∃ t, exec .cycleStart s = .next t ∧ t.plan = u.plan ∧
      (s.group.waitCount + 1 < s.group.params.waitLimit →
        t.group = { s.group with cycle := s.group.cycle + 1, waitCount := s.group.waitCount + 1 } ∧
        t.sync = { u.sync with speed := 0, waiting := true } ∧ Commanded s t u.sync.dir 0) ∧
      (s.group.params.waitLimit ≤ s.group.waitCount + 1 → stopped s t (s.group.cycle + 1) ∧
        t.sync = { u.sync with speed := 0, dir := .none, descent := false, waiting := true })

/-- DWELL_COMPLETION: the last computation of a DWELL (R126). The group comes to rest in HOLDING where the DWELL stops after, or is the
plan's last without an APPEND queued; otherwise the further segment starts, in the run mode held and, a MOVE, toward its target. After
the plan's last a queued APPEND is taken, whether the group holds or goes on. SEGMENT_DONE is raised at an entry to HOLDING and at the
end of the plan, before PLAN_TAKEN; PLAN_LOW at the start of a chained plan's last segment with no APPEND queued (R162, R164, R167 to
R169); STATE comes after SEGMENT_DONE and PLAN_TAKEN (log 10). -/
def Obligations.DwellCompletesIntoTheNextSegment : Prop :=
  ∀ (g : Segment) (m : RunMode) (s : State), Acting s → BrakesSafe s → s.group.state = .moving →
    s.plan.segMode = some m → s.segment = some g → g.kind = .dwell → s.sync.dwell = some 1 → s.sync.speed = 0 →
    let k := s.sync.planPos
    let last : Prop := k + 1 = s.plan.activeBank.length
    let queued : Prop := s.plan.commit = some .append
    let done (last holding : Bool) (t : State) : State := noticed (.segmentDone s.plan.active k .dwell last holding) t
    let taken (continues : Bool) (t : State) : State :=
      noticed (.planTaken s.plan.pendingLetter .append s.plan.pendingBank.length continues) t
    let exchanged (mode : Option RunMode) : Plan := match s.plan.active with
      | .a => { s.plan with bankA := [], active := .b, commit := none, taken := true, segMode := mode }
      | .b => { s.plan with bankB := [], active := .a, commit := none, taken := true, segMode := mode }
    let holding (plan : Plan) (pos : Nat) : State := { s with
      group := { s.group with state := .holding }, plan := plan
      sync := { s.sync with dwell := none, planPos := pos, dir := .none } }
    let started (h : Segment) (plan : Plan) (pos : Nat) : State := { s with
      plan := plan
      sync := { s.sync with
        planPos := pos
        dwell := if h.kind = .dwell then some h.dwell else none
        dir := if h.kind = .dwell then .none
          else if s.sync.ref < 100 * ((min h.target s.group.params.lMax : Nat) : Int) then .up
          else if 100 * ((min h.target s.group.params.lMax : Nat) : Int) < s.sync.ref then .down else .none } }
    ((last → ¬ queued) → g.stopAfter = true ∨ last → RoomFor 2 s → exec .dwellCompletion s =
      .next (noticed (.state .moving .holding)
        (done (decide last) true (holding { s.plan with segMode := none } (k + 1))))) ∧
    (last → queued → g.stopAfter = true → RoomFor 3 s → exec .dwellCompletion s =
      .next (noticed (.state .moving .holding) (taken false (done true true (holding (exchanged none) 0))))) ∧
    (∀ h, g.stopAfter = false → s.plan.activeBank[k + 1]? = some h →
      let t := started h { s.plan with segMode := some s.plan.mode } (k + 1)
      (k + 2 = s.plan.activeBank.length → s.plan.mode = .chained → ¬ queued → RoomFor 1 s →
        exec .dwellCompletion s = .next (noticed (.planLow s.plan.active (k + 1)) t)) ∧
      (k + 2 < s.plan.activeBank.length ∨ s.plan.mode = .single ∨ queued → exec .dwellCompletion s = .next t)) ∧
    (∀ h rest, g.stopAfter = false → last → queued → s.plan.pendingBank = h :: rest → RoomFor 3 s →
      let t := taken true (done true false (started h (exchanged (some s.plan.mode)) 0))
      exec .dwellCompletion s = .next (
        if rest = [] ∧ s.plan.mode = .chained then noticed (.planLow s.plan.pendingLetter 0) t else t))

/-! ### The load link -/

/-- BEACON_END drops LDE and LTX. A byte on LRX is charged to its slot; one in the beacon window or the quiet interval raises STRAY 32
without an address; one that arrives while LDE is high is discarded (R75, R78, R81; that LDE's level at the byte's end counts is log 38).
SLOT_CLOSE on an answer of six bytes without framing faults and with a good CRC-8: the load of a FRESH answer and 65,535 of an OVERRANGE
one are held, SENSOR_FAULT and STALE are misses, and another address is GARBLED with STRAY; so is, without STRAY, a status of no other
meaning, a number of bytes other than six, a framing fault or a bad CRC-8; an empty slot is SILENT, one with a byte in progress LATE. An
unassigned station's slot clears its values, and one that holds bytes raises STRAY, with the address where the bytes are a good answer.
Everything but the slot's own values is left alone (R77, R79 to R81). -/
def Obligations.SlotsRecordTheirAnswers : Prop :=
  ((∀ s : State, exec .beaconEnd s = .next { s with link := { s.link with lde := false, ltx := [] } }) ∧
  ∀ (b : Byte) (f : Bool) (s : State), Acting s →
    (∀ w, s.link.lde = true → exec (.loadByteReceived w b f) s = .next s) ∧
    (s.link.lde = false → s.link.started = true →
      (∀ k, (s.jack k).link.slotOpen = true → exec (.loadByteReceived (.slot k) b f) s = .next (s.updJack k (fun j =>
        { j with link := { j.link with bytes := j.link.bytes ++ [{ byte := b, framingFault := f }] } }))) ∧
      (RoomFor 1 s → exec (.loadByteReceived .beacon b f) s = .next (noticed (.stray 32 none) s) ∧
        exec (.loadByteReceived .quiet b f) s = .next (noticed (.stray 32 none) s)))) ∧
  ∀ (k : Sta) (s : State), Acting s → (s.jack k).link.slotOpen = true →
    let answer (a e st : Byte) (load : Half) : List LinkByte :=
      ([a, e] ++ bytes2 load ++ [st, crc8 ([a, e] ++ bytes2 load ++ [st])]).map (fun x => { byte := x, framingFault := false })
    let fresh (o : SlotOutcome) (load : Nat) : State := s.updJack k (fun j => { j with link := { j.link with
      held := load, miss := 0, outcome := o, fresh := true, silent := false, slotOpen := false, bytes := [] } })
    let missed (o : SlotOutcome) : State := s.updJack k (fun j => { j with link := { j.link with
      miss := min 15 (j.link.miss + 1), outcome := o, fresh := false, slotOpen := false, bytes := [] } })
    let bytes := (s.jack k).link.bytes.map (fun b => b.byte)
    let framed : Prop := bytes.length = 6 ∧ ∀ b ∈ (s.jack k).link.bytes, b.framingFault = false
    let checked : Prop := bytes[5]? = some (crc8 (bytes.take 5))
    let cleared : State := s.updJack k (fun j => { j with link :=
      { j.link with miss := 0, outcome := .none, fresh := false, slotOpen := false, bytes := [] } })
    ((s.jack k).assigned = true →
      (∀ load, (s.jack k).link.bytes = answer (byteOf k.val) s.group.cycle 0x00 load →
        exec (.slotClose k false) s = .next (fresh .fresh load.toNat)) ∧
      (∀ load, (s.jack k).link.bytes = answer (byteOf k.val) s.group.cycle 0x01 load →
        exec (.slotClose k false) s = .next (fresh .overrange 65535)) ∧
      (∀ load, (s.jack k).link.bytes = answer (byteOf k.val) s.group.cycle 0x02 load →
        exec (.slotClose k false) s = .next (missed .sensorFault)) ∧
      (∀ e st load, e ≠ s.group.cycle → (s.jack k).link.bytes = answer (byteOf k.val) e st load →
        exec (.slotClose k false) s = .next (missed .stale)) ∧
      (∀ a e st load, a ≠ byteOf k.val → (s.jack k).link.bytes = answer a e st load → RoomFor 1 s →
        exec (.slotClose k false) s = .next (noticed (.stray k.val (some a)) (missed .garbled))) ∧
      (∀ st load, 2 < st.toNat → (s.jack k).link.bytes = answer (byteOf k.val) s.group.cycle st load →
        exec (.slotClose k false) s = .next (missed .garbled)) ∧
      ((s.jack k).link.bytes ≠ [] → ¬ framed → exec (.slotClose k false) s = .next (missed .garbled)) ∧
      (framed → ¬ checked → exec (.slotClose k false) s = .next (missed .garbled)) ∧
      (exec (.slotClose k true) s = .next (missed .late)) ∧
      ((s.jack k).link.bytes = [] → exec (.slotClose k false) s = .next (missed .silent))) ∧
    ((s.jack k).assigned = false →
      ((s.jack k).link.bytes = [] → exec (.slotClose k false) s = .next cleared) ∧
      (RoomFor 1 s →
        ((s.jack k).link.bytes ≠ [] → ¬ (framed ∧ checked) →
          exec (.slotClose k false) s = .next (noticed (.stray k.val none) cleared)) ∧
        (∀ a rest, bytes = a :: rest → framed → checked →
          exec (.slotClose k false) s = .next (noticed (.stray k.val (some a)) cleared)) ∧
        exec (.slotClose k true) s = .next (noticed (.stray k.val none) cleared)))

/-! ### Generators -/

/-- PERIOD_COMPLETION in RATE: STEP rises, the pulse is reported with the direction it was emitted in, and the pending value is acted
on: none goes on, a rate or a counted move begins, the stop value leaves the generator IDLE with its rest count latched and its brake
at the called-for level (R43, R45, R51, R53, R62, R67, R69); a station whose move waited there and was ended in the stop form leaves its
operation state with no second STATION_DONE (R47, R195). STEP_PULSE_END: STEP falls, and DIR takes the
generator's direction (R39); with STEP low already it changes nothing, which is the model's choice (log 3). -/
def Obligations.RateCompletionActsOnThePendingValue : Prop :=
  (∀ (k : Sta) (s : State),
    ((s.jack k).gen.stepHigh = true → exec (.stepPulseEnd k) s = .next (s.updJack k (fun j =>
      { j with gen := { j.gen with stepHigh := false, dirHigh := j.gen.dir == .up } }))) ∧
    ((s.jack k).gen.stepHigh = false → exec (.stepPulseEnd k) s = .next s)) ∧
  ∀ (k : Sta) (s : State), Acting s → BrakesSafe s → s.group.permit = true → s.group.state ≠ .lockedOut →
    (s.jack k).gen.run = .rate →
    let pulse (j : Jack) : Monitor := { j.mon with
      gate := j.mon.gate.map (fun g =>
        { g with steps := max (-8388608) (min 8388607 (g.steps + (if j.gen.dir = .up then 1 else -1))) })
      stepTally := if j.mon.gateOpen then j.mon.stepTally + 1 else j.mon.stepTally }
    ((s.jack k).gen.pending = none → exec (.periodCompletion k) s = .next (s.updJack k (fun j =>
      { j with mon := pulse j, gen := { j.gen with stepHigh := true } }))) ∧
    (∀ d dir, (s.jack k).gen.pending = some (.rate d dir) → exec (.periodCompletion k) s = .next (s.updJack k (fun j =>
      { j with mon := pulse j, gen := { j.gen with stepHigh := true, divisor := some d, dir := dir, pending := none } }))) ∧
    (∀ d dir n, (s.jack k).gen.pending = some (.move d dir n) → exec (.periodCompletion k) s = .next (s.updJack k (fun j =>
      { j with mon := pulse j, gen := { j.gen with
        run := .counted, stepHigh := true, divisor := some d, dir := dir, pending := none, remaining := n } }))) ∧
    ((s.jack k).gen.pending = some .stop → (∀ m ∈ (s.jack k).record.move, m.done = true) → (s.jack k).record.state ≠ .releasing →
      let left (r : StationRec) : StationRec := match r.move with
        | none => r
        | some _ => { r with
          state := if r.state = .homing ∨ r.state = .jogging then .idle else if r.state = .trimming then .engaged else r.state
          move := none }
      exec (.periodCompletion k) s = .next (s.updJack k (fun j =>
        { j with
          record := left j.record
          mon := { pulse j with rest := j.pos.count }
          gen := { j.gen with
            run := .idle, stepHigh := true, divisor := none, pending := none, remaining := 0
            brake := brakeCalled s.group.state { j with record := left j.record } } })))

/-- PERIOD_COMPLETION in COUNTED: the remaining steps are reduced by 1; at the last step of a HOME, JOG or TRIM the generator goes
IDLE, the station leaves its operation state and STATION_DONE is raised, with FAILED for a HOME that met no switch (R46, R6, R9). A FAULTED
station, whose move was taken under R5, stays FAULTED (R6). The last period of a move ended before in the stop form does the same, with no
second STATION_DONE (R47, R195). -/
def Obligations.CountedMoveCompletesAtItsLastStep : Prop :=
  ∀ (k : Sta) (s : State), Acting s → BrakesSafe s → s.group.permit = true → s.group.state ≠ .lockedOut →
    (s.jack k).gen.run = .counted →
    let pulse (j : Jack) : Monitor := { j.mon with
      gate := j.mon.gate.map (fun g =>
        { g with steps := max (-8388608) (min 8388607 (g.steps + (if j.gen.dir = .up then 1 else -1))) })
      stepTally := if j.mon.gateOpen then j.mon.stepTally + 1 else j.mon.stepTally }
    (1 < (s.jack k).gen.remaining → exec (.periodCompletion k) s = .next (s.updJack k (fun j =>
      { j with mon := pulse j, gen := { j.gen with stepHigh := true, remaining := j.gen.remaining - 1 } }))) ∧
    (∀ m, (s.jack k).gen.remaining ≤ 1 → (s.jack k).gen.pending = none → (s.jack k).record.move = some m →
      (s.jack k).record.state ∈ [.homing, .jogging, .trimming, .faulted] →
      let ended (j : Jack) : StationRec := { j.record with
        state := if j.record.state = .faulted then .faulted else if j.record.state = .trimming then .engaged else .idle
        move := none }
      let rested : State := s.updJack k (fun j => { j with
          record := ended j
          mon := { pulse j with rest := j.pos.count }
          gen := { j.gen with
            run := .idle, stepHigh := true, divisor := none, remaining := 0
            brake := brakeCalled s.group.state { j with record := ended j } } })
      (m.done = true → exec (.periodCompletion k) s = .next rested) ∧
      (m.done = false → RoomFor 1 s →
        exec (.periodCompletion k) s = .next (noticed (.stationDone k m.op (if m.op = .home then .failed else .ok)) rested)))

/-- The last step of a station's clearance move completes its release: it is IDLE without contact, its rest count latched and its brake
APPLIED, and RELEASED is raised with the lift from the live count (R152, R153, R50). With the last station of the group it passes from
LANDING to PREPARED with its reference 0 (R102); otherwise the group and every other station go on as they are. A cycle start of LANDING
after the descent that finds no fault judges every station: an ENGAGED one is taken into RELEASING from its latched height; a RELEASING one
counts a fresh sample below its release threshold, begins again after one at or above it, keeps its count without one, and is lowered on at
the seek rate; the sample that reaches the confirm target orders the clearance move, or completes the release where the move has 0 steps; a
clearing one is handed nothing, its commanded rate recorded as −seek rate from the order on (log 26) (R150 to R153). That the move waits as
the pending value in a generator still in COUNTED, as it does in RATE, is log 12. The group lands where every assigned station is IDLE after
that. A descent beyond the window is listed and stops the group. The lowest such station is faulted with prior state ENGAGED and its contact
height kept where nothing was found before it; the stations below it have made their transitions, and every other RELEASING one is ENGAGED
again, or FAULTED with prior state ENGAGED where its own judgement gives a detection, which is listed (R151, R154, R16, R103, R141; log 37).
STATION_FAULT and GROUP_STOP are raised for what is found (R103, R104). -/
def Obligations.LastReleaseLandsTheGroup : Prop :=
  (∀ (k : Sta) (s : State), Acting s → s.group.permit = true → s.group.state = .landing → (s.jack k).gen.run = .counted →
    (s.jack k).gen.remaining ≤ 1 → (s.jack k).gen.pending = none → (s.jack k).record.state = .releasing →
    s.group.params.confirmTarget ≤ (s.jack k).record.confirm →
    let last : Prop := ∀ i, i ≠ k → (s.jack i).record.state = .idle ∨ (s.jack i).record.state = .unassigned
    ∃ t, exec (.periodCompletion k) s = .next t ∧ t.plan = s.plan ∧
      (last → t.group = { s.group with state := .prepared } ∧ t.sync = { s.sync with ref := 0, speed := 0, dir := .none } ∧
        Reported (.state .landing .prepared) s.group.cycle t ∧
        ∀ i, (t.jack i).gen.brake = .released → (s.jack i).gen.running = true ∧ i ≠ k) ∧
      (¬ last → t.group = s.group ∧ t.sync = s.sync ∧ (BrakesSafe s → ∀ i, i ≠ k → t.jack i = s.jack i)) ∧
      (∀ c, (s.jack k).record.contact = some c → Reported (.released k ((s.jack k).liveHeight - c)) s.group.cycle t) ∧
      (t.jack k).record =
        { (s.jack k).record with state := .idle, contact := none, start := none, confirm := 0 } ∧
      (t.jack k).gen.run = .idle ∧ (t.jack k).gen.brake = .applied ∧ (t.jack k).mon.rest = (s.jack k).pos.count ∧
      (t.jack k).pos = (s.jack k).pos ∧
      ∀ i, i ≠ k → (t.jack i).record = (s.jack i).record ∧ (t.jack i).pos = (s.jack i).pos ∧ (t.jack i).mon = (s.jack i).mon) ∧
  ∀ s u : State, s.pins.resetAsserted = false → s.group.state = .landing → s.sync.descent = false → s.group.slot = none →
    exec .take s = .next u →
    let p := s.group.params
    let seek (j : Jack) : Nat := min p.engageRate j.record.settings.rMax
    let steps (j : Jack) : Nat := (2 * (p.clearance * j.record.settings.kStep) + 1000) / 2000
    let light (j : Jack) : Bool := j.link.fresh && decide (j.link.held < j.record.settings.tRelease)
    let releasing (j : Jack) : Prop := j.record.state = .releasing ∧ j.record.confirm < p.confirmTarget
    let confirms (j : Jack) : Prop := releasing j ∧ light j = true ∧ p.confirmTarget ≤ j.record.confirm + 1
    let tooFar (j : Jack) : Prop := releasing j ∧ ¬ confirms j ∧ ∃ h ∈ j.record.start, (p.window : Int) < h - j.liveHeight
    let judged (j : Jack) : StationRec :=
      let r := j.recordAtStart
      if j.record.state = .engaged then { r with state := .releasing, start := some j.liveHeight, confirm := 0, attempts := 0 }
      else if confirms j then
        (if steps j = 0 then { r with state := .idle, contact := none, start := none, confirm := 0 }
        else { r with confirm := j.record.confirm + 1 })
      else if releasing j then
        { r with confirm := if light j then j.record.confirm + 1 else if j.link.fresh then 0 else j.record.confirm }
      else r
    let landed : Prop := ∀ k, (s.jack k).assigned = true → (judged (s.jack k)).state = .idle
    (s.group.permit = true → Undetected s → (∀ k, ¬ tooFar (s.jack k)) →
      (ChecksGeometry s → ∀ k, confirms (s.jack k) → 0 < steps (s.jack k)) →
      ∃ t, exec .cycleStart s = .next t ∧ t.plan = u.plan ∧
        (¬ landed → t.group = { s.group with cycle := s.group.cycle + 1, waitCount := 0 } ∧
          t.sync = { u.sync with waiting := false }) ∧
        (landed → (∃ k, confirms (s.jack k)) →
          t.group = { s.group with cycle := s.group.cycle + 1, waitCount := 0, state := .prepared } ∧
          t.sync = { u.sync with ref := 0, speed := 0, dir := .none, waiting := false } ∧
          Reported (.state .landing .prepared) (s.group.cycle + 1) t) ∧
        ∀ k, (t.jack k).record = judged (s.jack k) ∧
          (t.jack k).err = (match (judged (s.jack k)).contact with
            | some c => t.sync.ref + 100 * ((s.jack k).offsetAtStart - ((s.jack k).liveHeight - c))
            | none => 0) ∧
          ((s.jack k).record.state = .engaged ∨ (releasing (s.jack k) ∧ ¬ confirms (s.jack k)) →
            Receives s t k (-(seek (s.jack k) : Int))) ∧
          (confirms (s.jack k) → steps (s.jack k) = 0 → Receives s t k 0 ∧
            Reported (.released k ((s.jack k).liveHeight - (s.jack k).record.contact.getD 0)) (s.group.cycle + 1) t) ∧
          (confirms (s.jack k) → 0 < steps (s.jack k) → (t.jack k).rate = -(seek (s.jack k) : Int) ∧
            let g := (s.jack k).gen
            let d := divisorOf (seek (s.jack k)) (s.jack k).record.settings.kStep
            let kept : Generator := { g with
              ceiling := heldAtCeiling (seek (s.jack k)) (s.jack k).record.settings.kStep, brake := (t.jack k).gen.brake }
            (t.jack k).gen = (if g.run = .idle then { kept with
                run := .counted, divisor := some d, dir := .down, dirHigh := g.stepHigh && g.dirHigh, pending := none
                remaining := steps (s.jack k) }
              else { kept with pending := some (.move d .down (steps (s.jack k))) })) ∧
          ((s.jack k).record.state = .releasing → p.confirmTarget ≤ (s.jack k).record.confirm →
            (t.jack k).rate = -(seek (s.jack k) : Int) ∧
            (t.jack k).gen = { (s.jack k).gen with ceiling := false, brake := (t.jack k).gen.brake }) ∧
          ((s.jack k).record.state ≠ .engaged → (s.jack k).record.state ≠ .releasing → ReceivesNothing s t k)) ∧
    let moved (r : StationRec) : StationRec :=
      let n : StationRec := { r with start := none, attempts := 0, confirm := 0 }
      if r.state = .seeking ∨ r.state = .confirming then { n with state := .idle }
      else if r.state = .releasing then { n with state := .engaged } else r
    let left (k i : Sta) : StationRec := moved (if i < k then judged (s.jack i) else (s.jack i).recordAtStart)
    let foundAfter (k i : Sta) : Prop := k < i ∧ tooFar (s.jack i)
    ∃ t, exec .cycleStart s = .next t ∧
      (∀ k, tooFar (s.jack k) → (t.group.state = .stopping ∨ t.group.state = .lockedOut) ∧ Listed .noRelease (.station k) t ∧
        FaultReported .noRelease (.station k) (s.group.cycle + 1) s t ∧
        (t.jack k).record.state = .faulted ∧ (t.jack k).record.prior = some .engaged ∧
        (t.jack k).record.contact = (s.jack k).record.contact ∧ (t.jack k).rate = 0) ∧
      ∀ k, tooFar (s.jack k) → (∀ i, i < k → ¬ tooFar (s.jack i)) → s.group.permit = true → Undetected s →
        (ChecksGeometry s → ∀ i, confirms (s.jack i) → 0 < steps (s.jack i)) →
        (∀ i c, i ≠ k → ¬ foundAfter k i → (left k i).state = .engaged → (left k i).contact = some c →
          (s.sync.ref + 100 * ((s.jack i).offsetAtStart - ((s.jack i).liveHeight - c))).natAbs ≤ 100 * p.tripBand) →
        t.group.state = .stopping ∧ t.group.cause = .fault .noRelease (.station k) ∧
        t.sync = { u.sync with speed := 0, dir := .none, waiting := false } ∧
        Reported (.groupStop .noRelease (.station k)) (s.group.cycle + 1) t ∧
        (t.jack k).record = { (s.jack k).recordAtStart with
          state := .faulted, faultKind := some .noRelease, prior := some .engaged, start := none, attempts := 0, confirm := 0
          move := (t.jack k).record.move } ∧
        ∀ i, i ≠ k → i < k ∨ (s.jack i).record.state ≠ .engaged →
          (¬ foundAfter k i → (t.jack i).record = left k i) ∧
          (foundAfter k i → (t.jack i).record = { left k i with
            state := .faulted, faultKind := some .noRelease, prior := some .engaged, start := none, attempts := 0, confirm := 0
            move := (left k i).move.map (fun m => { m with underFault := false, done := true }) })

/-! ### Encoders, home switches and the permit line -/

/-- ENCODER_EDGE and BOTH_LINES_CHANGE: a change of one line moves the count by one, up in the order low-low, high-low, high-high,
low-high, and is reported to the tallies; a change of both lines moves nothing. Both are taken in every state, a reset included
(R56, R62, R67). HOME_ACTIVATION of a HOMING station presets the count, makes the datum KNOWN, ends the counted move in the stop form
and raises STATION_DONE HOME OK; in any other state the input alone moves. HOME_INACTIVE moves the input alone (R8, R47). -/
def Obligations.EncoderAndHomeInputsMoveTheCount : Prop :=
  ∀ (k : Sta) (s : State),
    (∀ line, exec (.encoderEdge k line) s = .next (s.updJack k (fun j =>
      let up : Bool := (line == .a) == (j.pos.encA == j.pos.encB)
      { j with
        pos := { j.pos with
          encA := if line = .a then !j.pos.encA else j.pos.encA
          encB := if line = .b then !j.pos.encB else j.pos.encB
          count := if up then j.pos.count + 1 else j.pos.count - 1 }
        mon := { j.mon with
          gate := j.mon.gate.map (fun g =>
            { g with edges := max (-8388608) (min 8388607 (g.edges + (if up then 1 else -1))) })
          edgeTally := if j.mon.gateOpen then j.mon.edgeTally + 1 else j.mon.edgeTally } }))) ∧
    exec (.bothLinesChange k) s = .next (s.updJack k (fun j =>
      { j with pos := { j.pos with encA := !j.pos.encA, encB := !j.pos.encB } })) ∧
    exec (.homeInactive k) s = .next (s.updJack k (fun j => { j with homeLow := false })) ∧
    (Acting s → (s.jack k).homeLow = false →
      ((s.jack k).record.state ≠ .homing →
        exec (.homeActivation k) s = .next (s.updJack k (fun j => { j with homeLow := true }))) ∧
      ((s.jack k).record.state = .homing → (s.jack k).gen.run = .counted → RoomFor 1 s →
        (s.jack k).record.move = some { op := .home, underFault := false, done := false } →
        exec (.homeActivation k) s = .next (noticed (.stationDone k .home .ok) (s.updJack k (fun j =>
          { j with
            homeLow := true
            pos := { j.pos with count := j.record.settings.homeCount }
            record := { j.record with
              datumKnown := true, move := some { op := .home, underFault := false, done := true } }
            gen := { j.gen with remaining := 0, pending := none } })))))

/-- PERMIT_FALL: the permit level becomes LOW, every period is abandoned, every brake applied and every counted move ended; a group in
ENGAGING, POISED, MOVING, HOLDING, STOPPING or LANDING becomes STOPPED, or PREPARED where no contact height is held, with PERMIT as
its cause unless a fault stop is under way. Settings, counts, contact heights, plan, faults, cars and the link are left alone
(R111, R48, R52, R18, R105). The PERMIT notice comes first (log 10). -/
def Obligations.PermitFallStopsEverything : Prop :=
  ∀ s : State, s.pins.resetAsserted = false → s.pins.permit = true → ∃ t, exec .permitFall s = .next t ∧
    let stops : Bool := [.engaging, .poised, .moving, .holding, .stopping, .landing].contains s.group.state
    t.pins = { s.pins with permit := false } ∧ t.plan = s.plan ∧ t.cars = s.cars ∧ t.link = s.link ∧
    t.group = { s.group with
      permit := false
      state := if stops then (if anyContact s then .stopped else .prepared) else s.group.state
      cause := if stops = true ∧ faultStopUnderWay s = false then .permit else s.group.cause
      waitCount := if stops then 0 else s.group.waitCount } ∧
    t.sync = { s.sync with
      ref := if stops = true ∧ anyContact s = false then 0 else s.sync.ref
      speed := if stops then 0 else s.sync.speed
      dir := if stops = true ∧ anyContact s = false then .none else s.sync.dir
      descent := if stops then false else s.sync.descent } ∧
    (RoomFor 1 s → ∃ sum more, t.line.queue = s.line.queue ++
      { cls := .eventNotice, kind := 0x70, tag := 0
        body := bytes2 sum ++ [2, 0, s.group.cycle] ++ eventBytes (.permit false stops) } :: more) ∧
    ∀ k, (t.jack k).gen.run = .idle ∧ (t.jack k).gen.pending = none ∧ (t.jack k).gen.brake = .applied ∧
      ((s.jack k).gen.running = true → (t.jack k).gen.divisor = none ∧ (t.jack k).gen.remaining = 0 ∧
        (t.jack k).gen.stepHigh = false ∧ (t.jack k).mon.rest = (s.jack k).pos.count) ∧
      (t.jack k).gen.dirHigh = (s.jack k).gen.dirHigh ∧
      (t.jack k).pos = (s.jack k).pos ∧ (t.jack k).link = (s.jack k).link ∧
      (t.jack k).record.settings = (s.jack k).record.settings ∧ (t.jack k).record.contact = (s.jack k).record.contact ∧
      (t.jack k).record.datumKnown = (s.jack k).record.datumKnown ∧ (t.jack k).record.move = none ∧
      ((s.jack k).record.move.isSome = true → (s.jack k).record.state = .homing ∨ (s.jack k).record.state = .jogging →
        (t.jack k).record.state = .idle) ∧
      ((s.jack k).record.move.isSome = true → (s.jack k).record.state = .trimming → (t.jack k).record.state = .engaged) ∧
      (stops = true → (s.jack k).record.state = .seeking ∨ (s.jack k).record.state = .confirming →
        (t.jack k).record.state = .idle ∧ (t.jack k).record.start = none) ∧
      (stops = true → (s.jack k).record.state = .releasing → (t.jack k).record.state = .engaged)

/-- PERMIT_RISE: the permit level becomes HIGH, the reference is re-based from the live heights, every point of rest is taken afresh
and every brake of an idle generator takes its called-for level. The group state, the records, the counts and the generators are
left alone (R112, R113, R52). The re-based reference lies in 0..100 L_max, is 0 where no station holds a contact height, and where the
mean is not cut at an end of the range, the errors of the stations holding one, formed from the same heights (latched where `b`,
live otherwise), sum to at most half a µm for each of them. -/
def Obligations.PermitRiseRebases : Prop :=
  (∀ s : State, s.pins.resetAsserted = false → s.pins.permit = false → RoomFor 1 s → ∃ t, exec .permitRise s = .next t ∧
    t.pins = { s.pins with permit := true } ∧ t.plan = s.plan ∧ t.cars = s.cars ∧ t.link = s.link ∧
    t.group = { s.group with permit := true, waitCount := 0 } ∧
    t.sync = { s.sync with ref := rebasedReference false s, speed := 0, dir := .none } ∧
    t.line = { s.line with queue := s.line.queue ++
      [eventFrame { event := .permit true false, cycle := s.group.cycle } false t] } ∧
    ∀ k, ∃ b, t.jack k = { s.jack k with
        mon := { (s.jack k).mon with rest := (s.jack k).pos.count }
        gen := { (s.jack k).gen with brake := b } } ∧
      (brakeCalled s.group.state (s.jack k) = .released → b = .released) ∧
      (brakeCalled s.group.state (s.jack k) = .applied → (s.jack k).gen.run = .idle → b = .applied)) ∧
  ∀ (b : Bool) (s : State),
    let ref := rebasedReference b s
    let error (j : Jack) : Int := match j.record.contact with
      | some c => ref + 100 * (j.record.settings.offset - ((if b then j.latchedHeight else j.liveHeight) - c))
      | none => 0
    0 ≤ ref ∧ ref ≤ 100 * (s.group.params.lMax : Int) ∧ ((∀ k, (s.jack k).record.contact = none) → ref = 0) ∧
    (0 < ref → ref < 100 * (s.group.params.lMax : Int) →
      ((Sta.all.map (fun k => error (s.jack k))).sum).natAbs ≤
        50 * (Sta.all.filter (fun k => (s.jack k).record.contact.isSome)).length)

/-! ### Bytes and frames -/

/-- CRX_BYTE and GAP_TIMER_EXPIRY move the receive assembler alone until a frame is complete (R173). -/
def Obligations.AssemblerFollowsItsTable : Prop :=
  ∀ (b : Byte) (s : State), s.pins.resetAsserted = false →
    let at_ (a : Assembler) : State := { s with line := { s.line with asm := a } }
    exec .gapTimerExpiry s = .next (at_ .hunting) ∧
    (s.line.asm = .hunting → exec (.crxByte b true) s = .next s ∧
      exec (.crxByte b false) s = .next (if b = 0xA5 then at_ (.length none) else s)) ∧
    (s.line.asm ≠ .hunting → exec (.crxByte b true) s = .next (at_ .hunting)) ∧
    (s.line.asm = .length none → exec (.crxByte b false) s = .next (at_ (.length (some b)))) ∧
    (∀ hi, s.line.asm = .length (some hi) → exec (.crxByte b false) s =
      .next (at_ (if 2 ≤ 256 * hi.toNat + b.toNat ∧ 256 * hi.toNat + b.toNat ≤ 402 then .collecting (hi ++ b) [] else .hunting))) ∧
    (∀ len taken, s.line.asm = .collecting len taken → taken.length + 1 < len.toNat + 2 →
      exec (.crxByte b false) s = .next (at_ (.collecting len (taken ++ [b]))))

/-- A whole frame on CRX: with a bad CRC-16, or with 7 frames held, it leaves the part as it found it; a kind R175 does not list is
answered UNKNOWN_KIND, a body of another length BAD_LENGTH, with no state changed; any other is taken (R172 to R174). That a
GROUP_COMMAND of a wrong length too is answered with outcome and summary alone is log 39. -/
def Obligations.FramesAreJudgedAtTheirEnd : Prop :=
  ∀ (kind tag : Byte) (body : List Byte) (crc : Half) (s : State), body.length ≤ 400 → s.pins.resetAsserted = false →
    s.line.asm = .hunting →
    runAll ((0xA5 :: coveredBytes kind tag body ++ bytes2 crc).map (fun b => .crxByte b false)) s =
      .next (if crc ≠ crc16 (coveredBytes kind tag body) ∨ 7 ≤ s.line.queue.length then s
        else match bodyLength kind with
          | none => answered (if kind.toNat < 0x80 then kind + 0x80 else 0xFF) tag .unknownKind [] s
          | some n =>
            if body.length ≠ n then answered (kind + 0x80) tag .badLength [] s
            else takeRequest tag (requestOf kind body) s)

/-- Each request row and each arrival of a group command does what its frame does, byte by byte on CRX, to a part whose assembler is
HUNTING (R172 to R175, R190; that a row stands for the completed frame is log 6). -/
def Obligations.RequestRowIsItsFrame : Prop :=
  ∀ (i : Instr) (tag : Byte) (r : Request) (s : State), requestRow i = some (tag, r) → i.wellFormed = true →
    s.pins.resetAsserted = false → s.line.asm = .hunting →
    runAll ((requestBytes tag r).map (fun b => .crxByte b false)) s = exec i s

/-- TRANSMIT_COMPLETION: the frame sent leaves the queue. With nothing pending that is all; with one unmasked record pending and fewer than
5 frames left, its notice is admitted with its more mark (R179, R183). With any number of records, which stand in order of priority, the
unmasked ones are admitted, the highest priority first, until 5 frames are held, and the masked ones stay (R183). RESTART's reply is
admitted like any other, and its completion makes a whole warm reset (R187). -/
def Obligations.TransmitCompletionFreesItsPlace : Prop :=
  (∀ (tag : Byte) (s : State), Ready s → exec (.restart tag) s = .next { s with line := { s.line with queue := s.line.queue ++
    [{ cls := .restartReply, kind := 0xD0, tag := tag, body := 0x00 :: bytes2 (summary s) }] } }) ∧
  ∀ (a b : Bool) (f : Frame) (rest : List Frame) (s : State), s.pins.resetAsserted = false → s.line.queue = f :: rest →
    (f.cls ≠ .restartReply → s.line.pending = [] →
      exec (.transmitCompletion a b) s = .next { s with line := { s.line with queue := rest } }) ∧
    (∀ p, f.cls ≠ .restartReply → s.line.pending = [p] → s.line.mask = 0 → rest.length < 5 →
      exec (.transmitCompletion a b) s = .next { s with line := { s.line with
        pending := []
        queue := rest ++ [eventFrame p.raised p.more { s with line := { s.line with pending := [] } }] } }) ∧
    (f.cls ≠ .restartReply → PendingSafe s → exec (.transmitCompletion a b) s =
      .next ({ s with line := { s.line with queue := rest } } : State).pendingMoved) ∧
    (f.cls = .restartReply → exec (.transmitCompletion a b) s =
      runAll [.warmResetBegin, .warmResetEnd a b] { s with line := { s.line with queue := rest } })

/-! ### Requests -/

/-- The reading requests are answered DONE with their contents, field by field (R178, R3, R25, R92, R185, R160, R191 to R194; a signed
quantity of four bytes that does not fit its field is free: log 14; that STATION_GET has one presence byte before car and corner, and one
before fault kind and prior state, is log 27). They leave everything else as it was, but that STATUS with 0x01
clears the cold mark before its summary is formed, and STATION_GET clears the slip mark after it has reported it (R65). An operand out
of range, and a STATUS byte other than 0x00 and 0x01, is answered BAD_VALUE (R175). -/
def Obligations.ReadingRequestsReport : Prop :=
  ∀ (tag : Byte) (s : State), Ready s →
    let mark (b : Bool) : Byte := if b then 1 else 0
    let signed (x : Int) : List Byte := bytes4 (field32 x)
    let report (x : Int) : List Byte := bytes2 (BitVec.ofInt 16 (max (-32767) (min 32767 x)))
    let present (l : Option (List Byte)) : List Byte := match l with
      | some b => 1 :: b
      | none => [0]
    let stateCode (r : StationRec) : Nat := match r.state with
      | .unassigned => 0 | .idle => 1 | .homing => 2 | .jogging => 3 | .seeking => 4 | .confirming => 5 | .engaged => 6
      | .trimming => 7 | .releasing => 8 | .faulted => if r.prior = some .engaged then 10 else 9
    let outcomes : List SlotOutcome := [.none, .fresh, .overrange, .sensorFault, .stale, .garbled, .late, .silent]
    let kinds : List FaultKind := [.syncTrip, .waitTimeout, .driveSlip, .noContact, .contactUnstable, .noRelease, .overload,
      .loadLoss, .loadSilent, .travelLimit, .twist, .coupling, .runaway]
    let groups : List GroupState := [.setup, .prepared, .engaging, .poised, .moving, .holding, .stopping, .stopped, .landing,
      .lockedOut]
    let corner (o : Option Sta) : Byte := match o with
      | some k => byteOf k.val
      | none => 0xFF
    let listings : List (Option Sta × Nat × Nat) := s.cars.zipIdx.flatMap (fun (c, i) =>
      [(c.fl, i + 1, 0), (c.fr, i + 1, 1), (c.rl, i + 1, 2), (c.rr, i + 1, 3)])
    let counts (t : State) : List Byte :=
      [t.group.cycle, byteOf t.group.faults.length, mark t.group.overflow] ++ bytes2 (pendingKinds t)
        ++ [2 * mark t.line.speed1 + mark t.line.speed0]
    let stationPart (k : Sta) : List Byte :=
      let j := s.jack k
      let r := j.record
      let g := r.settings
      [byteOf k.val, byteOf (stateCode r)]
        ++ present ((listings.find? (fun l => l.1 == some k)).map (fun l => [byteOf l.2.1, byteOf l.2.2]))
        ++ nat2 g.kStep ++ nat2 g.encScale ++ nat2 g.rMax ++ nat4 g.hMax ++ nat2 g.tContact ++ nat2 g.tRelease
        ++ nat2 g.overload ++ nat2 g.loss ++ bytes4 g.homeCount ++ signed g.offset
        ++ present (r.pendingOffset.map signed) ++ [mark r.datumKnown] ++ present (r.contact.map signed)
        ++ present (r.start.map signed) ++ [byteOf r.attempts, byteOf r.confirm]
        ++ present (r.faultKind.map (fun f => [byteOf (kinds.idxOf f + 1), if r.prior = some .engaged then 6 else 1]))
        ++ bytes4 j.pos.count ++ bytes4 j.pos.latched
        ++ present (if r.datumKnown then some (signed j.latchedHeight) else none)
        ++ nat2 j.link.held ++ [byteOf j.link.miss, byteOf (outcomes.idxOf j.link.outcome), mark j.mon.slipMark,
          byteOf j.mon.slipRun, mark j.mon.gateOpen]
    let carPart (n : Nat) : List Byte :=
      byteOf s.cars.length :: present ((s.cars[n - 1]?).map (fun c =>
        [corner c.fl, corner c.fr, corner c.rl, corner c.rr] ++ nat2 c.twistLimit ++ [mark c.coupled] ++ nat2 c.couplingLimit
          ++ present (c.lastTwist.map signed) ++ [mark c.warnRaised] ++ present (c.lastStep.map signed) ++ [mark c.couplingSet]
          ++ [c.fl, c.fr, c.rl, c.rr].map (fun o => match o with
            | some k => mark (s.jack k).imbalance
            | none => 0xFF)))
    let groupPart : List Byte :=
      let p := s.group.params
      [p.lMax, p.vMax, p.gain, p.deadband, p.holdBand, p.tripBand, p.waitLimit, p.engageRate, p.confirmTarget, p.attemptLimit,
       p.window, p.landRate, p.landAccel, p.clearance, p.homeRate, p.jogRate, p.homeWindow, p.twistWarn, p.imbalance,
       p.gateLength, p.slipTolerance, p.slipLimit, p.drift, p.runawayConfirm, p.missLimit, p.lossConfirm].flatMap nat4
        ++ [byteOf (groups.idxOf s.group.state), mark s.group.validated]
        ++ (match s.group.cause with
          | .none => [0x00, 0xFF]
          | .command => [0x10, 0xFF]
          | .permit => [0x11, 0xFF]
          | .reset => [0x12, 0xFF]
          | .fault f x => [byteOf (kinds.idxOf f + 1), match x with
            | .station k => byteOf k.val
            | .car n => byteOf n
            | .coupling n => byteOf n
            | .none => 0xFF])
        ++ [mark s.group.permit] ++ nat2 s.group.waitCount
        ++ [s.group.cycle, byteOf s.group.faults.length, mark s.group.overflow, mark s.group.slot.isSome]
    let snapshotPart : List Byte :=
      let assigned := Sta.all.filter (fun k => (s.jack k).record.state != .unassigned)
      let dir : Nat := match s.sync.dir with | .none => 0 | .up => 1 | .down => 2
      [s.group.cycle, byteOf assigned.length] ++ nat4 s.sync.ref.toNat ++ nat2 (dir * 16384 + s.sync.speed)
        ++ assigned.flatMap (fun k =>
          let j := s.jack k
          [byteOf (outcomes.idxOf j.link.outcome * 32 + k.val),
           byteOf (stateCode j.record * 16 + (mark j.mon.slipMark).toNat * 8 + (mark j.gen.ceiling).toNat * 4
             + (mark j.link.fresh).toNat * 2 + (mark j.mon.gateOpen).toNat)]
            ++ signed (j.latchedHeight - j.record.contact.getD 0) ++ report (roundNearest j.err 100) ++ report j.rate
            ++ nat2 j.link.held)
    let planPart (pending : Bool) (i : Nat) : List Byte :=
      let mode : Byte := match s.plan.segMode with | none => 0 | some .single => 1 | some .chained => 2
      let commit : Byte := match s.plan.commit with | none => 0 | some .replace => 1 | some .append => 2
      (if pending then [mark (s.plan.active == .a), byteOf s.plan.pendingBank.length, mark s.plan.commit.isSome, commit]
        else [mark (s.plan.active == .b), byteOf s.plan.activeBank.length, byteOf s.sync.planPos, mode])
        ++ present ((if pending then s.plan.pendingBank else s.plan.activeBank)[i]?.map (fun g =>
          [if g.kind = .move then 1 else 2, mark g.stopAfter] ++ nat2 g.accel ++ nat4 g.target ++ nat2 g.cruise ++ nat2 g.dwell))
    (∀ i, (pendingKinds s).getLsbD i = s.line.pending.any (fun x => x.raised.event.priority == i + 1)) ∧
    exec (.status tag 0) s = .next (answered 0x81 tag .done (mark s.line.cold :: counts s) s) ∧
    exec (.status tag 1) s = .next (answered 0x81 tag .done (mark s.line.cold :: counts s)
      { s with line := { s.line with cold := false } }) ∧
    (∀ c, c ≠ 0 → c ≠ 1 → exec (.status tag c) s = .next (answered 0x81 tag .badValue [] s)) ∧
    (∀ k : Sta, exec (.stationGet tag (byteOf k.val)) s = .next (answered 0x82 tag .done (stationPart k)
      (s.updJack k (fun j => { j with mon := { j.mon with slipMark := false } })))) ∧
    (∀ i : Byte, 32 ≤ i.toNat → exec (.stationGet tag i) s = .next (answered 0x82 tag .badValue [] s)) ∧
    (∀ n : Byte, 1 ≤ n.toNat → n.toNat ≤ 8 → exec (.carGet tag n) s = .next (answered 0x84 tag .done (carPart n.toNat) s)) ∧
    (∀ n : Byte, n = 0 ∨ 8 < n.toNat → exec (.carGet tag n) s = .next (answered 0x84 tag .badValue [] s)) ∧
    exec (.groupGet tag) s = .next (answered 0x86 tag .done groupPart s) ∧
    exec (.snapshot tag) s = .next (answered 0x90 tag .done snapshotPart s) ∧
    (∀ r k : Byte, r.toNat < 2 → k.toNat < 16 →
      exec (.planRead tag r k) s = .next (answered 0xA1 tag .done (planPart (r == 1) k.toNat) s)) ∧
    (∀ r k : Byte, 2 ≤ r.toNat ∨ 16 ≤ k.toNat → exec (.planRead tag r k) s = .next (answered 0xA1 tag .badValue [] s))

/-- FAULTS_READ (R108): the overflow mark, the number of entries, and each entry from oldest to newest with its kind, subject, cycle
number and class, in every group state; no state changes. -/
def Obligations.FaultsReadListsTheFaults : Prop :=
  ∀ (tag : Byte) (s : State), Ready s →
    exec (.faultsRead tag) s = .next (answered 0x91 tag .done
      ([if s.group.overflow then 1 else 0, byteOf s.group.faults.length] ++
        s.group.faults.flatMap (fun e => [faultCode e.kind, subjectByte e.subject, e.cycle,
          if e.kind = .runaway then 2
          else if e.kind ∈ [.overload, .loadLoss, .loadSilent, .travelLimit, .twist, .coupling] then 1 else 0])) s)

/-- STATION_SET (R4): in SETUP, for a station neither HOMING nor JOGGING, with every marked value in its range of R1, each marked
setting is written and each other kept; a written offset makes the pending offset absent, and a changed encoder scale or home count
the datum UNKNOWN. Otherwise it is refused and changes nothing. -/
def Obligations.StationSetWritesMarkedSettings : Prop :=
  ∀ (tag : Byte) (m : Half) (v : RawSettings) (s : State), Ready s →
    let valid : Prop :=
      (m[0] = true → 100 ≤ v.kStep.toNat ∧ v.kStep.toNat ≤ 20000) ∧ (m[1] = true → 50 ≤ v.encScale.toNat ∧ v.encScale.toNat ≤ 20000) ∧
      (m[2] = true → 1 ≤ v.rMax.toNat ∧ v.rMax.toNat ≤ 20000) ∧ (m[3] = true → 1 ≤ v.hMax.toNat ∧ v.hMax.toNat ≤ 2500000) ∧
      (m[4] = true → 1 ≤ v.tContact.toNat) ∧ (m[5] = true → 1 ≤ v.tRelease.toNat) ∧
      (m[6] = true → 1 ≤ v.overload.toNat ∧ v.overload.toNat ≤ 65534) ∧
      (m[9] = true → -50000 ≤ v.offset.toInt ∧ v.offset.toInt ≤ 50000)
    let written (g : Settings) : Settings :=
      { kStep := if m[0] then v.kStep.toNat else g.kStep
        encScale := if m[1] then v.encScale.toNat else g.encScale
        rMax := if m[2] then v.rMax.toNat else g.rMax
        hMax := if m[3] then v.hMax.toNat else g.hMax
        tContact := if m[4] then v.tContact.toNat else g.tContact
        tRelease := if m[5] then v.tRelease.toNat else g.tRelease
        overload := if m[6] then v.overload.toNat else g.overload
        loss := if m[7] then v.loss.toNat else g.loss
        homeCount := if m[8] then v.homeCount else g.homeCount
        offset := if m[9] then v.offset.toInt else g.offset }
    let refused (i : Byte) (o : ReplyOutcome) : Prop := exec (.stationSet tag i m v) s = .next (answered 0x83 tag o [] s)
    (∀ i : Byte, 32 ≤ i.toNat → refused i .badValue) ∧
    ∀ k : Sta,
      (s.group.state ≠ .setup → refused (byteOf k.val) .wrongState) ∧
      (s.group.state = .setup → (s.jack k).record.state = .homing ∨ (s.jack k).record.state = .jogging →
        refused (byteOf k.val) .wrongState) ∧
      (s.group.state = .setup → (s.jack k).record.state ≠ .homing → (s.jack k).record.state ≠ .jogging →
        (¬ valid → refused (byteOf k.val) .badValue) ∧
        (valid → exec (.stationSet tag (byteOf k.val) m v) s = .next (answered 0x83 tag .done [] (s.updRec k (fun r =>
          { r with
            settings := written r.settings
            pendingOffset := if m[9] then none else r.pendingOffset
            datumKnown := r.datumKnown && decide ((written r.settings).encScale = r.settings.encScale)
              && decide ((written r.settings).homeCount = r.settings.homeCount) })))))

/-- CAR_SET. Refusals first, in the order of R23 and R24: a form other than 0 and 1 with BAD_VALUE before any check; then a car number
outside 1..8 with BAD_VALUE; any state but SETUP with WRONG_STATE; and with BAD_VALUE a number more than one above the count, a corner of
32..254, and a limit outside 100..50,000, the coupling limit where the car is coupled. None of them changes anything but the queue. In SETUP,
record form (R23): car `n` is replaced or added at the end, its marks and those of the coupling in front of it
cleared. Delete form (R24): the highest car is removed, the last step and coupling mark of the coupling in front of it discarded with
it; a lower car, and a car that does not exist, are refused with BAD_VALUE. In both, the imbalance marks of the stations that the car
listed before or after become ARMED, and the assignment of R2 is applied to the whole table: what it leaves of every station, of the
fault list and of a FAULTED station is `AssignmentApplied` (R2, R17, R68; of a move ended but for its last period, log 40). -/
def Obligations.CarSetEditsTheTable : Prop :=
  (∀ (tag n form : Byte) (rest : List Byte) (s : State), Ready s → s.line.asm = .hunting → form ≠ 0 → form ≠ 1 → rest.length = 9 →
    let covered := coveredBytes 0x05 tag (n :: form :: rest)
    runAll ((0xA5 :: covered ++ bytes2 (crc16 covered)).map (fun b => .crxByte b false)) s =
      .next (answered 0x85 tag .badValue [] s)) ∧
  (∀ (tag n : Byte) (r : RawCar) (s : State), Ready s →
    let badNumber : Prop := n.toNat < 1 ∨ 8 < n.toNat
    (badNumber → exec (.carSet tag n r) s = .next (answered 0x85 tag .badValue [] s) ∧
      exec (.carSetDelete tag n) s = .next (answered 0x85 tag .badValue [] s)) ∧
    (¬ badNumber → s.group.state ≠ .setup → exec (.carSet tag n r) s = .next (answered 0x85 tag .wrongState [] s) ∧
      exec (.carSetDelete tag n) s = .next (answered 0x85 tag .wrongState [] s)) ∧
    (¬ badNumber → s.group.state = .setup →
      s.cars.length + 1 < n.toNat ∨ (∃ b ∈ [r.fl, r.fr, r.rl, r.rr], b ≠ 0xFF ∧ 32 ≤ b.toNat) ∨ r.twistLimit.toNat < 100 ∨
        50000 < r.twistLimit.toNat ∨ (r.coupled ≠ 0 ∧ (r.couplingLimit.toNat < 100 ∨ 50000 < r.couplingLimit.toNat)) →
      exec (.carSet tag n r) s = .next (answered 0x85 tag .badValue [] s))) ∧
  (∀ (tag n : Byte) (r : RawCar) (s : State), Ready s → s.group.state = .setup → 1 ≤ n.toNat → n.toNat ≤ 8 →
    n.toNat ≤ s.cars.length + 1 → (∀ b ∈ [r.fl, r.fr, r.rl, r.rr], b = 0xFF ∨ b.toNat < 32) →
    100 ≤ r.twistLimit.toNat → r.twistLimit.toNat ≤ 50000 →
    (r.coupled ≠ 0 → 100 ≤ r.couplingLimit.toNat ∧ r.couplingLimit.toNat ≤ 50000) →
    ∃ t notices, exec (.carSet tag n r) s = .next t ∧
      t.line.queue = s.line.queue ++ { cls := .reply, kind := 0x85, tag := tag, body := 0x00 :: bytes2 (summary s) } :: notices ∧
      t.cars.length = max s.cars.length n.toNat ∧
      t.cars[n.toNat - 1]? = some
        { fl := stationIndex r.fl, fr := stationIndex r.fr, rl := stationIndex r.rl, rr := stationIndex r.rr,
          twistLimit := r.twistLimit.toNat, coupled := r.coupled != 0, couplingLimit := r.couplingLimit.toNat,
          warnRaised := false, lastTwist := none, lastStep := none, couplingSet := false } ∧
      (∀ i, i + 1 ≠ n.toNat → i + 2 ≠ n.toNat → t.cars[i]? = s.cars[i]?) ∧
      (∀ i c, i + 2 = n.toNat → s.cars[i]? = some c → t.cars[i]? = some { c with lastStep := none, couplingSet := false }) ∧
      t.group = { s.group with faults := t.group.faults, overflow := t.group.overflow } ∧ t.sync = s.sync ∧ t.plan = s.plan ∧
      t.pins = s.pins ∧ AssignmentApplied s t ∧
      ∀ k, (t.jack k).link = (s.jack k).link ∧ (t.jack k).imbalance =
        ((s.jack k).imbalance && !listed (s.cars[n.toNat - 1]?.toList ++ t.cars[n.toNat - 1]?.toList) k)) ∧
  ∀ (tag n : Byte) (s : State), Ready s → s.group.state = .setup → 1 ≤ n.toNat → n.toNat ≤ 8 →
    (n.toNat ≠ s.cars.length → exec (.carSetDelete tag n) s = .next (answered 0x85 tag .badValue [] s)) ∧
    (n.toNat = s.cars.length → ∃ t notices, exec (.carSetDelete tag n) s = .next t ∧
      t.line.queue = s.line.queue ++ { cls := .reply, kind := 0x85, tag := tag, body := 0x00 :: bytes2 (summary s) } :: notices ∧
      t.cars.length + 1 = s.cars.length ∧ (∀ i, i + 2 < s.cars.length → t.cars[i]? = s.cars[i]?) ∧
      (∀ i c, i + 2 = s.cars.length → s.cars[i]? = some c → t.cars[i]? = some { c with lastStep := none, couplingSet := false }) ∧
      t.group = { s.group with faults := t.group.faults, overflow := t.group.overflow } ∧ t.sync = s.sync ∧ t.plan = s.plan ∧
      t.pins = s.pins ∧ AssignmentApplied s t ∧
      ∀ k, (t.jack k).link = (s.jack k).link ∧
        (t.jack k).imbalance = ((s.jack k).imbalance && !listed s.cars.getLast?.toList k))

/-- GROUP_SET (R114, R36, R72, R88, R1): in SETUP, with every marked value in its range, each marked parameter is written and each
other kept. Outside SETUP a mark on any parameter but the gain, the deadband and the two percentages is refused with WRONG_STATE,
and a deadband must stay below the hold band. -/
def Obligations.GroupSetWritesMarkedParameters : Prop :=
  ∀ (tag : Byte) (m : Word) (vs : List Word) (s : State), Ready s → vs.length = 26 →
    let v (i : Nat) : Nat := (vs.getD i 0).toNat
    let ranges : List (Nat × Nat) :=
      [(1, 2500000), (1, 8000), (0, 255), (0, 1000), (10, 5000), (11, 20000), (1, 65535), (1, 20000), (1, 15), (1, 7),
       (1, 200000), (1, 8000), (1, 500), (1, 100000), (1, 20000), (1, 20000), (1, 2500000), (50, 100), (5, 100), (4, 32),
       (1, 10000), (1, 15), (1, 1000), (1, 15), (1, 15), (1, 60)]
    let valid : Prop := ∀ i, i < 26 → m.getLsbD i = true →
      (ranges.getD i (0, 0)).1 ≤ v i ∧ v i ≤ (ranges.getD i (0, 0)).2 ∧ (i = 19 → v i ∈ [4, 8, 16, 32])
    let refused (o : ReplyOutcome) : Prop := exec (.groupSet tag m vs) s = .next (answered 0x87 tag o [] s)
    let setupOnly : Prop := ∃ i, i < 26 ∧ i ∉ [2, 3, 17, 18] ∧ m.getLsbD i = true
    (s.group.state ≠ .setup → setupOnly → refused .wrongState) ∧
    (s.group.state = .setup ∨ ¬ setupOnly → ¬ valid → refused .badValue) ∧
    (s.group.state ≠ .setup → ¬ setupOnly → valid → m.getLsbD 3 = true → s.group.params.holdBand ≤ v 3 → refused .badValue) ∧
    (valid → s.group.state = .setup ∨ (¬ setupOnly ∧ (m.getLsbD 3 = true → v 3 < s.group.params.holdBand)) →
      ∃ p : GroupParams, exec (.groupSet tag m vs) s =
          .next (answered 0x87 tag .done [] { s with group := { s.group with params := p } }) ∧
        ∀ i, i < 26 → p.toList.getD i 0 = if m.getLsbD i then v i else s.group.params.toList.getD i 0)

/-- EVENT_MASK is written whole but for bit 15 and answered with the mask and the kinds pending (R184); where nothing is pending
nothing moves; otherwise the records that the new mask leaves unmasked follow the reply, in order of priority, while fewer than 5
frames are held (R183). An event handed over meets the mask and the pending set as R182 says, the STRAY of a byte outside the slots among
them (R81). STREAM sets the period and clears the count, and refuses a period other than 0 and 5..1,000. STREAM_SNAPSHOT_DUE: the
count becomes 0, and the snapshot takes the place of one that waits, is skipped behind one being sent, or is admitted where none is
held and fewer than 5 frames are (R186). -/
def Obligations.MaskAndStreamAreSet : Prop :=
  (∀ (tag : Byte) (x : Half) (s : State), Ready s →
    (s.line.pending = [] → exec (.eventMask tag x) s = .next (answered 0x92 tag .done (bytes2 (x &&& 0x7FFF) ++ [0, 0])
      { s with line := { s.line with mask := x &&& 0x7FFF } })) ∧
    (PendingSafe s → exec (.eventMask tag x) s = .next (answered 0x92 tag .done (bytes2 (x &&& 0x7FFF) ++ bytes2 (pendingKinds s))
      { s with line := { s.line with mask := x &&& 0x7FFF } }).pendingMoved) ∧
    (x = 0 ∨ (5 ≤ x.toNat ∧ x.toNat ≤ 1000) → exec (.stream tag x) s = .next (answered 0x93 tag .done (bytes2 x)
      { s with line := { s.line with streamPeriod := x.toNat, streamCount := 0 } })) ∧
    (x ≠ 0 → x.toNat < 5 ∨ 1000 < x.toNat → exec (.stream tag x) s = .next (answered 0x93 tag .badValue [] s))) ∧
  (∀ s : State, Acting s → (∀ e, EventTaken e s (handOver (raise e s))) ∧
    (∀ (b : Byte) (x : Bool), s.link.lde = false → s.link.started = true → ∀ w ∈ [LinkWindow.beacon, .quiet],
      ∃ t, exec (.loadByteReceived w b x) s = .next t ∧ EventTaken (.stray 32 none) s t)) ∧
  ∀ s : State, s.pins.resetAsserted = false → s.line.streamPeriod ≠ 0 → s.line.streamPeriod ≤ s.line.streamCount + 1 →
    ((∀ f ∈ s.line.queue, f.cls ≠ .snapshotNotice) →
      exec .streamSnapshotDue s = .next { s with line := { s.line with
        streamCount := 0
        queue := if s.line.queue.length < 5 then s.line.queue ++ [snapshotFrame s] else s.line.queue } }) ∧
    (∀ f rest, s.line.queue = f :: rest → f.cls = .snapshotNotice →
      exec .streamSnapshotDue s = .next { s with line := { s.line with streamCount := 0 } }) ∧
    (∀ f before g after, s.line.queue = f :: before ++ g :: after → f.cls ≠ .snapshotNotice → g.cls = .snapshotNotice →
      (∀ x ∈ before ++ after, x.cls ≠ .snapshotNotice) →
      exec .streamSnapshotDue s = .next { s with line := { s.line with
        streamCount := 0, queue := f :: before ++ snapshotFrame s :: after } })

/-- PLAN_WRITE (R157, R158): a record written at an index no greater than the pending bank's length, with a MOVE's target and cruise
rate clamped to the limits held; a QUEUED bank, a gap, an index above 15 or a field out of range is refused. PLAN_CLEAR (R159): an
EDITABLE pending bank loses every segment, an empty one too; a QUEUED one is refused with BANK_QUEUED; the taken mark is not changed.
Both in every group state. -/
def Obligations.PlanWriteStoresClampedSegments : Prop :=
  (∀ (tag : Byte) (s : State), Ready s →
    (s.plan.commit.isSome = true → exec (.planClear tag) s = .next (answered 0xA2 tag .bankQueued [] s)) ∧
    (s.plan.commit = none → exec (.planClear tag) s = .next (answered 0xA2 tag .done [] { s with plan :=
      match s.plan.active with
      | .a => { s.plan with bankB := [] }
      | .b => { s.plan with bankA := [] } }))) ∧
  ∀ (tag k : Byte) (r : RawSegment) (s : State), Ready s →
    let p := s.group.params
    let refused (o : ReplyOutcome) : Prop := exec (.planWrite tag k r) s = .next (answered 0xA0 tag o [] s)
    let bank (l : List Segment) : Plan := match s.plan.active with
      | .a => { s.plan with bankB := l }
      | .b => { s.plan with bankA := l }
    let old := s.plan.pendingBank
    let written (g : Segment) (o : ReplyOutcome) : Prop :=
      exec (.planWrite tag k r) s = .next (answered 0xA0 tag o []
        { s with plan := bank (if k.toNat < old.length then old.set k.toNat g else old ++ [g]) })
    (16 ≤ k.toNat → refused .badValue) ∧
    (k.toNat < 16 → s.plan.commit.isSome = true → refused .bankQueued) ∧
    (k.toNat < 16 → s.plan.commit = none → old.length < k.toNat → refused .badValue) ∧
    (k.toNat < 16 → s.plan.commit = none → k.toNat ≤ old.length →
      (r.accel = 0 ∨ 500 < r.accel.toNat ∨ (r.kind ≠ 1 ∧ r.kind ≠ 2) ∨ (r.kind = 1 ∧ r.cruise = 0) ∨
        (r.kind = 2 ∧ (r.dwell = 0 ∨ 60000 < r.dwell.toNat)) → refused .badValue) ∧
      (1 ≤ r.accel.toNat → r.accel.toNat ≤ 500 → r.kind = 1 → 1 ≤ r.cruise.toNat →
        written
          { kind := .move, target := min r.target.toNat p.lMax, cruise := min r.cruise.toNat p.vMax,
            accel := r.accel.toNat, dwell := 0, stopAfter := r.stopAfter != 0 }
          (if p.lMax < r.target.toNat ∨ p.vMax < r.cruise.toNat then .clamped else .done)) ∧
      (1 ≤ r.accel.toNat → r.accel.toNat ≤ 500 → r.kind = 2 → 1 ≤ r.dwell.toNat → r.dwell.toNat ≤ 60000 →
        written
          { kind := .dwell, target := 0, cruise := 0, accel := r.accel.toNat, dwell := r.dwell.toNat,
            stopAfter := r.stopAfter != 0 } .done))

/-- COMMIT makes an EDITABLE bank of one segment at least QUEUED with the kind carried and the taken mark CLEAR (R161). WITHDRAW makes a
QUEUED bank EDITABLE with its segments kept; an EDITABLE one is answered TOO_LATE where the taken mark is SET and WRONG_STATE where it
is CLEAR (R165). PLAN_MODE sets the run mode, and any other value is refused (R166). In every group state. -/
def Obligations.CommitsAreQueuedAndWithdrawn : Prop :=
  (∀ (tag : Byte) (s : State), Ready s → ∀ row kind, (row, kind) ∈
      [(Instr.commitReplace tag, CommitKind.replace), (Instr.commitAppend tag, CommitKind.append)] →
    (s.plan.commit.isSome = true → exec row s = .next (answered 0xA3 tag .bankQueued [] s)) ∧
    (s.plan.commit = none → s.plan.pendingBank = [] → exec row s = .next (answered 0xA3 tag .empty [] s)) ∧
    (s.plan.commit = none → s.plan.pendingBank ≠ [] → exec row s = .next (answered 0xA3 tag .done []
      { s with plan := { s.plan with commit := some kind, taken := false } }))) ∧
  ∀ (tag : Byte) (s : State), Ready s →
    (s.plan.commit.isSome = true → exec (.withdraw tag) s = .next (answered 0xA4 tag .done []
      { s with plan := { s.plan with commit := none } })) ∧
    (s.plan.commit = none → exec (.withdraw tag) s =
      .next (answered 0xA4 tag (if s.plan.taken then .tooLate else .wrongState) [] s)) ∧
    ∀ m : Byte, exec (.planMode tag m) s = .next (
      if m = 1 then answered 0xA5 tag .done [] { s with plan := { s.plan with mode := .single } }
      else if m = 2 then answered 0xA5 tag .done [] { s with plan := { s.plan with mode := .chained } }
      else answered 0xA5 tag .badValue [] s)

/-- JOG of an IDLE station in SETUP or PREPARED and TRIM of an ENGAGED one in STOPPED, and of a station FAULTED with TRAVEL_LIMIT, the
prior state IDLE or ENGAGED, and no counted move: the distance is cut at the end of the travel while the datum is KNOWN, and the
generator starts the counted move at the smaller of the jog rate and r_max, with the brake released; a FAULTED station stays FAULTED
meanwhile; a move of 0 steps starts nothing and raises STATION_DONE at once (R5, R6, R45, R50). That the record says whether the move
was taken while FAULTED is the model's (log 25). -/
def Obligations.JogAndTrimStartCountedMoves : Prop :=
  ∀ (tag : Byte) (k : Sta) (d : Word) (s : State), Ready s → BrakesSafe s → s.group.permit = true →
    -100000 ≤ d.toInt → d.toInt ≤ 100000 → (s.jack k).gen.run = .idle →
    ∀ row op code, (row, op, code) ∈ [(Instr.jog tag (byteOf k.val) d, Operation.jog, (0xB0 : Byte)),
        (Instr.trim tag (byteOf k.val) d, Operation.trim, (0xB2 : Byte))] →
    let recovering (p : Prior) : Prop := (s.jack k).record.state = .faulted ∧
      (s.jack k).record.faultKind = some .travelLimit ∧ (s.jack k).record.prior = some p ∧ (s.jack k).record.move = none
    ((op = .jog ∧ ((s.jack k).record.state = .idle ∨ recovering .idle) ∧ (s.group.state = .setup ∨ s.group.state = .prepared)) ∨
      (op = .trim ∧ ((s.jack k).record.state = .engaged ∨ recovering .engaged) ∧ s.group.state = .stopped)) →
    let j := s.jack k
    let h := j.liveHeight
    let top : Int := j.record.settings.hMax
    let moved : Int := if j.record.datumKnown = true then
        (if 0 < d.toInt then min d.toInt (max 0 (top - h)) else max d.toInt (min 0 (-h))) else d.toInt
    let steps := (2 * (moved.natAbs * j.record.settings.kStep) + 1000) / 2000
    let rate := min s.group.params.jogRate j.record.settings.rMax
    let outcome : ReplyOutcome := if moved = d.toInt then .done else .clamped
    let dir : Dir := if 0 < moved then .up else .down
    (0 < steps → exec row s = .next (answered code tag outcome [] (s.updJack k (fun j =>
      { j with
        record := { j.record with
          state := if j.record.state = .faulted then .faulted else if op = .jog then .jogging else .trimming
          move := some { op := op, underFault := j.record.state == .faulted, done := false } }
        gen := { j.gen with
          run := .counted, divisor := some (divisorOf rate j.record.settings.kStep), dir := dir
          dirHigh := if j.gen.stepHigh then j.gen.dirHigh else dir == .up
          pending := none, remaining := steps, ceiling := heldAtCeiling rate j.record.settings.kStep, brake := .released } })))) ∧
    (steps = 0 → RoomFor 2 s → exec row s = .next (noticed (.stationDone k op .ok) (answered code tag outcome [] s)))

/-- HOME of an IDLE station in SETUP or PREPARED: the datum becomes UNKNOWN and the generator starts a downward counted move of the
home window; with the HOME input active already, the count is preset at once and STATION_DONE HOME OK raised (R7, R8, R69). -/
def Obligations.HomeSeeksTheSwitch : Prop :=
  ∀ (tag : Byte) (k : Sta) (s : State), Ready s → BrakesSafe s → s.group.permit = true →
    (s.group.state = .setup ∨ s.group.state = .prepared) → (s.jack k).record.state = .idle → (s.jack k).gen.run = .idle →
    let j := s.jack k
    let steps := (2 * (s.group.params.homeWindow * j.record.settings.kStep) + 1000) / 2000
    let rate := min s.group.params.homeRate j.record.settings.rMax
    (j.homeLow = false → 0 < steps → exec (.home tag (byteOf k.val)) s = .next (answered 0xB1 tag .done []
      (s.updJack k (fun j =>
        { j with
          record := { j.record with
            state := .homing, datumKnown := false, move := some { op := .home, underFault := false, done := false } }
          gen := { j.gen with
            run := .counted, divisor := some (divisorOf rate j.record.settings.kStep), dir := .down
            dirHigh := if j.gen.stepHigh then j.gen.dirHigh else false
            pending := none, remaining := steps, ceiling := heldAtCeiling rate j.record.settings.kStep
            brake := .released } })))) ∧
    (j.homeLow = true → RoomFor 2 s → exec (.home tag (byteOf k.val)) s = .next (noticed (.stationDone k .home .ok)
      (answered 0xB1 tag .done [] (s.updJack k (fun j =>
        { j with
          pos := { j.pos with count := j.record.settings.homeCount }
          record := { j.record with datumKnown := true }
          mon := { j.mon with rest := j.record.settings.homeCount } })))))

/-- The checks of R5 in order; the first that fails gives the outcome, and a refused operation changes no state. HOME, JOG and TRIM: the
index, the assignment, the group state, the station state, the distance of JOG and TRIM, the permit. SET_OFFSET: the index, the
assignment, the group state, the offset's range, the geometry check of R14. -/
def Obligations.StationOperationsAreRefusedInOrder : Prop :=
  ∀ (tag i : Byte) (d : Word) (s : State), Ready s →
    (∀ row code op, (row, code, op) ∈ [(Instr.home tag i, (0xB1 : Byte), Operation.home), (Instr.jog tag i d, 0xB0, .jog),
        (Instr.trim tag i d, 0xB2, .trim)] →
      let refused (o : ReplyOutcome) : Prop := exec row s = .next (answered code tag o [] s)
      (32 ≤ i.toNat → refused .badValue) ∧
      ∀ k : Sta, i = byteOf k.val →
        let r := (s.jack k).record
        let groupState : Prop := s.group.state ∈ if op = .trim then [GroupState.stopped] else [.setup, .prepared]
        let stationState : Prop := r.state = (if op = .trim then .engaged else .idle) ∨
          (op ≠ .home ∧ r.state = .faulted ∧ r.faultKind = some .travelLimit ∧ r.move = none ∧
            r.prior = some (if op = .trim then .engaged else .idle))
        let range : Prop := op = .home ∨ (-100000 ≤ d.toInt ∧ d.toInt ≤ 100000)
        (r.state = .unassigned → refused .unassigned) ∧
        (r.state ≠ .unassigned → ¬ groupState → refused .wrongState) ∧
        (r.state ≠ .unassigned → groupState → ¬ stationState → refused .wrongState) ∧
        (groupState → stationState → ¬ range → refused .badValue) ∧
        (groupState → stationState → range → s.group.permit = false → refused .permitLow)) ∧
    let refused (o : ReplyOutcome) : Prop := exec (.setOffset tag i d) s = .next (answered 0xB5 tag o [] s)
    (32 ≤ i.toNat → refused .badValue) ∧
    ∀ k : Sta, i = byteOf k.val →
      let groupState : Prop := s.group.state ∈ [GroupState.prepared, .poised, .holding, .stopped]
      let range : Prop := -50000 ≤ d.toInt ∧ d.toInt ≤ 50000
      ((s.jack k).record.state = .unassigned → refused .unassigned) ∧
      ((s.jack k).record.state ≠ .unassigned → ¬ groupState → refused .wrongState) ∧
      ((s.jack k).record.state ≠ .unassigned → groupState → ¬ range → refused .badValue) ∧
      ((s.jack k).record.state ≠ .unassigned → groupState → range →
        offsetFailure s.cars (fun x => if x = k then d.toInt
          else (s.jack x).record.pendingOffset.getD (s.jack x).record.settings.offset) ≠ none → refused .geometry)

/-- OPEN_GATE discards the slip gate in progress, sets the tallies and the open-cycle count to 0 and the gate-open mark; CLOSE_GATE
reports the tallies and the count as they stood and clears all of them. The slip mark and run count are kept (R66, R68). -/
def Obligations.CalibrationGatesOpenAndClose : Prop :=
  ∀ (tag : Byte) (k : Sta) (s : State), Ready s →
    ((s.jack k).record.state ∈ [.idle, .jogging, .homing] → (s.group.state = .setup ∨ s.group.state = .prepared) →
      (s.jack k).mon.gateOpen = false →
      exec (.openGate tag (byteOf k.val)) s = .next (answered 0xB3 tag .done [] (s.updJack k (fun j => { j with mon :=
        { j.mon with gate := none, gateOpen := true, stepTally := 0, edgeTally := 0, openCycles := 0 } })))) ∧
    ((s.jack k).mon.gateOpen = true →
      exec (.openGate tag (byteOf k.val)) s = .next (answered 0xB3 tag
        (if (s.jack k).record.state = .unassigned then .unassigned else .wrongState) [] s) ∧
      exec (.closeGate tag (byteOf k.val)) s = .next (answered 0xB4 tag .done
        (nat4 (s.jack k).mon.stepTally.toNat ++ nat4 (s.jack k).mon.edgeTally.toNat ++ nat2 (s.jack k).mon.openCycles)
        (s.updJack k (fun j => { j with mon :=
          { j.mon with gate := none, gateOpen := false, stepTally := 0, edgeTally := 0, openCycles := 0 } })))) ∧
    ((s.jack k).mon.gateOpen = false →
      exec (.closeGate tag (byteOf k.val)) s = .next (answered 0xB4 tag .wrongState [] s))

/-- SET_OFFSET places the offset as the station's pending offset where the offsets as they would stand pass the validation of R34, and
is answered GEOMETRY where they do not (R13, R14). PENDING_OFFSET_TAKE makes each pending offset the offset (R15). The validation goes
car by car, each car before the coupling behind it, and gives the first failure as an index: a car with four corners whose offset
twist is beyond its limit by its number, and an existing coupling between whose ends' mean offsets the step is beyond its limit as 16
and its number (R34; the mean of an end is that of O20). -/
def Obligations.OffsetsWaitForTheCycleStart : Prop :=
  (∀ (tag : Byte) (k : Sta) (o : Word) (s : State), Ready s → (s.jack k).record.state ≠ .unassigned →
    s.group.state ∈ [.prepared, .poised, .holding, .stopped] → -50000 ≤ o.toInt → o.toInt ≤ 50000 →
    let after (i : Sta) : Int := if i = k then o.toInt
      else (s.jack i).record.pendingOffset.getD (s.jack i).record.settings.offset
    exec (.setOffset tag (byteOf k.val) o) s = .next (
      if offsetFailure s.cars after = none then
        answered 0xB5 tag .done [] (s.updRec k (fun r => { r with pendingOffset := some o.toInt }))
      else answered 0xB5 tag .geometry [] s)) ∧
  (∀ (cars : List Car) (o : Sta → Int),
    let twisted (c : Car) : Bool := match c.fl, c.fr, c.rl, c.rr with
      | some fl, some fr, some rl, some rr => decide (c.twistLimit < ((o fl + o rr) - (o fr + o rl)).natAbs)
      | _, _, _, _ => false
    let mean (x y : Option Sta) : Option Int := meanOf [x.map o, y.map o]
    let stepped (c d : Car) : Bool := match mean c.rl c.rr, mean d.fl d.fr with
      | some rear, some front => decide (c.couplingLimit < (rear - front).natAbs)
      | _, _ => false
    let failures : List Nat := (List.range cars.length).flatMap (fun i =>
      ((cars[i]?).toList.filter twisted).map (fun _ => i + 1) ++
        match cars[i]?, cars[i + 1]? with
        | some c, some d => if c.coupled && stepped c d then [16 + (i + 1)] else []
        | _, _ => [])
    offsetFailure cars o = failures.head?) ∧
  ∀ s : State, s.pins.resetAsserted = false →
    exec .pendingOffsetTake s = .next (s.updAll (fun _ j => { j with record := { j.record with
      settings := { j.record.settings with offset := j.record.pendingOffset.getD j.record.settings.offset }
      pendingOffset := none } }))

/-! ### Group commands -/

/-- GROUP_COMMAND (R94): a code not in the table is answered BAD_VALUE at once and not placed; a known code is placed in an empty slot
with its tag and command, without a reply, and answered BUSY and discarded where the slot is occupied. The arrival of a group
command's row is the request with its code. -/
def Obligations.GroupCommandsWaitInTheSlot : Prop :=
  ∀ (code tag : Byte) (s : State), Ready s →
    let codes : List (Byte × GroupCommand) :=
      [(0x01, .setupDone), (0x02, .resetup), (0x03, .engage), (0x04, .run), (0x05, .continueRun), (0x06, .stop), (0x07, .resume),
       (0x08, .land), (0x09, .ackFaults), (0x0A, .clearLockout)]
    let answer (o : ReplyOutcome) : State := answered 0xC0 tag o [0, 0, code, s.group.cycle] s
    ((∀ p ∈ codes, p.1 ≠ code) → takeRequest tag (.groupCommand code) s = answer .badValue) ∧
    ∀ c, (code, c) ∈ codes → exec (c.row (.arrival tag)) s = .next (takeRequest tag (.groupCommand code) s) ∧
      (s.group.slot = none → exec (c.row (.arrival tag)) s =
        .next { s with group := { s.group with slot := some { tag := tag, command := c } } }) ∧
      (s.group.slot.isSome = true → exec (c.row (.arrival tag)) s = .next (answer .busy))

/-- The execution of a waiting group command in a group state that does not take it is answered WRONG_STATE, and one that needs the
permit PERMIT_LOW while it is LOW; the slot is emptied and nothing else changes (R95 to R101, R107, R110). -/
def Obligations.ExecutionIsRefusedByStateAndPermit : Prop :=
  ∀ (c : GroupCommand) (tag : Byte) (s : State), Waiting c tag 0 s → BrakesSafe s →
    let taken : List GroupState := match c with
      | .setupDone => [.setup] | .resetup => [.prepared, .stopped] | .engage => [.prepared] | .run => [.poised]
      | .continueRun => [.holding] | .stop => [.poised, .moving, .holding] | .resume => [.stopped]
      | .land => [.poised, .holding, .stopped] | .ackFaults => [.stopped, .prepared] | .clearLockout => [.lockedOut]
    let refused (o : ReplyOutcome) : Prop := exec (c.row .execution) s = .next (answered 0xC0 tag o
      [0, 0, commandCode c, s.group.cycle] { s with group := { s.group with slot := none } })
    (s.group.state ∉ taken → refused .wrongState) ∧
    (s.group.state ∈ taken → c ∈ [.engage, .run, .continueRun, .resume, .land] → s.group.permit = false → refused .permitLow)

/-- SETUP_DONE (R96): where the eight requirements hold, the group is validated and enters PREPARED with its reference 0. Where one
fails, BAD_CONFIG carries the number of the first that fails and what failed: nothing further (checks 1 and 6), the lowest car, the
station whose second listing comes first (log 34), the last car, the lowest station, nothing further where L_max is 0 and else the
lowest station with the smallest H_max, and the index of R34; nothing but the slot changes. -/
def Obligations.SetupDoneValidatesTheConfiguration : Prop :=
  ∀ (tag : Byte) (s : State), Waiting .setupDone tag 1 s → BrakesSafe s → s.group.state = .setup →
    let p := s.group.params
    let hMax (k : Sta) : Nat := (s.jack k).record.settings.hMax
    let assigned (k : Sta) : Prop := (s.jack k).assigned = true
    let ends (c : Car) : Prop := (c.fl.isSome ∨ c.fr.isSome) ∧ (c.rl.isSome ∨ c.rr.isSome)
    let listing : List Sta := s.cars.flatMap (fun c => [c.fl, c.fr, c.rl, c.rr].filterMap id)
    let ordered (k : Sta) : Prop := (s.jack k).record.settings.loss < (s.jack k).record.settings.tRelease ∧
      (s.jack k).record.settings.tRelease < (s.jack k).record.settings.tContact ∧
      (s.jack k).record.settings.tContact < (s.jack k).record.settings.overload
    let ok1 : Prop := s.cars ≠ []
    let ok2 : Prop := ok1 ∧ ∀ c ∈ s.cars, ends c
    let ok3 : Prop := ok2 ∧ listing.Nodup
    let ok4 : Prop := ok3 ∧ ∀ c, s.cars.getLast? = some c → c.coupled = false
    let ok5 : Prop := ok4 ∧ ∀ k, assigned k → ordered k
    let ok6 : Prop := ok5 ∧ p.deadband < p.holdBand ∧ p.holdBand < p.tripBand
    let ok7 : Prop := ok6 ∧ 0 < p.lMax ∧ ∀ k, assigned k → p.lMax ≤ hMax k
    let offsets : Option Nat := offsetFailure s.cars (fun k => (s.jack k).record.settings.offset)
    let fails (check index : Nat) : Prop := exec (.setupDone .execution) s = .next
      (answered 0xC0 tag .badConfig [byteOf check, byteOf index, 0x01, s.group.cycle]
        { s with group := { s.group with slot := none } })
    (ok7 → offsets = none → exec (.setupDone .execution) s = .next (noticed (.state .setup .prepared)
      (answered 0xC0 tag .done [0, 0, 0x01, s.group.cycle] { s with
        group := { s.group with slot := none, validated := true, state := .prepared }
        sync := { s.sync with ref := 0, speed := 0, dir := .none } }))) ∧
    (¬ ok1 → fails 1 0) ∧
    (∀ i c, ok1 → s.cars[i]? = some c → ¬ ends c → (∀ j d, j < i → s.cars[j]? = some d → ends d) → fails 2 (i + 1)) ∧
    (∀ before k behind, ok2 → listing = before ++ k :: behind → before.Nodup → k ∈ before → fails 3 k.val) ∧
    (∀ c, ok3 → s.cars.getLast? = some c → c.coupled = true → fails 4 s.cars.length) ∧
    (∀ k, ok4 → assigned k → ¬ ordered k → (∀ i, i < k → assigned i → ordered i) → fails 5 k.val) ∧
    (ok5 → ¬ (p.deadband < p.holdBand ∧ p.holdBand < p.tripBand) → fails 6 0) ∧
    (ok6 → p.lMax = 0 → fails 7 0) ∧
    (∀ k, ok6 → 0 < p.lMax → assigned k → hMax k < p.lMax → (∀ i, assigned i → hMax k ≤ hMax i) →
      (∀ i, i < k → assigned i → hMax k < hMax i) → fails 7 k.val) ∧
    ∀ n, ok7 → offsets = some n → fails 8 n

/-- RESETUP (R97): from PREPARED, and from STOPPED where no contact height is held, the group enters SETUP unvalidated, with stop cause
NONE; faults, records and station states are kept. From STOPPED with a contact height held it is refused with LOADED. -/
def Obligations.ResetupReopensTheConfiguration : Prop :=
  ∀ (tag : Byte) (s : State), Waiting .resetup tag 1 s → BrakesSafe s →
    ((s.group.state = .prepared ∨ (s.group.state = .stopped ∧ anyContact s = false)) →
      (∀ k m, (s.jack k).record.move = some m → m.op ≠ .trim) →
      exec (.resetup .execution) s = .next (noticed (.state s.group.state .setup)
        (answered 0xC0 tag .done [0, 0, 0x02, s.group.cycle] { s with
          group := { s.group with slot := none, validated := false, cause := .none, state := .setup }
          sync := { s.sync with ref := 0, speed := 0, dir := .none } }))) ∧
    (s.group.state = .stopped → anyContact s = true → exec (.resetup .execution) s = .next
      (answered 0xC0 tag .loaded [0, 0, 0x02, s.group.cycle] { s with group := { s.group with slot := none } }))

/-- ENGAGE (R98, R142): every assigned station, IDLE with its datum KNOWN, goes into SEEKING from its latched height with its brake
released, and the group into ENGAGING. A station that is not IDLE, an unknown datum or an open gate refuses it. -/
def Obligations.EngageTakesEveryStationIntoSeeking : Prop :=
  ∀ (tag : Byte) (s : State), Waiting .engage tag 1 s → BrakesSafe s → s.group.state = .prepared → s.group.permit = true →
    let refused (o : ReplyOutcome) : Prop := exec (.engage .execution) s = .next
      (answered 0xC0 tag o [0, 0, 0x03, s.group.cycle] { s with group := { s.group with slot := none } })
    let idle : Prop := ∀ k, (s.jack k).assigned = true → (s.jack k).record.state = .idle
    let known : Prop := ∀ k, (s.jack k).assigned = true → (s.jack k).record.datumKnown = true
    let closed : Prop := ∀ k, (s.jack k).mon.gateOpen = false
    (¬ idle → refused .wrongState) ∧ (idle → ¬ known → refused .noDatum) ∧ (idle → known → ¬ closed → refused .wrongState) ∧
    (idle → known → closed → exec (.engage .execution) s = .next (noticed (.state .prepared .engaging)
      (answered 0xC0 tag .done [0, 0, 0x03, s.group.cycle]
        { s.updAll (fun _ j => if j.record.state = .idle then
            { j with
              record := { j.record with
                state := .seeking, start := some j.latchedHeight, attempts := 0, confirm := 0, contact := none }
              gen := { j.gen with brake := .released } }
            else j) with
          group := { s.group with slot := none, cause := .none, waitCount := 0, state := .engaging } })))

/-- RUN in POISED and CONTINUE in HOLDING (R99, R122, R166, R167): the group enters MOVING with stop cause NONE, the segment at the plan
position starts in the run mode held, toward its target or with its dwell count, and PLAN_LOW is raised where it is a chained plan's
last without an APPEND queued, after STATE (log 10); RUN clears the wait count and CONTINUE keeps it. Without a segment it is refused
with EMPTY. -/
def Obligations.RunAndContinueStartTheSegment : Prop :=
  ∀ (tag : Byte) (s : State), BrakesSafe s → s.group.permit = true →
    ∀ c start, (c, start) ∈ [(GroupCommand.run, GroupState.poised), (.continueRun, .holding)] → Waiting c tag 2 s →
    s.group.state = start →
    (s.plan.activeBank.length ≤ s.sync.planPos → exec (c.row .execution) s = .next
      (answered 0xC0 tag .empty [0, 0, commandCode c, s.group.cycle] { s with group := { s.group with slot := none } })) ∧
    (∀ g, s.plan.activeBank[s.sync.planPos]? = some g → s.sync.speed = 0 →
      let target : Int := 100 * ((min g.target s.group.params.lMax : Nat) : Int)
      let low : Bool := s.sync.planPos + 1 == s.plan.activeBank.length && s.plan.mode == .chained && s.plan.commit != some .append
      let moving : State := noticed (.state start .moving) (answered 0xC0 tag .done [0, 0, commandCode c, s.group.cycle]
        { s with
          group := { s.group with
            slot := none, cause := .none, state := .moving
            waitCount := if c = .run then 0 else s.group.waitCount }
          plan := { s.plan with segMode := some s.plan.mode }
          sync := { s.sync with
            dir := if g.kind = .dwell then .none
              else if s.sync.ref < target then .up else if target < s.sync.ref then .down else .none
            dwell := if g.kind = .dwell then some (s.sync.dwell.getD g.dwell) else s.sync.dwell } })
      exec (c.row .execution) s =
        .next (if low then noticed (.planLow s.plan.active s.sync.planPos) moving else moving))

/-- RESUME (R100, R122, R166, R167, R12): with no station FAULTED and every assigned station ENGAGED or TRIMMING, the group enters MOVING
with stop cause NONE where the plan holds a segment, and that segment starts from the present reference with speed 0: a MOVE toward its
target, a DWELL with what was left of its count; or it enters HOLDING where the plan holds none. STATE is raised, and PLAN_LOW for a
chained plan's last segment without an APPEND queued. Every trim in progress ends in the stop form with STATION_DONE TRIM
ABORTED, its station still TRIMMING (R12, R47; its generator left as log 29 says); the engaged stations' brakes are released. A FAULTED station
refuses it with FAULTS_OPEN, and after that an assigned one neither ENGAGED nor TRIMMING with WRONG_STATE. -/
def Obligations.ResumeGoesOnFromTheReference : Prop :=
  ∀ (tag : Byte) (s : State), Waiting .resume tag 1 s → BrakesSafe s → s.group.state = .stopped → s.group.permit = true →
    let freed (t : State) : State := t.updAll (fun _ j =>
      if j.record.state = .engaged then { j with gen := { j.gen with brake := .released } } else j)
    ((∃ k, (s.jack k).record.state = .faulted) → exec (.resume .execution) s = .next
      (answered 0xC0 tag .faultsOpen [0, 0, 0x07, s.group.cycle] { s with group := { s.group with slot := none } })) ∧
    ((∀ k, (s.jack k).record.state ≠ .faulted) →
      (∃ k, (s.jack k).record.state ∉ [.engaged, .trimming, .unassigned]) → exec (.resume .execution) s = .next
        (answered 0xC0 tag .wrongState [0, 0, 0x07, s.group.cycle] { s with group := { s.group with slot := none } })) ∧
    ((∀ k, (s.jack k).record.state = .engaged ∨ (s.jack k).record.state = .unassigned) →
      (∀ k, (s.jack k).record.move = none) →
      (∀ g, s.plan.activeBank[s.sync.planPos]? = some g → s.sync.planPos + 1 < s.plan.activeBank.length → g.kind = .move →
        exec (.resume .execution) s = .next (freed (noticed (.state .stopped .moving)
          (answered 0xC0 tag .done [0, 0, 0x07, s.group.cycle] { s with
            group := { s.group with slot := none, cause := .none, state := .moving }
            plan := { s.plan with segMode := some s.plan.mode }
            sync := { s.sync with
              speed := 0
              dir := if s.sync.ref < effectiveTarget s.group.params g then .up
                else if effectiveTarget s.group.params g < s.sync.ref then .down else .none } })))) ∧
      (s.plan.activeBank.length ≤ s.sync.planPos → exec (.resume .execution) s = .next (freed
        (noticed (.state .stopped .holding) (answered 0xC0 tag .done [0, 0, 0x07, s.group.cycle] { s with
          group := { s.group with slot := none, cause := .none, state := .holding }
          sync := { s.sync with speed := 0, dir := .none } }))))) ∧
    ((∀ k, (s.jack k).record.state ∈ [.engaged, .trimming, .unassigned]) →
      let g := s.plan.activeBank[s.sync.planPos]?
      let target (h : Segment) : Int := 100 * ((min h.target s.group.params.lMax : Nat) : Int)
      let next : GroupState := if g.isSome then .moving else .holding
      let low : Bool := s.sync.planPos + 1 == s.plan.activeBank.length && s.plan.mode == .chained && s.plan.commit != some .append
      let trims (j : Jack) : Bool := j.record.move.any (fun m => m.op == .trim && !m.done)
      ∃ t, exec (.resume .execution) s = .next t ∧ t.cars = s.cars ∧
        t.group = { s.group with slot := none, cause := .none, state := next } ∧
        t.plan = { s.plan with segMode := if g.isSome then some s.plan.mode else s.plan.segMode } ∧
        t.sync = { s.sync with
          speed := 0
          dir := match g with
            | some h => if h.kind = .dwell then .none else if s.sync.ref < target h then .up
                else if target h < s.sync.ref then .down else .none
            | none => .none
          dwell := match g with
            | some h => if h.kind = .dwell then some (s.sync.dwell.getD h.dwell) else s.sync.dwell
            | none => s.sync.dwell } ∧
        t.line.queue[s.line.queue.length]? = some
          { cls := .reply, kind := 0xC0, tag := tag
            body := 0x00 :: bytes2 (summary { t with line := s.line }) ++ [0, 0, 0x07, s.group.cycle] } ∧
        Reported (.state .stopped next) s.group.cycle t ∧
        (low = true → Reported (.planLow s.plan.active s.sync.planPos) s.group.cycle t) ∧
        ∀ k, (t.jack k).pos = (s.jack k).pos ∧ (t.jack k).mon = (s.jack k).mon ∧ (t.jack k).link = (s.jack k).link ∧
          (trims (s.jack k) = true → Reported (.stationDone k .trim .aborted) s.group.cycle t) ∧
          (t.jack k).record = { (s.jack k).record with
            move := (s.jack k).record.move.map (fun m => { m with done := m.done || m.op == .trim }) } ∧
          let g := (s.jack k).gen
          let kept : Generator := { g with brake := if (s.jack k).record.state = .engaged then .released else g.brake }
          (t.jack k).gen = (if trims (s.jack k) = false then kept else match g.run, g.pending with
            | .counted, _ => { kept with remaining := 0, pending := none }
            | .rate, some (.move _ _ _) => { kept with pending := some .stop }
            | _, _ => kept))

/-- STOP (R101): from POISED, MOVING or HOLDING the group enters STOPPING with cause COMMAND; the segment in progress, the reference and its
speed are left for the ramp, and the wait count keeps its value (the model's reading of R101 beside R131: log 20). LAND (R100, R129, R102):
from POISED and HOLDING the group enters LANDING with the descent ACTIVE, speed 0 and direction DOWN while the reference is above 0; from
STOPPED likewise, the brakes of ENGAGED stations released (R50), with every trim in progress ended in the stop form and STATION_DONE TRIM
ABORTED (R12), unless a station is FAULTED, which refuses it with FAULTS_OPEN; from STOPPED with every assigned station IDLE it passes
through LANDING into PREPARED, with the descent ENDED there (log 18). -/
def Obligations.StopAndLandLeaveTheLift : Prop :=
  (∀ (tag : Byte) (s : State), Waiting .stop tag 1 s → BrakesSafe s →
    (s.group.state = .poised ∨ s.group.state = .moving ∨ s.group.state = .holding) →
    exec (.stop .execution) s = .next (noticed (.state s.group.state .stopping)
      (answered 0xC0 tag .done [0, 0, 0x06, s.group.cycle]
        { s with group := { s.group with slot := none, cause := .command, state := .stopping, ratesForced := false } }))) ∧
  ∀ (tag : Byte) (s : State), BrakesSafe s → s.group.permit = true →
    (Waiting .land tag 1 s → s.group.state = .poised ∨ s.group.state = .holding →
      (∃ k, (s.jack k).record.state ≠ .idle ∧ (s.jack k).record.state ≠ .unassigned) →
      exec (.land .execution) s = .next (noticed (.state s.group.state .landing)
        (answered 0xC0 tag .done [0, 0, 0x08, s.group.cycle] { s with
          group := { s.group with slot := none, cause := .none, state := .landing }
          sync := { s.sync with descent := true, speed := 0, dir := if 0 < s.sync.ref then .down else .none } }))) ∧
    (Waiting .land tag 1 s → s.group.state = .stopped → (∃ k, (s.jack k).record.state = .faulted) →
      exec (.land .execution) s = .next (answered 0xC0 tag .faultsOpen [0, 0, 0x08, s.group.cycle]
        { s with group := { s.group with slot := none } })) ∧
    (Waiting .land tag 1 s → s.group.state = .stopped → (∀ k, (s.jack k).record.state ≠ .faulted) →
      (∀ k, (s.jack k).record.move = none) →
      (∃ k, (s.jack k).record.state ≠ .idle ∧ (s.jack k).record.state ≠ .unassigned) →
      let landing : State := noticed (.state .stopped .landing) (answered 0xC0 tag .done [0, 0, 0x08, s.group.cycle] { s with
        group := { s.group with slot := none, cause := .none, state := .landing }
        sync := { s.sync with descent := true, speed := 0, dir := if 0 < s.sync.ref then .down else .none } })
      exec (.land .execution) s = .next (landing.updAll (fun _ j =>
        if j.record.state = .engaged then { j with gen := { j.gen with brake := .released } } else j))) ∧
    (Waiting .land tag 1 s → s.group.state = .stopped → (∀ k, (s.jack k).record.state ≠ .faulted) →
      (∃ k, (s.jack k).record.state ≠ .idle ∧ (s.jack k).record.state ≠ .unassigned) →
      let trims (j : Jack) : Bool := j.record.move.any (fun m => m.op == .trim && !m.done)
      ∃ t, exec (.land .execution) s = .next t ∧ t.cars = s.cars ∧ t.plan = s.plan ∧
        t.group = { s.group with slot := none, cause := .none, state := .landing } ∧
        t.sync = { s.sync with descent := true, speed := 0, dir := if 0 < s.sync.ref then .down else .none } ∧
        t.line.queue[s.line.queue.length]? = some
          { cls := .reply, kind := 0xC0, tag := tag
            body := 0x00 :: bytes2 (summary { t with line := s.line }) ++ [0, 0, 0x08, s.group.cycle] } ∧
        Reported (.state .stopped .landing) s.group.cycle t ∧
        ∀ k, (t.jack k).pos = (s.jack k).pos ∧ (t.jack k).mon = (s.jack k).mon ∧ (t.jack k).link = (s.jack k).link ∧
          (trims (s.jack k) = true → Reported (.stationDone k .trim .aborted) s.group.cycle t) ∧
          (t.jack k).record = { (s.jack k).record with
            move := (s.jack k).record.move.map (fun m => { m with done := m.done || m.op == .trim }) } ∧
          let g := (s.jack k).gen
          let kept : Generator := { g with brake := if (s.jack k).record.state = .engaged then .released else g.brake }
          (t.jack k).gen = (if trims (s.jack k) = false then kept else match g.run, g.pending with
            | .counted, _ => { kept with remaining := 0, pending := none }
            | .rate, some (.move _ _ _) => { kept with pending := some .stop }
            | _, _ => kept)) ∧
    (Waiting .land tag 2 s → s.group.state = .stopped →
      (∀ k, (s.jack k).record.state = .idle ∨ (s.jack k).record.state = .unassigned) → (∀ k, (s.jack k).record.move = none) →
      exec (.land .execution) s = .next (noticed (.state .landing .prepared) (noticed (.state .stopped .landing)
        (answered 0xC0 tag .done [0, 0, 0x08, s.group.cycle] { s with
          group := { s.group with slot := none, cause := .none, state := .prepared }
          sync := { s.sync with descent := false, ref := 0, speed := 0, dir := .none } }))))

/-- ACK_FAULTS (R107, R17): every latched entry and every conditional entry whose condition no longer holds is removed, the others keep
their order, and the overflow mark is CLEAR where fewer than 16 entries remain. The conditions are those of R107's table, on the counts
latched and the loads held (R31, R61, R84 to R86). The twist or the step of every TWIST and COUPLING entry is computed afresh (R31). A
FAULTED station keeps the kind of the oldest entry that names it, and without one returns to its prior state (`StationRec.tested`; of a move
ended but for its last period, log 40). The reply carries the entries removed and remaining. -/
def Obligations.AckFaultsRemovesWhatNoLongerHolds : Prop :=
  ∀ (tag : Byte) (s : State), Waiting .ackFaults tag 0 s → (s.group.state = .stopped ∨ s.group.state = .prepared) →
    let lift (k : Sta) : Option Int := (s.jack k).record.contact.map (fun c => (s.jack k).latchedHeight - c)
    let endLift (x y : Option Sta) : Option Int := meanOf [x.bind lift, y.bind lift]
    let twist (c : Car) : Option Int := match c.fl.bind lift, c.fr.bind lift, c.rl.bind lift, c.rr.bind lift with
      | some fl, some fr, some rl, some rr => some ((fl + rr) - (fr + rl))
      | _, _, _, _ => none
    let stepTo (c d : Car) : Option Int := match endLift c.rl c.rr, endLift d.fl d.fr with
      | some rear, some front => some (rear - front)
      | _, _ => none
    let past (x : Option Int) (limit : Nat) : Bool := x.any (fun v => decide (limit < v.natAbs))
    let holds (e : FaultEntry) : Bool := match e.kind, e.subject with
      | .overload, .station k => decide ((s.jack k).record.settings.overload < (s.jack k).link.held)
      | .loadLoss, .station k => decide ((s.jack k).link.held < (s.jack k).record.settings.loss)
      | .loadSilent, .station k => (s.jack k).link.silent
      | .travelLimit, .station k => (s.jack k).record.datumKnown &&
          decide ((s.jack k).latchedHeight < 0 ∨ ((s.jack k).record.settings.hMax : Int) < (s.jack k).latchedHeight)
      | .twist, .car n => match s.cars[n - 1]? with
        | some c => past (twist c) c.twistLimit
        | none => false
      | .coupling, .coupling n => match s.cars[n - 1]?, s.cars[n - 1 + 1]? with
        | some c, some d => c.coupled && past (stepTo c d) c.couplingLimit
        | _, _ => false
      | _, _ => false
    let names (f : FaultKind) (i : Nat) : Prop := ∃ e ∈ s.group.faults, e.kind = f ∧
      ∃ n, n - 1 = i ∧ e.subject = if f = .twist then .car n else .coupling n
    ∃ t, exec (.ackFaults .execution) s = .next t ∧
      t.group.faults = s.group.faults.filter (fun e => e.kind == .runaway ||
        ([.overload, .loadLoss, .loadSilent, .travelLimit, .twist, .coupling].contains e.kind && holds e)) ∧
      t.group = { s.group with
        slot := none, faults := t.group.faults, overflow := s.group.overflow && decide (16 ≤ t.group.faults.length) } ∧
      t.line.queue = s.line.queue ++ [{ cls := .reply, kind := 0xC0, tag := tag
                                        body := 0x00 :: bytes2 (summary t) ++ [0, 0, 0x09, s.group.cycle,
                                          byteOf (s.group.faults.length - t.group.faults.length),
                                          byteOf t.group.faults.length] }] ∧
      t.sync = s.sync ∧ t.plan = s.plan ∧ t.cars.length = s.cars.length ∧
      (∀ i c, s.cars[i]? = some c → ∃ d, t.cars[i]? = some d ∧
        d = { c with lastTwist := d.lastTwist, lastStep := d.lastStep, couplingSet := d.couplingSet } ∧
        (names .twist i → d.lastTwist = twist c) ∧ (¬ names .twist i → d.lastTwist = c.lastTwist) ∧
        (∀ b, names .coupling i → c.coupled = true → s.cars[i + 1]? = some b →
          d.lastStep = stepTo c b ∧ d.couplingSet = past (stepTo c b) c.couplingLimit) ∧
        (¬ names .coupling i ∨ c.coupled = false ∨ s.cars[i + 1]? = none →
          d.lastStep = c.lastStep ∧ d.couplingSet = c.couplingSet)) ∧
      ∀ k, (t.jack k).pos = (s.jack k).pos ∧ (t.jack k).link = (s.jack k).link ∧ (t.jack k).mon = (s.jack k).mon ∧
        (t.jack k).record = if (s.jack k).record.state = .faulted then (s.jack k).record.tested k t.group.faults
          else (s.jack k).record

/-- CLEAR_LOCKOUT (R110, R113): where a runaway count is above 0 it is refused with MOTION_SEEN, naming the lowest such station;
otherwise every RUNAWAY entry is removed, the overflow mark is CLEAR where fewer than 16 entries remain (R103), the reference is
re-based, and the group comes up STOPPED, PREPARED or SETUP with its stop cause kept; a FAULTED station that no entry names any more
returns to its prior state (R17; of a move ended but for its last period, log 40). It is answered DONE, and STATE follows the reply (R176, R92). -/
def Obligations.ClearLockoutNeedsStillness : Prop :=
  ∀ (tag : Byte) (s : State), Waiting .clearLockout tag 1 s → BrakesSafe s → s.group.state = .lockedOut →
    (∀ k : Sta, 0 < (s.jack k).mon.runaway → (∀ i : Sta, i < k → (s.jack i).mon.runaway = 0) →
      exec (.clearLockout .execution) s = .next (answered 0xC0 tag .motionSeen
        [0, 0, 0x0A, s.group.cycle, byteOf k.val] { s with group := { s.group with slot := none } })) ∧
    ((∀ k, (s.jack k).mon.runaway = 0) → ∃ t, exec (.clearLockout .execution) s = .next t ∧
      t.group = { s.group with
        slot := none, waitCount := 0
        state := if anyContact s then .stopped else if s.group.validated then .prepared else .setup
        faults := s.group.faults.filter (fun e => e.kind != .runaway)
        overflow := s.group.overflow && decide (16 ≤ (s.group.faults.filter (fun e => e.kind != .runaway)).length) } ∧
      t.line = (noticed (.state .lockedOut t.group.state)
        (answered 0xC0 tag .done [0, 0, 0x0A, s.group.cycle] { t with line := s.line })).line ∧
      t.sync = { s.sync with ref := if anyContact s then rebasedReference true s else 0, speed := 0, dir := .none } ∧
      t.plan = s.plan ∧ t.cars = s.cars ∧
      ∀ k, (t.jack k).pos = (s.jack k).pos ∧ (t.jack k).mon = { (s.jack k).mon with rest := (s.jack k).pos.count } ∧
        (t.jack k).gen = { (s.jack k).gen with brake := (t.jack k).gen.brake } ∧
        (t.jack k).record = if (s.jack k).record.state = .faulted then (s.jack k).record.tested k t.group.faults
          else (s.jack k).record)

/-! ### Arithmetic -/

/-- The conversion of a rate above 0 (R40): the divisor lies in 992..262,143 with N in 31..8,191 and M in 0..31, and between the ends
it is 16,000,000,000 / (rate × K_step) rounded half up; it is 992 or 262,143 where that lies beyond, and the rate-ceiling mark is SET
where that lies below 992 (R41). The rate of an ENGAGED station (R132 to R134): never downward while the reference goes up, never
upward while it goes down, within r_max always; with direction NONE it is 0 inside the deadband and drives toward the reference outside
it. The correction is the nearest to error × gain / 1600. The reference's step toward a target ahead (R123): the stopping distance is
the sum x − a, x − 2a, … of what is left above 0; the speed chosen is the accelerating candidate where it can still be stopped in what
the step leaves, else the holding one where that can, else the present speed less a, with the floor and the cap; it is at least 1,
never passes the target, rises by at most a, and never falls while the present speed can still be stopped in the distance left; and
steps at the speeds chosen, one after another, bring the distance to 0, in no more of them than the distance has centi-µm. -/
def Obligations.RatesFollowTheReferenceAndTheirDivisors : Prop :=
  (∀ rate kStep : Nat, 0 < rate → 0 < kStep →
    let d := (divisorOf rate kStep).length
    DivisorSafe (divisorOf rate kStep) ∧ (d < 262143 → 32000000000 < (2 * d + 1) * (rate * kStep)) ∧
      (992 < d → (2 * d - 1) * (rate * kStep) ≤ 32000000000)) ∧
  (∀ (r : Int) (kStep : Nat), 0 < kStep → (heldAtCeiling r kStep = true ↔ 32000000000 < 1983 * (r.natAbs * kStep))) ∧
  (∀ (p : GroupParams) (v : Nat) (j : Jack),
    let top : Int := j.record.settings.rMax
    let c := correction p j
    (2 * (1600 * c - j.err * p.gain)).natAbs ≤ 1600 ∧
    0 ≤ rateOf p .up v j ∧ rateOf p .up v j ≤ top ∧
    (0 ≤ v + c → v + c ≤ top → rateOf p .up v j = v + c) ∧
    rateOf p .down v j ≤ 0 ∧ -top ≤ rateOf p .down v j ∧
    (-v + c ≤ 0 → -top ≤ -v + c → rateOf p .down v j = -v + c) ∧
    (j.err.natAbs ≤ 100 * p.deadband → rateOf p .none v j = 0) ∧
    (100 * p.deadband < j.err.natAbs → -top ≤ c → c ≤ top → rateOf p .none v j = c) ∧
    (rateOf p .none v j).natAbs ≤ j.record.settings.rMax ∧ (0 < j.err → 0 ≤ rateOf p .none v j) ∧
    (j.err < 0 → rateOf p .none v j ≤ 0)) ∧
  ∀ a cruise v dist : Nat, 0 < a → 0 < cruise → 0 < dist →
    let move (r : Nat × Nat) : Nat × Nat := (chooseSpeed a cruise r.1 r.2, r.2 - chooseSpeed a cruise r.1 r.2)
    let fits (x : Nat) : Prop := x + stoppingDistance a x ≤ dist
    let c := min (v + a) cruise
    let h := min v cruise
    stoppingDistance a v = ((List.range v).map (fun i => v - (i + 1) * a)).sum ∧
    (fits c → chooseSpeed a cruise v dist = c) ∧
    (¬ fits c → fits h → 0 < h → chooseSpeed a cruise v dist = h) ∧
    (¬ fits c → ¬ fits h → 0 < v - a → chooseSpeed a cruise v dist = min (v - a) dist) ∧
    (¬ fits c → (fits h → h = 0) → (¬ fits h → v - a = 0) → chooseSpeed a cruise v dist = min a dist) ∧
    1 ≤ chooseSpeed a cruise v dist ∧ chooseSpeed a cruise v dist ≤ dist ∧ chooseSpeed a cruise v dist ≤ v + a ∧
    (v ≤ cruise → v + stoppingDistance a v ≤ dist → v ≤ chooseSpeed a cruise v dist) ∧
    (move^[dist] (v, dist)).2 = 0

/-! ### Rules of the whole part -/

/-- Outside SETUP no command but POWER_ON changes a car's corners, limits or coupling, or a station's settings other than its offset
(R4, R22, R97). -/
def Obligations.ConfigurationIsWrittenInSetupOnly : Prop :=
  ∀ (i : Instr) (s t : State), (∀ p, i ≠ .powerOn p) → s.group.state ≠ .setup → exec i s = .next t →
    configuration t = configuration s

/-! ### Invariants every step keeps -/

/-- Every step keeps the transmit queue within its 8 frames, a place kept free for a waiting command's reply, and one snapshot notice;
and the pending set at one record of each kind, in order of priority (R174, R179, R180, R182, R183, R186). -/
def Obligations.EveryStepKeepsTheLine : Prop :=
  (∀ s t : State, QueueSafe s → step s = .next t → QueueSafe t) ∧
    ∀ s t : State, PendingSafe s → step s = .next t → PendingSafe t

/-- Every step keeps the fault list within 16 entries, no two of one kind and subject, overflowing only while full (R103). -/
def Obligations.EveryStepKeepsTheFaultList : Prop :=
  ∀ s t : State, FaultListSafe s → step s = .next t → FaultListSafe t

/-- Every step keeps the group's states, contact heights and reference together (R92, R98, R102, R110, R116, R121). -/
def Obligations.EveryStepKeepsTheGroupTogether : Prop :=
  ∀ s t : State, GroupSafe s → step s = .next t → GroupSafe t

/-- Every step keeps every generator's divisors within their limits, a divisor held exactly while it runs, and steps remaining only in
COUNTED (R38, R40, R45, R46); and every saturating count of every station within its field (R62, R63, R67, R70, R79, R86). -/
def Obligations.EveryStepKeepsGeneratorsAndCounts : Prop :=
  (∀ s t : State, GeneratorsSafe s → step s = .next t → GeneratorsSafe t) ∧
    ∀ s t : State, TalliesSafe s → step s = .next t → TalliesSafe t

/-- Every step keeps every generator IDLE and every brake APPLIED while the permit is low, and the permit level that of its line; and it
leaves every brake as called for (R48 to R52, R55, R111, R112). -/
def Obligations.EveryStepKeepsThePermitAndTheBrakes : Prop :=
  (∀ s t : State, PermitSafe s → step s = .next t → PermitSafe t) ∧
    ∀ s t : State, BrakesSafe s → step s = .next t → BrakesSafe t

/-- Every step keeps the plan banks within 16 valid segments, a QUEUED bank non-empty, and the plan position within the active plan
(R117, R156 to R162). -/
def Obligations.EveryStepKeepsThePlan : Prop :=
  ∀ s t : State, PlanSafe s → step s = .next t → PlanSafe t
end

