-- ==== Sys2Proof/Laws/PerStation.lean ====
section
/-! SUPPORT. What reading one station's entry gives after each update of the table of 32. -/

namespace Sys2Proof

theorem PerStation.ext_get {α : Type} {t u : PerStation α} (h : ∀ k, t.get k = u.get k) : t = u := by
  cases t with
  | mk l hl =>
    cases u with
    | mk m hm =>
      have : l = m := List.ext_getElem (by rw [hl, hm]) (fun n h1 _ => h ⟨n, by omega⟩)
      subst this
      rfl

@[simp] theorem PerStation.get_modify_self {α : Type} (t : PerStation α) (k : Sta) (f : α → α) :
    (t.modify k f).get k = f (t.get k) := by
  simp [PerStation.get, PerStation.modify]

theorem PerStation.get_modify_ne {α : Type} (t : PerStation α) {i k : Sta} (f : α → α) (h : i ≠ k) :
    (t.modify k f).get i = t.get i := by
  have : k.val ≠ i.val := fun e => h (Fin.ext e.symm)
  simp [PerStation.get, PerStation.modify, this]

theorem PerStation.get_modify {α : Type} (t : PerStation α) (i k : Sta) (f : α → α) :
    (t.modify k f).get i = if i = k then f (t.get i) else t.get i := by
  by_cases h : i = k
  · subst h; simp
  · rw [if_neg h, t.get_modify_ne f h]

@[simp] theorem PerStation.get_mapAll {α β : Type} (t : PerStation α) (f : Sta → α → β) (k : Sta) :
    (t.mapAll f).get k = f k (t.get k) := by
  simp [PerStation.get, PerStation.mapAll, Sta.all]

@[simp] theorem PerStation.get_replicate {α : Type} (a : α) (k : Sta) : (PerStation.replicate a).get k = a :=
  List.getElem_replicate _

@[simp] theorem Sta.mem_all (k : Sta) : k ∈ Sta.all := by simp [Sta.all]

end Sys2Proof
end

