-- ==== Sys2Proof/Laws/State.lean ====
section
/-! SUPPORT. One lemma for each field of State under each update: true by rfl, so that no later proof unfolds a record update. -/

namespace Sys2Proof.Machine

@[simp] theorem updJack_cars (s : State) (k : Sta) (f : Jack → Jack) : (s.updJack k f).cars = s.cars := rfl
@[simp] theorem updJack_group (s : State) (k : Sta) (f : Jack → Jack) : (s.updJack k f).group = s.group := rfl
@[simp] theorem updJack_sync (s : State) (k : Sta) (f : Jack → Jack) : (s.updJack k f).sync = s.sync := rfl
@[simp] theorem updJack_plan (s : State) (k : Sta) (f : Jack → Jack) : (s.updJack k f).plan = s.plan := rfl
@[simp] theorem updJack_line (s : State) (k : Sta) (f : Jack → Jack) : (s.updJack k f).line = s.line := rfl
@[simp] theorem updJack_link (s : State) (k : Sta) (f : Jack → Jack) : (s.updJack k f).link = s.link := rfl
@[simp] theorem updJack_pins (s : State) (k : Sta) (f : Jack → Jack) : (s.updJack k f).pins = s.pins := rfl
@[simp] theorem updJack_pending (s : State) (k : Sta) (f : Jack → Jack) : (s.updJack k f).pending = s.pending := rfl

@[simp] theorem updAll_cars (s : State) (f : Sta → Jack → Jack) : (s.updAll f).cars = s.cars := rfl
@[simp] theorem updAll_group (s : State) (f : Sta → Jack → Jack) : (s.updAll f).group = s.group := rfl
@[simp] theorem updAll_sync (s : State) (f : Sta → Jack → Jack) : (s.updAll f).sync = s.sync := rfl
@[simp] theorem updAll_plan (s : State) (f : Sta → Jack → Jack) : (s.updAll f).plan = s.plan := rfl
@[simp] theorem updAll_line (s : State) (f : Sta → Jack → Jack) : (s.updAll f).line = s.line := rfl
@[simp] theorem updAll_link (s : State) (f : Sta → Jack → Jack) : (s.updAll f).link = s.link := rfl
@[simp] theorem updAll_pins (s : State) (f : Sta → Jack → Jack) : (s.updAll f).pins = s.pins := rfl
@[simp] theorem updAll_pending (s : State) (f : Sta → Jack → Jack) : (s.updAll f).pending = s.pending := rfl

@[simp] theorem updRec_cars (s : State) (k : Sta) (f : StationRec → StationRec) : (s.updRec k f).cars = s.cars := rfl
@[simp] theorem updRec_group (s : State) (k : Sta) (f : StationRec → StationRec) : (s.updRec k f).group = s.group := rfl
@[simp] theorem updRec_sync (s : State) (k : Sta) (f : StationRec → StationRec) : (s.updRec k f).sync = s.sync := rfl
@[simp] theorem updRec_plan (s : State) (k : Sta) (f : StationRec → StationRec) : (s.updRec k f).plan = s.plan := rfl
@[simp] theorem updRec_line (s : State) (k : Sta) (f : StationRec → StationRec) : (s.updRec k f).line = s.line := rfl
@[simp] theorem updRec_link (s : State) (k : Sta) (f : StationRec → StationRec) : (s.updRec k f).link = s.link := rfl
@[simp] theorem updRec_pins (s : State) (k : Sta) (f : StationRec → StationRec) : (s.updRec k f).pins = s.pins := rfl
@[simp] theorem updRec_pending (s : State) (k : Sta) (f : StationRec → StationRec) : (s.updRec k f).pending = s.pending := rfl

@[simp] theorem updGen_cars (s : State) (k : Sta) (f : Generator → Generator) : (s.updGen k f).cars = s.cars := rfl
@[simp] theorem updGen_group (s : State) (k : Sta) (f : Generator → Generator) : (s.updGen k f).group = s.group := rfl
@[simp] theorem updGen_sync (s : State) (k : Sta) (f : Generator → Generator) : (s.updGen k f).sync = s.sync := rfl
@[simp] theorem updGen_plan (s : State) (k : Sta) (f : Generator → Generator) : (s.updGen k f).plan = s.plan := rfl
@[simp] theorem updGen_line (s : State) (k : Sta) (f : Generator → Generator) : (s.updGen k f).line = s.line := rfl
@[simp] theorem updGen_link (s : State) (k : Sta) (f : Generator → Generator) : (s.updGen k f).link = s.link := rfl
@[simp] theorem updGen_pins (s : State) (k : Sta) (f : Generator → Generator) : (s.updGen k f).pins = s.pins := rfl
@[simp] theorem updGen_pending (s : State) (k : Sta) (f : Generator → Generator) : (s.updGen k f).pending = s.pending := rfl

@[simp] theorem updCar_jacks (s : State) (i : Nat) (f : Car → Car) : (s.updCar i f).jacks = s.jacks := rfl
@[simp] theorem updCar_group (s : State) (i : Nat) (f : Car → Car) : (s.updCar i f).group = s.group := rfl
@[simp] theorem updCar_sync (s : State) (i : Nat) (f : Car → Car) : (s.updCar i f).sync = s.sync := rfl
@[simp] theorem updCar_plan (s : State) (i : Nat) (f : Car → Car) : (s.updCar i f).plan = s.plan := rfl
@[simp] theorem updCar_line (s : State) (i : Nat) (f : Car → Car) : (s.updCar i f).line = s.line := rfl
@[simp] theorem updCar_link (s : State) (i : Nat) (f : Car → Car) : (s.updCar i f).link = s.link := rfl
@[simp] theorem updCar_pins (s : State) (i : Nat) (f : Car → Car) : (s.updCar i f).pins = s.pins := rfl
@[simp] theorem updCar_pending (s : State) (i : Nat) (f : Car → Car) : (s.updCar i f).pending = s.pending := rfl

@[simp] theorem raise_jacks (e : Event) (s : State) : (raise e s).jacks = s.jacks := rfl
@[simp] theorem raise_cars (e : Event) (s : State) : (raise e s).cars = s.cars := rfl
@[simp] theorem raise_group (e : Event) (s : State) : (raise e s).group = s.group := rfl
@[simp] theorem raise_sync (e : Event) (s : State) : (raise e s).sync = s.sync := rfl
@[simp] theorem raise_plan (e : Event) (s : State) : (raise e s).plan = s.plan := rfl
@[simp] theorem raise_link (e : Event) (s : State) : (raise e s).link = s.link := rfl
@[simp] theorem raise_pins (e : Event) (s : State) : (raise e s).pins = s.pins := rfl
@[simp] theorem raise_pending (e : Event) (s : State) : (raise e s).pending = s.pending := rfl

@[simp] theorem clearReference_jacks (s : State) : (clearReference s).jacks = s.jacks := rfl
@[simp] theorem clearReference_cars (s : State) : (clearReference s).cars = s.cars := rfl
@[simp] theorem clearReference_group (s : State) : (clearReference s).group = s.group := rfl
@[simp] theorem clearReference_plan (s : State) : (clearReference s).plan = s.plan := rfl
@[simp] theorem clearReference_line (s : State) : (clearReference s).line = s.line := rfl
@[simp] theorem clearReference_link (s : State) : (clearReference s).link = s.link := rfl
@[simp] theorem clearReference_pins (s : State) : (clearReference s).pins = s.pins := rfl
@[simp] theorem clearReference_pending (s : State) : (clearReference s).pending = s.pending := rfl

@[simp] theorem setCause_jacks (c : StopCause) (s : State) : (setCause c s).jacks = s.jacks := rfl
@[simp] theorem setCause_cars (c : StopCause) (s : State) : (setCause c s).cars = s.cars := rfl
@[simp] theorem setCause_sync (c : StopCause) (s : State) : (setCause c s).sync = s.sync := rfl
@[simp] theorem setCause_plan (c : StopCause) (s : State) : (setCause c s).plan = s.plan := rfl
@[simp] theorem setCause_line (c : StopCause) (s : State) : (setCause c s).line = s.line := rfl
@[simp] theorem setCause_link (c : StopCause) (s : State) : (setCause c s).link = s.link := rfl
@[simp] theorem setCause_pins (c : StopCause) (s : State) : (setCause c s).pins = s.pins := rfl
@[simp] theorem setCause_pending (c : StopCause) (s : State) : (setCause c s).pending = s.pending := rfl

@[simp] theorem clearWait_jacks (s : State) : (clearWait s).jacks = s.jacks := rfl
@[simp] theorem clearWait_cars (s : State) : (clearWait s).cars = s.cars := rfl
@[simp] theorem clearWait_sync (s : State) : (clearWait s).sync = s.sync := rfl
@[simp] theorem clearWait_plan (s : State) : (clearWait s).plan = s.plan := rfl
@[simp] theorem clearWait_line (s : State) : (clearWait s).line = s.line := rfl
@[simp] theorem clearWait_link (s : State) : (clearWait s).link = s.link := rfl
@[simp] theorem clearWait_pins (s : State) : (clearWait s).pins = s.pins := rfl
@[simp] theorem clearWait_pending (s : State) : (clearWait s).pending = s.pending := rfl

@[simp] theorem freezeReference_jacks (s : State) : (freezeReference s).jacks = s.jacks := rfl
@[simp] theorem freezeReference_cars (s : State) : (freezeReference s).cars = s.cars := rfl
@[simp] theorem freezeReference_group (s : State) : (freezeReference s).group = s.group := rfl
@[simp] theorem freezeReference_plan (s : State) : (freezeReference s).plan = s.plan := rfl
@[simp] theorem freezeReference_line (s : State) : (freezeReference s).line = s.line := rfl
@[simp] theorem freezeReference_link (s : State) : (freezeReference s).link = s.link := rfl
@[simp] theorem freezeReference_pins (s : State) : (freezeReference s).pins = s.pins := rfl
@[simp] theorem freezeReference_pending (s : State) : (freezeReference s).pending = s.pending := rfl

@[simp] theorem endDescent_jacks (s : State) : (endDescent s).jacks = s.jacks := rfl
@[simp] theorem endDescent_cars (s : State) : (endDescent s).cars = s.cars := rfl
@[simp] theorem endDescent_group (s : State) : (endDescent s).group = s.group := rfl
@[simp] theorem endDescent_plan (s : State) : (endDescent s).plan = s.plan := rfl
@[simp] theorem endDescent_line (s : State) : (endDescent s).line = s.line := rfl
@[simp] theorem endDescent_link (s : State) : (endDescent s).link = s.link := rfl
@[simp] theorem endDescent_pins (s : State) : (endDescent s).pins = s.pins := rfl
@[simp] theorem endDescent_pending (s : State) : (endDescent s).pending = s.pending := rfl

@[simp] theorem haltReference_jacks (s : State) : (haltReference s).jacks = s.jacks := rfl
@[simp] theorem haltReference_cars (s : State) : (haltReference s).cars = s.cars := rfl
@[simp] theorem haltReference_plan (s : State) : (haltReference s).plan = s.plan := rfl
@[simp] theorem haltReference_line (s : State) : (haltReference s).line = s.line := rfl
@[simp] theorem haltReference_link (s : State) : (haltReference s).link = s.link := rfl
@[simp] theorem haltReference_pins (s : State) : (haltReference s).pins = s.pins := rfl
@[simp] theorem haltReference_pending (s : State) : (haltReference s).pending = s.pending := rfl

@[simp] theorem setFaults_jacks (l : List FaultEntry) (s : State) : (setFaults l s).jacks = s.jacks := rfl
@[simp] theorem setFaults_cars (l : List FaultEntry) (s : State) : (setFaults l s).cars = s.cars := rfl
@[simp] theorem setFaults_sync (l : List FaultEntry) (s : State) : (setFaults l s).sync = s.sync := rfl
@[simp] theorem setFaults_plan (l : List FaultEntry) (s : State) : (setFaults l s).plan = s.plan := rfl
@[simp] theorem setFaults_line (l : List FaultEntry) (s : State) : (setFaults l s).line = s.line := rfl
@[simp] theorem setFaults_link (l : List FaultEntry) (s : State) : (setFaults l s).link = s.link := rfl
@[simp] theorem setFaults_pins (l : List FaultEntry) (s : State) : (setFaults l s).pins = s.pins := rfl
@[simp] theorem setFaults_pending (l : List FaultEntry) (s : State) : (setFaults l s).pending = s.pending := rfl

@[simp] theorem setQueue_jacks (q : List Frame) (s : State) : (setQueue q s).jacks = s.jacks := rfl
@[simp] theorem setQueue_cars (q : List Frame) (s : State) : (setQueue q s).cars = s.cars := rfl
@[simp] theorem setQueue_group (q : List Frame) (s : State) : (setQueue q s).group = s.group := rfl
@[simp] theorem setQueue_sync (q : List Frame) (s : State) : (setQueue q s).sync = s.sync := rfl
@[simp] theorem setQueue_plan (q : List Frame) (s : State) : (setQueue q s).plan = s.plan := rfl
@[simp] theorem setQueue_link (q : List Frame) (s : State) : (setQueue q s).link = s.link := rfl
@[simp] theorem setQueue_pins (q : List Frame) (s : State) : (setQueue q s).pins = s.pins := rfl
@[simp] theorem setQueue_pending (q : List Frame) (s : State) : (setQueue q s).pending = s.pending := rfl

@[simp] theorem setPendingEvents_jacks (l : List PendingEvent) (s : State) : (setPendingEvents l s).jacks = s.jacks := rfl
@[simp] theorem setPendingEvents_cars (l : List PendingEvent) (s : State) : (setPendingEvents l s).cars = s.cars := rfl
@[simp] theorem setPendingEvents_group (l : List PendingEvent) (s : State) : (setPendingEvents l s).group = s.group := rfl
@[simp] theorem setPendingEvents_sync (l : List PendingEvent) (s : State) : (setPendingEvents l s).sync = s.sync := rfl
@[simp] theorem setPendingEvents_plan (l : List PendingEvent) (s : State) : (setPendingEvents l s).plan = s.plan := rfl
@[simp] theorem setPendingEvents_link (l : List PendingEvent) (s : State) : (setPendingEvents l s).link = s.link := rfl
@[simp] theorem setPendingEvents_pins (l : List PendingEvent) (s : State) : (setPendingEvents l s).pins = s.pins := rfl
@[simp] theorem setPendingEvents_pending (l : List PendingEvent) (s : State) : (setPendingEvents l s).pending = s.pending := rfl

@[simp] theorem enqueue_jacks (f : Frame) (s : State) : (enqueue f s).jacks = s.jacks := rfl
@[simp] theorem enqueue_cars (f : Frame) (s : State) : (enqueue f s).cars = s.cars := rfl
@[simp] theorem enqueue_group (f : Frame) (s : State) : (enqueue f s).group = s.group := rfl
@[simp] theorem enqueue_sync (f : Frame) (s : State) : (enqueue f s).sync = s.sync := rfl
@[simp] theorem enqueue_plan (f : Frame) (s : State) : (enqueue f s).plan = s.plan := rfl
@[simp] theorem enqueue_link (f : Frame) (s : State) : (enqueue f s).link = s.link := rfl
@[simp] theorem enqueue_pins (f : Frame) (s : State) : (enqueue f s).pins = s.pins := rfl
@[simp] theorem enqueue_pending (f : Frame) (s : State) : (enqueue f s).pending = s.pending := rfl

@[simp] theorem setStreamCount_jacks (n : Nat) (s : State) : (setStreamCount n s).jacks = s.jacks := rfl
@[simp] theorem setStreamCount_cars (n : Nat) (s : State) : (setStreamCount n s).cars = s.cars := rfl
@[simp] theorem setStreamCount_group (n : Nat) (s : State) : (setStreamCount n s).group = s.group := rfl
@[simp] theorem setStreamCount_sync (n : Nat) (s : State) : (setStreamCount n s).sync = s.sync := rfl
@[simp] theorem setStreamCount_plan (n : Nat) (s : State) : (setStreamCount n s).plan = s.plan := rfl
@[simp] theorem setStreamCount_link (n : Nat) (s : State) : (setStreamCount n s).link = s.link := rfl
@[simp] theorem setStreamCount_pins (n : Nat) (s : State) : (setStreamCount n s).pins = s.pins := rfl
@[simp] theorem setStreamCount_pending (n : Nat) (s : State) : (setStreamCount n s).pending = s.pending := rfl

@[simp] theorem handRate_cars (k : Sta) (r : Int) (s : State) : (handRate k r s).cars = s.cars := rfl
@[simp] theorem handRate_group (k : Sta) (r : Int) (s : State) : (handRate k r s).group = s.group := rfl
@[simp] theorem handRate_sync (k : Sta) (r : Int) (s : State) : (handRate k r s).sync = s.sync := rfl
@[simp] theorem handRate_plan (k : Sta) (r : Int) (s : State) : (handRate k r s).plan = s.plan := rfl
@[simp] theorem handRate_line (k : Sta) (r : Int) (s : State) : (handRate k r s).line = s.line := rfl
@[simp] theorem handRate_link (k : Sta) (r : Int) (s : State) : (handRate k r s).link = s.link := rfl
@[simp] theorem handRate_pins (k : Sta) (r : Int) (s : State) : (handRate k r s).pins = s.pins := rfl
@[simp] theorem handRate_pending (k : Sta) (r : Int) (s : State) : (handRate k r s).pending = s.pending := rfl

@[simp] theorem orderMove_cars (k : Sta) (rate : Nat) (dir : Dir) (n : Nat) (s : State) : (orderMove k rate dir n s).cars = s.cars := rfl
@[simp] theorem orderMove_group (k : Sta) (rate : Nat) (dir : Dir) (n : Nat) (s : State) : (orderMove k rate dir n s).group = s.group := rfl
@[simp] theorem orderMove_sync (k : Sta) (rate : Nat) (dir : Dir) (n : Nat) (s : State) : (orderMove k rate dir n s).sync = s.sync := rfl
@[simp] theorem orderMove_plan (k : Sta) (rate : Nat) (dir : Dir) (n : Nat) (s : State) : (orderMove k rate dir n s).plan = s.plan := rfl
@[simp] theorem orderMove_line (k : Sta) (rate : Nat) (dir : Dir) (n : Nat) (s : State) : (orderMove k rate dir n s).line = s.line := rfl
@[simp] theorem orderMove_link (k : Sta) (rate : Nat) (dir : Dir) (n : Nat) (s : State) : (orderMove k rate dir n s).link = s.link := rfl
@[simp] theorem orderMove_pins (k : Sta) (rate : Nat) (dir : Dir) (n : Nat) (s : State) : (orderMove k rate dir n s).pins = s.pins := rfl
@[simp] theorem orderMove_pending (k : Sta) (rate : Nat) (dir : Dir) (n : Nat) (s : State) : (orderMove k rate dir n s).pending = s.pending := rfl

@[simp] theorem recordRate_cars (k : Sta) (r : Int) (s : State) : (recordRate k r s).cars = s.cars := rfl
@[simp] theorem recordRate_group (k : Sta) (r : Int) (s : State) : (recordRate k r s).group = s.group := rfl
@[simp] theorem recordRate_sync (k : Sta) (r : Int) (s : State) : (recordRate k r s).sync = s.sync := rfl
@[simp] theorem recordRate_plan (k : Sta) (r : Int) (s : State) : (recordRate k r s).plan = s.plan := rfl
@[simp] theorem recordRate_line (k : Sta) (r : Int) (s : State) : (recordRate k r s).line = s.line := rfl
@[simp] theorem recordRate_link (k : Sta) (r : Int) (s : State) : (recordRate k r s).link = s.link := rfl
@[simp] theorem recordRate_pins (k : Sta) (r : Int) (s : State) : (recordRate k r s).pins = s.pins := rfl
@[simp] theorem recordRate_pending (k : Sta) (r : Int) (s : State) : (recordRate k r s).pending = s.pending := rfl

@[simp] theorem clearRates_cars (s : State) : (clearRates s).cars = s.cars := rfl
@[simp] theorem clearRates_group (s : State) : (clearRates s).group = s.group := rfl
@[simp] theorem clearRates_sync (s : State) : (clearRates s).sync = s.sync := rfl
@[simp] theorem clearRates_plan (s : State) : (clearRates s).plan = s.plan := rfl
@[simp] theorem clearRates_line (s : State) : (clearRates s).line = s.line := rfl
@[simp] theorem clearRates_link (s : State) : (clearRates s).link = s.link := rfl
@[simp] theorem clearRates_pins (s : State) : (clearRates s).pins = s.pins := rfl
@[simp] theorem clearRates_pending (s : State) : (clearRates s).pending = s.pending := rfl

@[simp] theorem settleBrakes_cars (s : State) : (settleBrakes s).cars = s.cars := rfl
@[simp] theorem settleBrakes_group (s : State) : (settleBrakes s).group = s.group := rfl
@[simp] theorem settleBrakes_sync (s : State) : (settleBrakes s).sync = s.sync := rfl
@[simp] theorem settleBrakes_plan (s : State) : (settleBrakes s).plan = s.plan := rfl
@[simp] theorem settleBrakes_line (s : State) : (settleBrakes s).line = s.line := rfl
@[simp] theorem settleBrakes_link (s : State) : (settleBrakes s).link = s.link := rfl
@[simp] theorem settleBrakes_pins (s : State) : (settleBrakes s).pins = s.pins := rfl
@[simp] theorem settleBrakes_pending (s : State) : (settleBrakes s).pending = s.pending := rfl

@[simp] theorem moveStations_cars (s : State) : (moveStations s).cars = s.cars := rfl
@[simp] theorem moveStations_group (s : State) : (moveStations s).group = s.group := rfl
@[simp] theorem moveStations_sync (s : State) : (moveStations s).sync = s.sync := rfl
@[simp] theorem moveStations_plan (s : State) : (moveStations s).plan = s.plan := rfl
@[simp] theorem moveStations_line (s : State) : (moveStations s).line = s.line := rfl
@[simp] theorem moveStations_link (s : State) : (moveStations s).link = s.link := rfl
@[simp] theorem moveStations_pins (s : State) : (moveStations s).pins = s.pins := rfl
@[simp] theorem moveStations_pending (s : State) : (moveStations s).pending = s.pending := rfl

@[simp] theorem abandonAll_cars (s : State) : (abandonAll s).cars = s.cars := rfl
@[simp] theorem abandonAll_group (s : State) : (abandonAll s).group = s.group := rfl
@[simp] theorem abandonAll_sync (s : State) : (abandonAll s).sync = s.sync := rfl
@[simp] theorem abandonAll_plan (s : State) : (abandonAll s).plan = s.plan := rfl
@[simp] theorem abandonAll_line (s : State) : (abandonAll s).line = s.line := rfl
@[simp] theorem abandonAll_link (s : State) : (abandonAll s).link = s.link := rfl
@[simp] theorem abandonAll_pins (s : State) : (abandonAll s).pins = s.pins := rfl
@[simp] theorem abandonAll_pending (s : State) : (abandonAll s).pending = s.pending := rfl

@[simp] theorem latchAllRest_cars (s : State) : (latchAllRest s).cars = s.cars := rfl
@[simp] theorem latchAllRest_group (s : State) : (latchAllRest s).group = s.group := rfl
@[simp] theorem latchAllRest_sync (s : State) : (latchAllRest s).sync = s.sync := rfl
@[simp] theorem latchAllRest_plan (s : State) : (latchAllRest s).plan = s.plan := rfl
@[simp] theorem latchAllRest_line (s : State) : (latchAllRest s).line = s.line := rfl
@[simp] theorem latchAllRest_link (s : State) : (latchAllRest s).link = s.link := rfl
@[simp] theorem latchAllRest_pins (s : State) : (latchAllRest s).pins = s.pins := rfl
@[simp] theorem latchAllRest_pending (s : State) : (latchAllRest s).pending = s.pending := rfl

@[simp] theorem returnFaulted_cars (s : State) : (returnFaulted s).cars = s.cars := rfl
@[simp] theorem returnFaulted_group (s : State) : (returnFaulted s).group = s.group := rfl
@[simp] theorem returnFaulted_sync (s : State) : (returnFaulted s).sync = s.sync := rfl
@[simp] theorem returnFaulted_plan (s : State) : (returnFaulted s).plan = s.plan := rfl
@[simp] theorem returnFaulted_line (s : State) : (returnFaulted s).line = s.line := rfl
@[simp] theorem returnFaulted_link (s : State) : (returnFaulted s).link = s.link := rfl
@[simp] theorem returnFaulted_pins (s : State) : (returnFaulted s).pins = s.pins := rfl
@[simp] theorem returnFaulted_pending (s : State) : (returnFaulted s).pending = s.pending := rfl

@[simp] theorem motionReset_cars (b : Bool) (s : State) : (motionReset b s).cars = s.cars := rfl
@[simp] theorem motionReset_plan (b : Bool) (s : State) : (motionReset b s).plan = s.plan := rfl
@[simp] theorem motionReset_line (b : Bool) (s : State) : (motionReset b s).line = s.line := rfl
@[simp] theorem motionReset_link (b : Bool) (s : State) : (motionReset b s).link = s.link := rfl
@[simp] theorem motionReset_pins (b : Bool) (s : State) : (motionReset b s).pins = s.pins := rfl
@[simp] theorem motionReset_pending (b : Bool) (s : State) : (motionReset b s).pending = s.pending := rfl

@[simp] theorem formErrors_cars (s : State) : (formErrors s).cars = s.cars := rfl
@[simp] theorem formErrors_group (s : State) : (formErrors s).group = s.group := rfl
@[simp] theorem formErrors_sync (s : State) : (formErrors s).sync = s.sync := rfl
@[simp] theorem formErrors_plan (s : State) : (formErrors s).plan = s.plan := rfl
@[simp] theorem formErrors_line (s : State) : (formErrors s).line = s.line := rfl
@[simp] theorem formErrors_link (s : State) : (formErrors s).link = s.link := rfl
@[simp] theorem formErrors_pins (s : State) : (formErrors s).pins = s.pins := rfl
@[simp] theorem formErrors_pending (s : State) : (formErrors s).pending = s.pending := rfl

@[simp] theorem setWait_jacks (n : Nat) (w : Bool) (s : State) : (setWait n w s).jacks = s.jacks := rfl
@[simp] theorem setWait_cars (n : Nat) (w : Bool) (s : State) : (setWait n w s).cars = s.cars := rfl
@[simp] theorem setWait_plan (n : Nat) (w : Bool) (s : State) : (setWait n w s).plan = s.plan := rfl
@[simp] theorem setWait_line (n : Nat) (w : Bool) (s : State) : (setWait n w s).line = s.line := rfl
@[simp] theorem setWait_link (n : Nat) (w : Bool) (s : State) : (setWait n w s).link = s.link := rfl
@[simp] theorem setWait_pins (n : Nat) (w : Bool) (s : State) : (setWait n w s).pins = s.pins := rfl
@[simp] theorem setWait_pending (n : Nat) (w : Bool) (s : State) : (setWait n w s).pending = s.pending := rfl

@[simp] theorem setRef_jacks (r : Ref) (s : State) : (setRef r s).jacks = s.jacks := rfl
@[simp] theorem setRef_cars (r : Ref) (s : State) : (setRef r s).cars = s.cars := rfl
@[simp] theorem setRef_group (r : Ref) (s : State) : (setRef r s).group = s.group := rfl
@[simp] theorem setRef_plan (r : Ref) (s : State) : (setRef r s).plan = s.plan := rfl
@[simp] theorem setRef_line (r : Ref) (s : State) : (setRef r s).line = s.line := rfl
@[simp] theorem setRef_link (r : Ref) (s : State) : (setRef r s).link = s.link := rfl
@[simp] theorem setRef_pins (r : Ref) (s : State) : (setRef r s).pins = s.pins := rfl
@[simp] theorem setRef_pending (r : Ref) (s : State) : (setRef r s).pending = s.pending := rfl

@[simp] theorem forceReference_jacks (s : State) : (forceReference s).jacks = s.jacks := rfl
@[simp] theorem forceReference_cars (s : State) : (forceReference s).cars = s.cars := rfl
@[simp] theorem forceReference_group (s : State) : (forceReference s).group = s.group := rfl
@[simp] theorem forceReference_plan (s : State) : (forceReference s).plan = s.plan := rfl
@[simp] theorem forceReference_line (s : State) : (forceReference s).line = s.line := rfl
@[simp] theorem forceReference_link (s : State) : (forceReference s).link = s.link := rfl
@[simp] theorem forceReference_pins (s : State) : (forceReference s).pins = s.pins := rfl
@[simp] theorem forceReference_pending (s : State) : (forceReference s).pending = s.pending := rfl

@[simp] theorem beaconWork_cars (s : State) : (beaconWork s).cars = s.cars := rfl
@[simp] theorem beaconWork_group (s : State) : (beaconWork s).group = s.group := rfl
@[simp] theorem beaconWork_sync (s : State) : (beaconWork s).sync = s.sync := rfl
@[simp] theorem beaconWork_plan (s : State) : (beaconWork s).plan = s.plan := rfl
@[simp] theorem beaconWork_line (s : State) : (beaconWork s).line = s.line := rfl
@[simp] theorem beaconWork_pins (s : State) : (beaconWork s).pins = s.pins := rfl
@[simp] theorem beaconWork_pending (s : State) : (beaconWork s).pending = s.pending := rfl

@[simp] theorem latchWork_cars (s : State) : (latchWork s).cars = s.cars := rfl
@[simp] theorem latchWork_group (s : State) : (latchWork s).group = s.group := rfl
@[simp] theorem latchWork_sync (s : State) : (latchWork s).sync = s.sync := rfl
@[simp] theorem latchWork_plan (s : State) : (latchWork s).plan = s.plan := rfl
@[simp] theorem latchWork_line (s : State) : (latchWork s).line = s.line := rfl
@[simp] theorem latchWork_link (s : State) : (latchWork s).link = s.link := rfl
@[simp] theorem latchWork_pins (s : State) : (latchWork s).pins = s.pins := rfl
@[simp] theorem latchWork_pending (s : State) : (latchWork s).pending = s.pending := rfl

@[simp] theorem takeOffsets_cars (s : State) : (takeOffsets s).cars = s.cars := rfl
@[simp] theorem takeOffsets_group (s : State) : (takeOffsets s).group = s.group := rfl
@[simp] theorem takeOffsets_sync (s : State) : (takeOffsets s).sync = s.sync := rfl
@[simp] theorem takeOffsets_plan (s : State) : (takeOffsets s).plan = s.plan := rfl
@[simp] theorem takeOffsets_line (s : State) : (takeOffsets s).line = s.line := rfl
@[simp] theorem takeOffsets_link (s : State) : (takeOffsets s).link = s.link := rfl
@[simp] theorem takeOffsets_pins (s : State) : (takeOffsets s).pins = s.pins := rfl
@[simp] theorem takeOffsets_pending (s : State) : (takeOffsets s).pending = s.pending := rfl

@[simp] theorem advanceCycle_jacks (s : State) : (advanceCycle s).jacks = s.jacks := rfl
@[simp] theorem advanceCycle_cars (s : State) : (advanceCycle s).cars = s.cars := rfl
@[simp] theorem advanceCycle_sync (s : State) : (advanceCycle s).sync = s.sync := rfl
@[simp] theorem advanceCycle_plan (s : State) : (advanceCycle s).plan = s.plan := rfl
@[simp] theorem advanceCycle_line (s : State) : (advanceCycle s).line = s.line := rfl
@[simp] theorem advanceCycle_link (s : State) : (advanceCycle s).link = s.link := rfl
@[simp] theorem advanceCycle_pins (s : State) : (advanceCycle s).pins = s.pins := rfl
@[simp] theorem advanceCycle_pending (s : State) : (advanceCycle s).pending = s.pending := rfl

@[simp] theorem seekAll_cars (s : State) : (seekAll s).cars = s.cars := rfl
@[simp] theorem seekAll_group (s : State) : (seekAll s).group = s.group := rfl
@[simp] theorem seekAll_sync (s : State) : (seekAll s).sync = s.sync := rfl
@[simp] theorem seekAll_plan (s : State) : (seekAll s).plan = s.plan := rfl
@[simp] theorem seekAll_line (s : State) : (seekAll s).line = s.line := rfl
@[simp] theorem seekAll_link (s : State) : (seekAll s).link = s.link := rfl
@[simp] theorem seekAll_pins (s : State) : (seekAll s).pins = s.pins := rfl
@[simp] theorem seekAll_pending (s : State) : (seekAll s).pending = s.pending := rfl

@[simp] theorem beginDescent_jacks (s : State) : (beginDescent s).jacks = s.jacks := rfl
@[simp] theorem beginDescent_cars (s : State) : (beginDescent s).cars = s.cars := rfl
@[simp] theorem beginDescent_group (s : State) : (beginDescent s).group = s.group := rfl
@[simp] theorem beginDescent_plan (s : State) : (beginDescent s).plan = s.plan := rfl
@[simp] theorem beginDescent_line (s : State) : (beginDescent s).line = s.line := rfl
@[simp] theorem beginDescent_link (s : State) : (beginDescent s).link = s.link := rfl
@[simp] theorem beginDescent_pins (s : State) : (beginDescent s).pins = s.pins := rfl
@[simp] theorem beginDescent_pending (s : State) : (beginDescent s).pending = s.pending := rfl

@[simp] theorem clearSlot_jacks (s : State) : (clearSlot s).jacks = s.jacks := rfl
@[simp] theorem clearSlot_cars (s : State) : (clearSlot s).cars = s.cars := rfl
@[simp] theorem clearSlot_sync (s : State) : (clearSlot s).sync = s.sync := rfl
@[simp] theorem clearSlot_plan (s : State) : (clearSlot s).plan = s.plan := rfl
@[simp] theorem clearSlot_line (s : State) : (clearSlot s).line = s.line := rfl
@[simp] theorem clearSlot_link (s : State) : (clearSlot s).link = s.link := rfl
@[simp] theorem clearSlot_pins (s : State) : (clearSlot s).pins = s.pins := rfl
@[simp] theorem clearSlot_pending (s : State) : (clearSlot s).pending = s.pending := rfl

@[simp] theorem fillSlot_jacks (c : SlotCommand) (s : State) : (fillSlot c s).jacks = s.jacks := rfl
@[simp] theorem fillSlot_cars (c : SlotCommand) (s : State) : (fillSlot c s).cars = s.cars := rfl
@[simp] theorem fillSlot_sync (c : SlotCommand) (s : State) : (fillSlot c s).sync = s.sync := rfl
@[simp] theorem fillSlot_plan (c : SlotCommand) (s : State) : (fillSlot c s).plan = s.plan := rfl
@[simp] theorem fillSlot_line (c : SlotCommand) (s : State) : (fillSlot c s).line = s.line := rfl
@[simp] theorem fillSlot_link (c : SlotCommand) (s : State) : (fillSlot c s).link = s.link := rfl
@[simp] theorem fillSlot_pins (c : SlotCommand) (s : State) : (fillSlot c s).pins = s.pins := rfl
@[simp] theorem fillSlot_pending (c : SlotCommand) (s : State) : (fillSlot c s).pending = s.pending := rfl

@[simp] theorem armWarnings_jacks (s : State) : (armWarnings s).jacks = s.jacks := rfl
@[simp] theorem armWarnings_group (s : State) : (armWarnings s).group = s.group := rfl
@[simp] theorem armWarnings_sync (s : State) : (armWarnings s).sync = s.sync := rfl
@[simp] theorem armWarnings_plan (s : State) : (armWarnings s).plan = s.plan := rfl
@[simp] theorem armWarnings_line (s : State) : (armWarnings s).line = s.line := rfl
@[simp] theorem armWarnings_link (s : State) : (armWarnings s).link = s.link := rfl
@[simp] theorem armWarnings_pins (s : State) : (armWarnings s).pins = s.pins := rfl
@[simp] theorem armWarnings_pending (s : State) : (armWarnings s).pending = s.pending := rfl

@[simp] theorem armImbalance_cars (c : Car) (s : State) : (armImbalance c s).cars = s.cars := rfl
@[simp] theorem armImbalance_group (c : Car) (s : State) : (armImbalance c s).group = s.group := rfl
@[simp] theorem armImbalance_sync (c : Car) (s : State) : (armImbalance c s).sync = s.sync := rfl
@[simp] theorem armImbalance_plan (c : Car) (s : State) : (armImbalance c s).plan = s.plan := rfl
@[simp] theorem armImbalance_line (c : Car) (s : State) : (armImbalance c s).line = s.line := rfl
@[simp] theorem armImbalance_link (c : Car) (s : State) : (armImbalance c s).link = s.link := rfl
@[simp] theorem armImbalance_pins (c : Car) (s : State) : (armImbalance c s).pins = s.pins := rfl
@[simp] theorem armImbalance_pending (c : Car) (s : State) : (armImbalance c s).pending = s.pending := rfl

@[simp] theorem clearSlipMark_cars (k : Sta) (s : State) : (clearSlipMark k s).cars = s.cars := rfl
@[simp] theorem clearSlipMark_group (k : Sta) (s : State) : (clearSlipMark k s).group = s.group := rfl
@[simp] theorem clearSlipMark_sync (k : Sta) (s : State) : (clearSlipMark k s).sync = s.sync := rfl
@[simp] theorem clearSlipMark_plan (k : Sta) (s : State) : (clearSlipMark k s).plan = s.plan := rfl
@[simp] theorem clearSlipMark_line (k : Sta) (s : State) : (clearSlipMark k s).line = s.line := rfl
@[simp] theorem clearSlipMark_link (k : Sta) (s : State) : (clearSlipMark k s).link = s.link := rfl
@[simp] theorem clearSlipMark_pins (k : Sta) (s : State) : (clearSlipMark k s).pins = s.pins := rfl
@[simp] theorem clearSlipMark_pending (k : Sta) (s : State) : (clearSlipMark k s).pending = s.pending := rfl

@[simp] theorem loseDatum_cars (k : Sta) (s : State) : (loseDatum k s).cars = s.cars := rfl
@[simp] theorem loseDatum_group (k : Sta) (s : State) : (loseDatum k s).group = s.group := rfl
@[simp] theorem loseDatum_sync (k : Sta) (s : State) : (loseDatum k s).sync = s.sync := rfl
@[simp] theorem loseDatum_plan (k : Sta) (s : State) : (loseDatum k s).plan = s.plan := rfl
@[simp] theorem loseDatum_line (k : Sta) (s : State) : (loseDatum k s).line = s.line := rfl
@[simp] theorem loseDatum_link (k : Sta) (s : State) : (loseDatum k s).link = s.link := rfl
@[simp] theorem loseDatum_pins (k : Sta) (s : State) : (loseDatum k s).pins = s.pins := rfl
@[simp] theorem loseDatum_pending (k : Sta) (s : State) : (loseDatum k s).pending = s.pending := rfl

@[simp] theorem setHome_cars (k : Sta) (b : Bool) (s : State) : (setHome k b s).cars = s.cars := rfl
@[simp] theorem setHome_group (k : Sta) (b : Bool) (s : State) : (setHome k b s).group = s.group := rfl
@[simp] theorem setHome_sync (k : Sta) (b : Bool) (s : State) : (setHome k b s).sync = s.sync := rfl
@[simp] theorem setHome_plan (k : Sta) (b : Bool) (s : State) : (setHome k b s).plan = s.plan := rfl
@[simp] theorem setHome_line (k : Sta) (b : Bool) (s : State) : (setHome k b s).line = s.line := rfl
@[simp] theorem setHome_link (k : Sta) (b : Bool) (s : State) : (setHome k b s).link = s.link := rfl
@[simp] theorem setHome_pins (k : Sta) (b : Bool) (s : State) : (setHome k b s).pins = s.pins := rfl
@[simp] theorem setHome_pending (k : Sta) (b : Bool) (s : State) : (setHome k b s).pending = s.pending := rfl

@[simp] theorem setPermit_jacks (b : Bool) (s : State) : (setPermit b s).jacks = s.jacks := rfl
@[simp] theorem setPermit_cars (b : Bool) (s : State) : (setPermit b s).cars = s.cars := rfl
@[simp] theorem setPermit_sync (b : Bool) (s : State) : (setPermit b s).sync = s.sync := rfl
@[simp] theorem setPermit_plan (b : Bool) (s : State) : (setPermit b s).plan = s.plan := rfl
@[simp] theorem setPermit_line (b : Bool) (s : State) : (setPermit b s).line = s.line := rfl
@[simp] theorem setPermit_link (b : Bool) (s : State) : (setPermit b s).link = s.link := rfl
@[simp] theorem setPermit_pins (b : Bool) (s : State) : (setPermit b s).pins = s.pins := rfl
@[simp] theorem setPermit_pending (b : Bool) (s : State) : (setPermit b s).pending = s.pending := rfl

@[simp] theorem setPermitLine_jacks (b : Bool) (s : State) : (setPermitLine b s).jacks = s.jacks := rfl
@[simp] theorem setPermitLine_cars (b : Bool) (s : State) : (setPermitLine b s).cars = s.cars := rfl
@[simp] theorem setPermitLine_group (b : Bool) (s : State) : (setPermitLine b s).group = s.group := rfl
@[simp] theorem setPermitLine_sync (b : Bool) (s : State) : (setPermitLine b s).sync = s.sync := rfl
@[simp] theorem setPermitLine_plan (b : Bool) (s : State) : (setPermitLine b s).plan = s.plan := rfl
@[simp] theorem setPermitLine_line (b : Bool) (s : State) : (setPermitLine b s).line = s.line := rfl
@[simp] theorem setPermitLine_link (b : Bool) (s : State) : (setPermitLine b s).link = s.link := rfl
@[simp] theorem setPermitLine_pending (b : Bool) (s : State) : (setPermitLine b s).pending = s.pending := rfl

@[simp] theorem dropBeacon_jacks (s : State) : (dropBeacon s).jacks = s.jacks := rfl
@[simp] theorem dropBeacon_cars (s : State) : (dropBeacon s).cars = s.cars := rfl
@[simp] theorem dropBeacon_group (s : State) : (dropBeacon s).group = s.group := rfl
@[simp] theorem dropBeacon_sync (s : State) : (dropBeacon s).sync = s.sync := rfl
@[simp] theorem dropBeacon_plan (s : State) : (dropBeacon s).plan = s.plan := rfl
@[simp] theorem dropBeacon_line (s : State) : (dropBeacon s).line = s.line := rfl
@[simp] theorem dropBeacon_pins (s : State) : (dropBeacon s).pins = s.pins := rfl
@[simp] theorem dropBeacon_pending (s : State) : (dropBeacon s).pending = s.pending := rfl

@[simp] theorem setAssembler_jacks (a : Assembler) (s : State) : (setAssembler a s).jacks = s.jacks := rfl
@[simp] theorem setAssembler_cars (a : Assembler) (s : State) : (setAssembler a s).cars = s.cars := rfl
@[simp] theorem setAssembler_group (a : Assembler) (s : State) : (setAssembler a s).group = s.group := rfl
@[simp] theorem setAssembler_sync (a : Assembler) (s : State) : (setAssembler a s).sync = s.sync := rfl
@[simp] theorem setAssembler_plan (a : Assembler) (s : State) : (setAssembler a s).plan = s.plan := rfl
@[simp] theorem setAssembler_link (a : Assembler) (s : State) : (setAssembler a s).link = s.link := rfl
@[simp] theorem setAssembler_pins (a : Assembler) (s : State) : (setAssembler a s).pins = s.pins := rfl
@[simp] theorem setAssembler_pending (a : Assembler) (s : State) : (setAssembler a s).pending = s.pending := rfl

theorem updJack_jack (s : State) (i k : Sta) (f : Jack → Jack) : (s.updJack k f).jack i = if i = k then f (s.jack i) else s.jack i := PerStation.get_modify _ _ _ _
@[simp] theorem updJack_jack_self (s : State) (k : Sta) (f : Jack → Jack) : (s.updJack k f).jack k = f (s.jack k) := PerStation.get_modify_self _ _ _
@[simp] theorem updAll_jack (s : State) (k : Sta) (f : Sta → Jack → Jack) : (s.updAll f).jack k = f k (s.jack k) := PerStation.get_mapAll _ _ _

theorem updJack_jack_ne (s : State) {i k : Sta} (f : Jack → Jack) (h : i ≠ k) : (s.updJack k f).jack i = s.jack i :=
  PerStation.get_modify_ne _ _ h

@[simp] theorem updCar_jack (s : State) (i : Nat) (f : Car → Car) (k : Sta) : (s.updCar i f).jack k = s.jack k := rfl
@[simp] theorem raise_jack (e : Event) (s : State) (k : Sta) : (raise e s).jack k = s.jack k := rfl
@[simp] theorem clearReference_jack (s : State) (k : Sta) : (clearReference s).jack k = s.jack k := rfl
@[simp] theorem setCause_jack (c : StopCause) (s : State) (k : Sta) : (setCause c s).jack k = s.jack k := rfl
@[simp] theorem clearWait_jack (s : State) (k : Sta) : (clearWait s).jack k = s.jack k := rfl
@[simp] theorem freezeReference_jack (s : State) (k : Sta) : (freezeReference s).jack k = s.jack k := rfl
@[simp] theorem endDescent_jack (s : State) (k : Sta) : (endDescent s).jack k = s.jack k := rfl
@[simp] theorem haltReference_jack (s : State) (k : Sta) : (haltReference s).jack k = s.jack k := rfl
@[simp] theorem setFaults_jack (l : List FaultEntry) (s : State) (k : Sta) : (setFaults l s).jack k = s.jack k := rfl
@[simp] theorem setQueue_jack (q : List Frame) (s : State) (k : Sta) : (setQueue q s).jack k = s.jack k := rfl
@[simp] theorem setPendingEvents_jack (l : List PendingEvent) (s : State) (k : Sta) : (setPendingEvents l s).jack k = s.jack k := rfl
@[simp] theorem enqueue_jack (f : Frame) (s : State) (k : Sta) : (enqueue f s).jack k = s.jack k := rfl
@[simp] theorem setStreamCount_jack (n : Nat) (s : State) (k : Sta) : (setStreamCount n s).jack k = s.jack k := rfl
@[simp] theorem setWait_jack (n : Nat) (w : Bool) (s : State) (k : Sta) : (setWait n w s).jack k = s.jack k := rfl
@[simp] theorem setRef_jack (r : Ref) (s : State) (k : Sta) : (setRef r s).jack k = s.jack k := rfl
@[simp] theorem forceReference_jack (s : State) (k : Sta) : (forceReference s).jack k = s.jack k := rfl
@[simp] theorem advanceCycle_jack (s : State) (k : Sta) : (advanceCycle s).jack k = s.jack k := rfl
@[simp] theorem beginDescent_jack (s : State) (k : Sta) : (beginDescent s).jack k = s.jack k := rfl
@[simp] theorem clearSlot_jack (s : State) (k : Sta) : (clearSlot s).jack k = s.jack k := rfl
@[simp] theorem fillSlot_jack (c : SlotCommand) (s : State) (k : Sta) : (fillSlot c s).jack k = s.jack k := rfl
@[simp] theorem armWarnings_jack (s : State) (k : Sta) : (armWarnings s).jack k = s.jack k := rfl
@[simp] theorem setPermit_jack (b : Bool) (s : State) (k : Sta) : (setPermit b s).jack k = s.jack k := rfl
@[simp] theorem setPermitLine_jack (b : Bool) (s : State) (k : Sta) : (setPermitLine b s).jack k = s.jack k := rfl
@[simp] theorem dropBeacon_jack (s : State) (k : Sta) : (dropBeacon s).jack k = s.jack k := rfl
@[simp] theorem setAssembler_jack (a : Assembler) (s : State) (k : Sta) : (setAssembler a s).jack k = s.jack k := rfl

@[simp] theorem setCause_group_state (c : StopCause) (s : State) : (setCause c s).group.state = s.group.state := rfl
@[simp] theorem setCause_group_validated (c : StopCause) (s : State) : (setCause c s).group.validated = s.group.validated := rfl
@[simp] theorem setCause_group_permit (c : StopCause) (s : State) : (setCause c s).group.permit = s.group.permit := rfl
@[simp] theorem setCause_group_waitCount (c : StopCause) (s : State) : (setCause c s).group.waitCount = s.group.waitCount := rfl
@[simp] theorem setCause_group_cycle (c : StopCause) (s : State) : (setCause c s).group.cycle = s.group.cycle := rfl
@[simp] theorem setCause_group_slot (c : StopCause) (s : State) : (setCause c s).group.slot = s.group.slot := rfl
@[simp] theorem setCause_group_faults (c : StopCause) (s : State) : (setCause c s).group.faults = s.group.faults := rfl
@[simp] theorem setCause_group_overflow (c : StopCause) (s : State) : (setCause c s).group.overflow = s.group.overflow := rfl
@[simp] theorem setCause_group_params (c : StopCause) (s : State) : (setCause c s).group.params = s.group.params := rfl
@[simp] theorem setCause_group_ratesForced (c : StopCause) (s : State) : (setCause c s).group.ratesForced = s.group.ratesForced := rfl
@[simp] theorem clearWait_group_state (s : State) : (clearWait s).group.state = s.group.state := rfl
@[simp] theorem clearWait_group_validated (s : State) : (clearWait s).group.validated = s.group.validated := rfl
@[simp] theorem clearWait_group_cause (s : State) : (clearWait s).group.cause = s.group.cause := rfl
@[simp] theorem clearWait_group_permit (s : State) : (clearWait s).group.permit = s.group.permit := rfl
@[simp] theorem clearWait_group_cycle (s : State) : (clearWait s).group.cycle = s.group.cycle := rfl
@[simp] theorem clearWait_group_slot (s : State) : (clearWait s).group.slot = s.group.slot := rfl
@[simp] theorem clearWait_group_faults (s : State) : (clearWait s).group.faults = s.group.faults := rfl
@[simp] theorem clearWait_group_overflow (s : State) : (clearWait s).group.overflow = s.group.overflow := rfl
@[simp] theorem clearWait_group_params (s : State) : (clearWait s).group.params = s.group.params := rfl
@[simp] theorem clearWait_group_ratesForced (s : State) : (clearWait s).group.ratesForced = s.group.ratesForced := rfl
@[simp] theorem setFaults_group_state (l : List FaultEntry) (s : State) : (setFaults l s).group.state = s.group.state := rfl
@[simp] theorem setFaults_group_validated (l : List FaultEntry) (s : State) : (setFaults l s).group.validated = s.group.validated := rfl
@[simp] theorem setFaults_group_cause (l : List FaultEntry) (s : State) : (setFaults l s).group.cause = s.group.cause := rfl
@[simp] theorem setFaults_group_permit (l : List FaultEntry) (s : State) : (setFaults l s).group.permit = s.group.permit := rfl
@[simp] theorem setFaults_group_waitCount (l : List FaultEntry) (s : State) : (setFaults l s).group.waitCount = s.group.waitCount := rfl
@[simp] theorem setFaults_group_cycle (l : List FaultEntry) (s : State) : (setFaults l s).group.cycle = s.group.cycle := rfl
@[simp] theorem setFaults_group_slot (l : List FaultEntry) (s : State) : (setFaults l s).group.slot = s.group.slot := rfl
@[simp] theorem setFaults_group_params (l : List FaultEntry) (s : State) : (setFaults l s).group.params = s.group.params := rfl
@[simp] theorem setFaults_group_ratesForced (l : List FaultEntry) (s : State) : (setFaults l s).group.ratesForced = s.group.ratesForced := rfl
@[simp] theorem setPermit_group_state (b : Bool) (s : State) : (setPermit b s).group.state = s.group.state := rfl
@[simp] theorem setPermit_group_validated (b : Bool) (s : State) : (setPermit b s).group.validated = s.group.validated := rfl
@[simp] theorem setPermit_group_cause (b : Bool) (s : State) : (setPermit b s).group.cause = s.group.cause := rfl
@[simp] theorem setPermit_group_waitCount (b : Bool) (s : State) : (setPermit b s).group.waitCount = s.group.waitCount := rfl
@[simp] theorem setPermit_group_cycle (b : Bool) (s : State) : (setPermit b s).group.cycle = s.group.cycle := rfl
@[simp] theorem setPermit_group_slot (b : Bool) (s : State) : (setPermit b s).group.slot = s.group.slot := rfl
@[simp] theorem setPermit_group_faults (b : Bool) (s : State) : (setPermit b s).group.faults = s.group.faults := rfl
@[simp] theorem setPermit_group_overflow (b : Bool) (s : State) : (setPermit b s).group.overflow = s.group.overflow := rfl
@[simp] theorem setPermit_group_params (b : Bool) (s : State) : (setPermit b s).group.params = s.group.params := rfl
@[simp] theorem setPermit_group_ratesForced (b : Bool) (s : State) : (setPermit b s).group.ratesForced = s.group.ratesForced := rfl
@[simp] theorem clearSlot_group_state (s : State) : (clearSlot s).group.state = s.group.state := rfl
@[simp] theorem clearSlot_group_validated (s : State) : (clearSlot s).group.validated = s.group.validated := rfl
@[simp] theorem clearSlot_group_cause (s : State) : (clearSlot s).group.cause = s.group.cause := rfl
@[simp] theorem clearSlot_group_permit (s : State) : (clearSlot s).group.permit = s.group.permit := rfl
@[simp] theorem clearSlot_group_waitCount (s : State) : (clearSlot s).group.waitCount = s.group.waitCount := rfl
@[simp] theorem clearSlot_group_cycle (s : State) : (clearSlot s).group.cycle = s.group.cycle := rfl
@[simp] theorem clearSlot_group_faults (s : State) : (clearSlot s).group.faults = s.group.faults := rfl
@[simp] theorem clearSlot_group_overflow (s : State) : (clearSlot s).group.overflow = s.group.overflow := rfl
@[simp] theorem clearSlot_group_params (s : State) : (clearSlot s).group.params = s.group.params := rfl
@[simp] theorem clearSlot_group_ratesForced (s : State) : (clearSlot s).group.ratesForced = s.group.ratesForced := rfl
@[simp] theorem fillSlot_group_state (c : SlotCommand) (s : State) : (fillSlot c s).group.state = s.group.state := rfl
@[simp] theorem fillSlot_group_validated (c : SlotCommand) (s : State) : (fillSlot c s).group.validated = s.group.validated := rfl
@[simp] theorem fillSlot_group_cause (c : SlotCommand) (s : State) : (fillSlot c s).group.cause = s.group.cause := rfl
@[simp] theorem fillSlot_group_permit (c : SlotCommand) (s : State) : (fillSlot c s).group.permit = s.group.permit := rfl
@[simp] theorem fillSlot_group_waitCount (c : SlotCommand) (s : State) : (fillSlot c s).group.waitCount = s.group.waitCount := rfl
@[simp] theorem fillSlot_group_cycle (c : SlotCommand) (s : State) : (fillSlot c s).group.cycle = s.group.cycle := rfl
@[simp] theorem fillSlot_group_faults (c : SlotCommand) (s : State) : (fillSlot c s).group.faults = s.group.faults := rfl
@[simp] theorem fillSlot_group_overflow (c : SlotCommand) (s : State) : (fillSlot c s).group.overflow = s.group.overflow := rfl
@[simp] theorem fillSlot_group_params (c : SlotCommand) (s : State) : (fillSlot c s).group.params = s.group.params := rfl
@[simp] theorem fillSlot_group_ratesForced (c : SlotCommand) (s : State) : (fillSlot c s).group.ratesForced = s.group.ratesForced := rfl
@[simp] theorem advanceCycle_group_state (s : State) : (advanceCycle s).group.state = s.group.state := rfl
@[simp] theorem advanceCycle_group_validated (s : State) : (advanceCycle s).group.validated = s.group.validated := rfl
@[simp] theorem advanceCycle_group_cause (s : State) : (advanceCycle s).group.cause = s.group.cause := rfl
@[simp] theorem advanceCycle_group_permit (s : State) : (advanceCycle s).group.permit = s.group.permit := rfl
@[simp] theorem advanceCycle_group_waitCount (s : State) : (advanceCycle s).group.waitCount = s.group.waitCount := rfl
@[simp] theorem advanceCycle_group_slot (s : State) : (advanceCycle s).group.slot = s.group.slot := rfl
@[simp] theorem advanceCycle_group_faults (s : State) : (advanceCycle s).group.faults = s.group.faults := rfl
@[simp] theorem advanceCycle_group_overflow (s : State) : (advanceCycle s).group.overflow = s.group.overflow := rfl
@[simp] theorem advanceCycle_group_params (s : State) : (advanceCycle s).group.params = s.group.params := rfl
@[simp] theorem advanceCycle_group_ratesForced (s : State) : (advanceCycle s).group.ratesForced = s.group.ratesForced := rfl
@[simp] theorem haltReference_group_state (s : State) : (haltReference s).group.state = s.group.state := rfl
@[simp] theorem haltReference_group_validated (s : State) : (haltReference s).group.validated = s.group.validated := rfl
@[simp] theorem haltReference_group_cause (s : State) : (haltReference s).group.cause = s.group.cause := rfl
@[simp] theorem haltReference_group_permit (s : State) : (haltReference s).group.permit = s.group.permit := rfl
@[simp] theorem haltReference_group_cycle (s : State) : (haltReference s).group.cycle = s.group.cycle := rfl
@[simp] theorem haltReference_group_slot (s : State) : (haltReference s).group.slot = s.group.slot := rfl
@[simp] theorem haltReference_group_faults (s : State) : (haltReference s).group.faults = s.group.faults := rfl
@[simp] theorem haltReference_group_overflow (s : State) : (haltReference s).group.overflow = s.group.overflow := rfl
@[simp] theorem haltReference_group_params (s : State) : (haltReference s).group.params = s.group.params := rfl
@[simp] theorem haltReference_group_ratesForced (s : State) : (haltReference s).group.ratesForced = s.group.ratesForced := rfl
@[simp] theorem motionReset_group_state (b : Bool) (s : State) : (motionReset b s).group.state = s.group.state := rfl
@[simp] theorem motionReset_group_validated (b : Bool) (s : State) : (motionReset b s).group.validated = s.group.validated := rfl
@[simp] theorem motionReset_group_cause (b : Bool) (s : State) : (motionReset b s).group.cause = s.group.cause := rfl
@[simp] theorem motionReset_group_permit (b : Bool) (s : State) : (motionReset b s).group.permit = s.group.permit := rfl
@[simp] theorem motionReset_group_cycle (b : Bool) (s : State) : (motionReset b s).group.cycle = s.group.cycle := rfl
@[simp] theorem motionReset_group_slot (b : Bool) (s : State) : (motionReset b s).group.slot = s.group.slot := rfl
@[simp] theorem motionReset_group_faults (b : Bool) (s : State) : (motionReset b s).group.faults = s.group.faults := rfl
@[simp] theorem motionReset_group_overflow (b : Bool) (s : State) : (motionReset b s).group.overflow = s.group.overflow := rfl
@[simp] theorem motionReset_group_params (b : Bool) (s : State) : (motionReset b s).group.params = s.group.params := rfl
@[simp] theorem motionReset_group_ratesForced (b : Bool) (s : State) : (motionReset b s).group.ratesForced = s.group.ratesForced := rfl
@[simp] theorem setWait_group_state (n : Nat) (w : Bool) (s : State) : (setWait n w s).group.state = s.group.state := rfl
@[simp] theorem setWait_group_validated (n : Nat) (w : Bool) (s : State) : (setWait n w s).group.validated = s.group.validated := rfl
@[simp] theorem setWait_group_cause (n : Nat) (w : Bool) (s : State) : (setWait n w s).group.cause = s.group.cause := rfl
@[simp] theorem setWait_group_permit (n : Nat) (w : Bool) (s : State) : (setWait n w s).group.permit = s.group.permit := rfl
@[simp] theorem setWait_group_cycle (n : Nat) (w : Bool) (s : State) : (setWait n w s).group.cycle = s.group.cycle := rfl
@[simp] theorem setWait_group_slot (n : Nat) (w : Bool) (s : State) : (setWait n w s).group.slot = s.group.slot := rfl
@[simp] theorem setWait_group_faults (n : Nat) (w : Bool) (s : State) : (setWait n w s).group.faults = s.group.faults := rfl
@[simp] theorem setWait_group_overflow (n : Nat) (w : Bool) (s : State) : (setWait n w s).group.overflow = s.group.overflow := rfl
@[simp] theorem setWait_group_params (n : Nat) (w : Bool) (s : State) : (setWait n w s).group.params = s.group.params := rfl
@[simp] theorem setWait_group_ratesForced (n : Nat) (w : Bool) (s : State) : (setWait n w s).group.ratesForced = s.group.ratesForced := rfl

@[simp] theorem raise_line_asm (e : Event) (s : State) : (raise e s).line.asm = s.line.asm := rfl
@[simp] theorem raise_line_queue (e : Event) (s : State) : (raise e s).line.queue = s.line.queue := rfl
@[simp] theorem raise_line_pending (e : Event) (s : State) : (raise e s).line.pending = s.line.pending := rfl
@[simp] theorem raise_line_mask (e : Event) (s : State) : (raise e s).line.mask = s.line.mask := rfl
@[simp] theorem raise_line_streamPeriod (e : Event) (s : State) : (raise e s).line.streamPeriod = s.line.streamPeriod := rfl
@[simp] theorem raise_line_streamCount (e : Event) (s : State) : (raise e s).line.streamCount = s.line.streamCount := rfl
@[simp] theorem raise_line_cold (e : Event) (s : State) : (raise e s).line.cold = s.line.cold := rfl
@[simp] theorem raise_line_speed1 (e : Event) (s : State) : (raise e s).line.speed1 = s.line.speed1 := rfl
@[simp] theorem raise_line_speed0 (e : Event) (s : State) : (raise e s).line.speed0 = s.line.speed0 := rfl
@[simp] theorem setQueue_line_asm (q : List Frame) (s : State) : (setQueue q s).line.asm = s.line.asm := rfl
@[simp] theorem setQueue_line_pending (q : List Frame) (s : State) : (setQueue q s).line.pending = s.line.pending := rfl
@[simp] theorem setQueue_line_mask (q : List Frame) (s : State) : (setQueue q s).line.mask = s.line.mask := rfl
@[simp] theorem setQueue_line_streamPeriod (q : List Frame) (s : State) : (setQueue q s).line.streamPeriod = s.line.streamPeriod := rfl
@[simp] theorem setQueue_line_streamCount (q : List Frame) (s : State) : (setQueue q s).line.streamCount = s.line.streamCount := rfl
@[simp] theorem setQueue_line_cold (q : List Frame) (s : State) : (setQueue q s).line.cold = s.line.cold := rfl
@[simp] theorem setQueue_line_speed1 (q : List Frame) (s : State) : (setQueue q s).line.speed1 = s.line.speed1 := rfl
@[simp] theorem setQueue_line_speed0 (q : List Frame) (s : State) : (setQueue q s).line.speed0 = s.line.speed0 := rfl
@[simp] theorem setQueue_line_raised (q : List Frame) (s : State) : (setQueue q s).line.raised = s.line.raised := rfl
@[simp] theorem setPendingEvents_line_asm (l : List PendingEvent) (s : State) : (setPendingEvents l s).line.asm = s.line.asm := rfl
@[simp] theorem setPendingEvents_line_queue (l : List PendingEvent) (s : State) : (setPendingEvents l s).line.queue = s.line.queue := rfl
@[simp] theorem setPendingEvents_line_mask (l : List PendingEvent) (s : State) : (setPendingEvents l s).line.mask = s.line.mask := rfl
@[simp] theorem setPendingEvents_line_streamPeriod (l : List PendingEvent) (s : State) : (setPendingEvents l s).line.streamPeriod = s.line.streamPeriod := rfl
@[simp] theorem setPendingEvents_line_streamCount (l : List PendingEvent) (s : State) : (setPendingEvents l s).line.streamCount = s.line.streamCount := rfl
@[simp] theorem setPendingEvents_line_cold (l : List PendingEvent) (s : State) : (setPendingEvents l s).line.cold = s.line.cold := rfl
@[simp] theorem setPendingEvents_line_speed1 (l : List PendingEvent) (s : State) : (setPendingEvents l s).line.speed1 = s.line.speed1 := rfl
@[simp] theorem setPendingEvents_line_speed0 (l : List PendingEvent) (s : State) : (setPendingEvents l s).line.speed0 = s.line.speed0 := rfl
@[simp] theorem setPendingEvents_line_raised (l : List PendingEvent) (s : State) : (setPendingEvents l s).line.raised = s.line.raised := rfl
@[simp] theorem enqueue_line_asm (f : Frame) (s : State) : (enqueue f s).line.asm = s.line.asm := rfl
@[simp] theorem enqueue_line_pending (f : Frame) (s : State) : (enqueue f s).line.pending = s.line.pending := rfl
@[simp] theorem enqueue_line_mask (f : Frame) (s : State) : (enqueue f s).line.mask = s.line.mask := rfl
@[simp] theorem enqueue_line_streamPeriod (f : Frame) (s : State) : (enqueue f s).line.streamPeriod = s.line.streamPeriod := rfl
@[simp] theorem enqueue_line_streamCount (f : Frame) (s : State) : (enqueue f s).line.streamCount = s.line.streamCount := rfl
@[simp] theorem enqueue_line_cold (f : Frame) (s : State) : (enqueue f s).line.cold = s.line.cold := rfl
@[simp] theorem enqueue_line_speed1 (f : Frame) (s : State) : (enqueue f s).line.speed1 = s.line.speed1 := rfl
@[simp] theorem enqueue_line_speed0 (f : Frame) (s : State) : (enqueue f s).line.speed0 = s.line.speed0 := rfl
@[simp] theorem enqueue_line_raised (f : Frame) (s : State) : (enqueue f s).line.raised = s.line.raised := rfl
@[simp] theorem setStreamCount_line_asm (n : Nat) (s : State) : (setStreamCount n s).line.asm = s.line.asm := rfl
@[simp] theorem setStreamCount_line_queue (n : Nat) (s : State) : (setStreamCount n s).line.queue = s.line.queue := rfl
@[simp] theorem setStreamCount_line_pending (n : Nat) (s : State) : (setStreamCount n s).line.pending = s.line.pending := rfl
@[simp] theorem setStreamCount_line_mask (n : Nat) (s : State) : (setStreamCount n s).line.mask = s.line.mask := rfl
@[simp] theorem setStreamCount_line_streamPeriod (n : Nat) (s : State) : (setStreamCount n s).line.streamPeriod = s.line.streamPeriod := rfl
@[simp] theorem setStreamCount_line_cold (n : Nat) (s : State) : (setStreamCount n s).line.cold = s.line.cold := rfl
@[simp] theorem setStreamCount_line_speed1 (n : Nat) (s : State) : (setStreamCount n s).line.speed1 = s.line.speed1 := rfl
@[simp] theorem setStreamCount_line_speed0 (n : Nat) (s : State) : (setStreamCount n s).line.speed0 = s.line.speed0 := rfl
@[simp] theorem setStreamCount_line_raised (n : Nat) (s : State) : (setStreamCount n s).line.raised = s.line.raised := rfl
@[simp] theorem setAssembler_line_queue (a : Assembler) (s : State) : (setAssembler a s).line.queue = s.line.queue := rfl
@[simp] theorem setAssembler_line_pending (a : Assembler) (s : State) : (setAssembler a s).line.pending = s.line.pending := rfl
@[simp] theorem setAssembler_line_mask (a : Assembler) (s : State) : (setAssembler a s).line.mask = s.line.mask := rfl
@[simp] theorem setAssembler_line_streamPeriod (a : Assembler) (s : State) : (setAssembler a s).line.streamPeriod = s.line.streamPeriod := rfl
@[simp] theorem setAssembler_line_streamCount (a : Assembler) (s : State) : (setAssembler a s).line.streamCount = s.line.streamCount := rfl
@[simp] theorem setAssembler_line_cold (a : Assembler) (s : State) : (setAssembler a s).line.cold = s.line.cold := rfl
@[simp] theorem setAssembler_line_speed1 (a : Assembler) (s : State) : (setAssembler a s).line.speed1 = s.line.speed1 := rfl
@[simp] theorem setAssembler_line_speed0 (a : Assembler) (s : State) : (setAssembler a s).line.speed0 = s.line.speed0 := rfl
@[simp] theorem setAssembler_line_raised (a : Assembler) (s : State) : (setAssembler a s).line.raised = s.line.raised := rfl

@[simp] theorem clearReference_sync_planPos (s : State) : (clearReference s).sync.planPos = s.sync.planPos := rfl
@[simp] theorem clearReference_sync_dwell (s : State) : (clearReference s).sync.dwell = s.sync.dwell := rfl
@[simp] theorem clearReference_sync_descent (s : State) : (clearReference s).sync.descent = s.sync.descent := rfl
@[simp] theorem clearReference_sync_waiting (s : State) : (clearReference s).sync.waiting = s.sync.waiting := rfl
@[simp] theorem freezeReference_sync_ref (s : State) : (freezeReference s).sync.ref = s.sync.ref := rfl
@[simp] theorem freezeReference_sync_dir (s : State) : (freezeReference s).sync.dir = s.sync.dir := rfl
@[simp] theorem freezeReference_sync_planPos (s : State) : (freezeReference s).sync.planPos = s.sync.planPos := rfl
@[simp] theorem freezeReference_sync_dwell (s : State) : (freezeReference s).sync.dwell = s.sync.dwell := rfl
@[simp] theorem freezeReference_sync_descent (s : State) : (freezeReference s).sync.descent = s.sync.descent := rfl
@[simp] theorem freezeReference_sync_waiting (s : State) : (freezeReference s).sync.waiting = s.sync.waiting := rfl
@[simp] theorem endDescent_sync_ref (s : State) : (endDescent s).sync.ref = s.sync.ref := rfl
@[simp] theorem endDescent_sync_speed (s : State) : (endDescent s).sync.speed = s.sync.speed := rfl
@[simp] theorem endDescent_sync_dir (s : State) : (endDescent s).sync.dir = s.sync.dir := rfl
@[simp] theorem endDescent_sync_planPos (s : State) : (endDescent s).sync.planPos = s.sync.planPos := rfl
@[simp] theorem endDescent_sync_dwell (s : State) : (endDescent s).sync.dwell = s.sync.dwell := rfl
@[simp] theorem endDescent_sync_waiting (s : State) : (endDescent s).sync.waiting = s.sync.waiting := rfl
@[simp] theorem haltReference_sync_ref (s : State) : (haltReference s).sync.ref = s.sync.ref := rfl
@[simp] theorem haltReference_sync_dir (s : State) : (haltReference s).sync.dir = s.sync.dir := rfl
@[simp] theorem haltReference_sync_planPos (s : State) : (haltReference s).sync.planPos = s.sync.planPos := rfl
@[simp] theorem haltReference_sync_dwell (s : State) : (haltReference s).sync.dwell = s.sync.dwell := rfl
@[simp] theorem haltReference_sync_waiting (s : State) : (haltReference s).sync.waiting = s.sync.waiting := rfl
@[simp] theorem motionReset_sync_planPos (b : Bool) (s : State) : (motionReset b s).sync.planPos = s.sync.planPos := rfl
@[simp] theorem motionReset_sync_dwell (b : Bool) (s : State) : (motionReset b s).sync.dwell = s.sync.dwell := rfl
@[simp] theorem motionReset_sync_descent (b : Bool) (s : State) : (motionReset b s).sync.descent = s.sync.descent := rfl
@[simp] theorem motionReset_sync_waiting (b : Bool) (s : State) : (motionReset b s).sync.waiting = s.sync.waiting := rfl
@[simp] theorem setWait_sync_ref (n : Nat) (w : Bool) (s : State) : (setWait n w s).sync.ref = s.sync.ref := rfl
@[simp] theorem setWait_sync_speed (n : Nat) (w : Bool) (s : State) : (setWait n w s).sync.speed = s.sync.speed := rfl
@[simp] theorem setWait_sync_dir (n : Nat) (w : Bool) (s : State) : (setWait n w s).sync.dir = s.sync.dir := rfl
@[simp] theorem setWait_sync_planPos (n : Nat) (w : Bool) (s : State) : (setWait n w s).sync.planPos = s.sync.planPos := rfl
@[simp] theorem setWait_sync_dwell (n : Nat) (w : Bool) (s : State) : (setWait n w s).sync.dwell = s.sync.dwell := rfl
@[simp] theorem setWait_sync_descent (n : Nat) (w : Bool) (s : State) : (setWait n w s).sync.descent = s.sync.descent := rfl
@[simp] theorem setRef_sync_planPos (r : Ref) (s : State) : (setRef r s).sync.planPos = s.sync.planPos := rfl
@[simp] theorem setRef_sync_dwell (r : Ref) (s : State) : (setRef r s).sync.dwell = s.sync.dwell := rfl
@[simp] theorem setRef_sync_descent (r : Ref) (s : State) : (setRef r s).sync.descent = s.sync.descent := rfl
@[simp] theorem setRef_sync_waiting (r : Ref) (s : State) : (setRef r s).sync.waiting = s.sync.waiting := rfl
@[simp] theorem forceReference_sync_ref (s : State) : (forceReference s).sync.ref = s.sync.ref := rfl
@[simp] theorem forceReference_sync_planPos (s : State) : (forceReference s).sync.planPos = s.sync.planPos := rfl
@[simp] theorem forceReference_sync_dwell (s : State) : (forceReference s).sync.dwell = s.sync.dwell := rfl
@[simp] theorem forceReference_sync_descent (s : State) : (forceReference s).sync.descent = s.sync.descent := rfl
@[simp] theorem forceReference_sync_waiting (s : State) : (forceReference s).sync.waiting = s.sync.waiting := rfl
@[simp] theorem beginDescent_sync_ref (s : State) : (beginDescent s).sync.ref = s.sync.ref := rfl
@[simp] theorem beginDescent_sync_planPos (s : State) : (beginDescent s).sync.planPos = s.sync.planPos := rfl
@[simp] theorem beginDescent_sync_dwell (s : State) : (beginDescent s).sync.dwell = s.sync.dwell := rfl
@[simp] theorem beginDescent_sync_waiting (s : State) : (beginDescent s).sync.waiting = s.sync.waiting := rfl

@[simp] theorem setQueue_line_queue (q : List Frame) (s : State) : (setQueue q s).line.queue = q := rfl
@[simp] theorem enqueue_line_queue (f : Frame) (s : State) : (enqueue f s).line.queue = s.line.queue ++ [f] := rfl
@[simp] theorem setPendingEvents_line_pending (l : List PendingEvent) (s : State) : (setPendingEvents l s).line.pending = l := rfl
@[simp] theorem raise_line_raised (e : Event) (s : State) :
    (raise e s).line.raised = s.line.raised ++ [{ event := e, cycle := s.group.cycle }] := rfl
@[simp] theorem setAssembler_line_asm (a : Assembler) (s : State) : (setAssembler a s).line.asm = a := rfl
@[simp] theorem setStreamCount_line_streamCount (n : Nat) (s : State) : (setStreamCount n s).line.streamCount = n := rfl
@[simp] theorem setCause_group_cause (c : StopCause) (s : State) : (setCause c s).group.cause = c := rfl
@[simp] theorem clearWait_group_waitCount (s : State) : (clearWait s).group.waitCount = 0 := rfl
@[simp] theorem haltReference_group_waitCount (s : State) : (haltReference s).group.waitCount = 0 := rfl
@[simp] theorem setFaults_group_faults (l : List FaultEntry) (s : State) : (setFaults l s).group.faults = l := rfl
@[simp] theorem setPermit_group_permit (b : Bool) (s : State) : (setPermit b s).group.permit = b := rfl
@[simp] theorem setPermitLine_pins_permit (b : Bool) (s : State) : (setPermitLine b s).pins.permit = b := rfl
@[simp] theorem setPermitLine_pins_resetAsserted (b : Bool) (s : State) :
    (setPermitLine b s).pins.resetAsserted = s.pins.resetAsserted := rfl
@[simp] theorem clearSlot_group_slot (s : State) : (clearSlot s).group.slot = none := rfl
@[simp] theorem fillSlot_group_slot (c : SlotCommand) (s : State) : (fillSlot c s).group.slot = some c := rfl
@[simp] theorem clearReference_sync_ref (s : State) : (clearReference s).sync.ref = 0 := rfl
@[simp] theorem clearReference_sync_speed (s : State) : (clearReference s).sync.speed = 0 := rfl
@[simp] theorem clearReference_sync_dir (s : State) : (clearReference s).sync.dir = .none := rfl
@[simp] theorem freezeReference_sync_speed (s : State) : (freezeReference s).sync.speed = 0 := rfl
@[simp] theorem haltReference_sync_speed (s : State) : (haltReference s).sync.speed = 0 := rfl
@[simp] theorem haltReference_sync_descent (s : State) : (haltReference s).sync.descent = false := rfl
@[simp] theorem endDescent_sync_descent (s : State) : (endDescent s).sync.descent = false := rfl
@[simp] theorem forceReference_sync_speed (s : State) : (forceReference s).sync.speed = 0 := rfl
@[simp] theorem forceReference_sync_dir (s : State) : (forceReference s).sync.dir = .none := rfl
@[simp] theorem motionReset_sync_speed (b : Bool) (s : State) : (motionReset b s).sync.speed = 0 := rfl
@[simp] theorem motionReset_sync_ref (b : Bool) (s : State) : (motionReset b s).sync.ref = rebasedReference b s := rfl
@[simp] theorem motionReset_sync_dir (b : Bool) (s : State) : (motionReset b s).sync.dir = .none := rfl

end Sys2Proof.Machine
end

