-- ==== Sys2Proof/Laws/Jacks.lean ====
section
/-! SUPPORT. What each update of the stations makes of one station. -/

namespace Sys2Proof.Machine

@[simp] theorem updRec_jack_self (s : State) (k : Sta) (f : StationRec → StationRec) :
    (s.updRec k f).jack k = { s.jack k with record := f (s.jack k).record } := updJack_jack_self _ _ _

theorem updRec_jack_ne (s : State) {i k : Sta} (f : StationRec → StationRec) (h : i ≠ k) :
    (s.updRec k f).jack i = s.jack i := updJack_jack_ne _ _ h

@[simp] theorem updGen_jack_self (s : State) (k : Sta) (f : Generator → Generator) :
    (s.updGen k f).jack k = { s.jack k with gen := f (s.jack k).gen } := updJack_jack_self _ _ _

theorem updGen_jack_ne (s : State) {i k : Sta} (f : Generator → Generator) (h : i ≠ k) :
    (s.updGen k f).jack i = s.jack i := updJack_jack_ne _ _ h

@[simp] theorem settleBrakes_jack (s : State) (k : Sta) :
    (settleBrakes s).jack k =
      { s.jack k with gen := { (s.jack k).gen with
        brake := settledBrake s.group.permit s.group.state (s.jack k) } } := updAll_jack _ _ _

@[simp] theorem clearRates_jack (s : State) (k : Sta) :
    (clearRates s).jack k = { s.jack k with rate := 0, gen := { (s.jack k).gen with ceiling := false } } :=
  updAll_jack _ _ _

@[simp] theorem moveStations_jack (s : State) (k : Sta) :
    (moveStations s).jack k =
      { s.jack k with
        record := (s.jack k).record.moveByStop
        gen := if (s.jack k).isIn .releasing then (s.jack k).gen.stopForm else (s.jack k).gen } := updAll_jack _ _ _

@[simp] theorem latchAllRest_jack (s : State) (k : Sta) : (latchAllRest s).jack k = (s.jack k).latchRest :=
  updAll_jack _ _ _

@[simp] theorem motionReset_jack (b : Bool) (s : State) (k : Sta) :
    (motionReset b s).jack k = (s.jack k).latchRest := updAll_jack _ _ _

@[simp] theorem returnFaulted_jack (s : State) (k : Sta) :
    (returnFaulted s).jack k =
      { s.jack k with record := (s.jack k).record.retest (oldestFault s.group.faults k) } := updAll_jack _ _ _

@[simp] theorem latchWork_jack (s : State) (k : Sta) :
    (latchWork s).jack k =
      { s.jack k with pos := { (s.jack k).pos with
        latched := (s.jack k).pos.count, latchedRunning := (s.jack k).gen.running } } := updAll_jack _ _ _

@[simp] theorem takeOffsets_jack (s : State) (k : Sta) :
    (takeOffsets s).jack k = { s.jack k with record := (s.jack k).record.takeOffset } := updAll_jack _ _ _

@[simp] theorem beaconWork_jack (s : State) (k : Sta) :
    (beaconWork s).jack k = { s.jack k with link := { (s.jack k).link with slotOpen := true, bytes := [] } } :=
  PerStation.get_mapAll _ _ _

@[simp] theorem formErrors_jack (s : State) (k : Sta) :
    (formErrors s).jack k = { s.jack k with err := errorOf s.sync.ref (s.jack k) } := updAll_jack _ _ _

@[simp] theorem seekAll_jack (s : State) (k : Sta) :
    (seekAll s).jack k =
      if (s.jack k).isIn .idle then
        { s.jack k with record := (s.jack k).record.toSeeking (s.jack k).latchedHeight } else s.jack k :=
  updAll_jack _ _ _

@[simp] theorem abandonAll_jack (s : State) (k : Sta) :
    (abandonAll s).jack k =
      { (if (s.jack k).gen.running then (s.jack k).latchRest else s.jack k) with
        gen := (s.jack k).gen.abandon } := by
  have h : (abandonAll s).jack k =
      { (if (s.jack k).gen.running then (s.jack k).latchRest else s.jack k) with
        gen := (if (s.jack k).gen.running then (s.jack k).latchRest else s.jack k).gen.abandon } := updAll_jack _ _ _
  rw [h]
  split <;> rfl

/-- Carrying `f` out for every station keeps whatever one carrying out keeps. -/
theorem forStations_keeps {P : State → Prop} {f : Sta → State → State} (h : ∀ k t, P t → P (f k t)) {s : State}
    (hs : P s) : P (forStations f s) := by
  unfold forStations
  generalize Sta.all = l
  induction l generalizing s with
  | nil => exact hs
  | cons k l ih => exact ih (h k s hs)

/-- Taking a list of detections keeps whatever taking one keeps. -/
theorem takeDetections_keeps {P : State → Prop} (h : ∀ f k t, P t → P (takeDetection f k t)) {s : State} (hs : P s)
    (l : List Detection) : P (takeDetections l s) := by
  unfold takeDetections
  induction l generalizing s with
  | nil => exact hs
  | cons d l ih => exact ih (h d.kind d.subject s hs)

end Sys2Proof.Machine
end

