-- ==== Sys2Proof/Laws/Line.lean ====
section
/-! SUPPORT. What the line controller's shared operations do: handing events over, answering a request, settling brakes (R174, R176, R182, R50 to R52). -/

namespace Sys2Proof.Machine

/-! ### States are equal when their fields and jacks are -/

/-- Two states are equal when every jack and every other field are. -/
theorem State.ext_jack {s t : State} (hj : ∀ k, s.jack k = t.jack k) (hc : s.cars = t.cars) (hg : s.group = t.group)
    (hy : s.sync = t.sync) (hp : s.plan = t.plan) (hl : s.line = t.line) (hk : s.link = t.link) (hn : s.pins = t.pins)
    (hq : s.pending = t.pending) : s = t := by
  cases s; cases t
  simp_all [State.jack]
  exact PerStation.ext_get hj

/-- Replacing a jack by itself changes nothing. -/
theorem updJack_eq_self {s : State} {k : Sta} {f : Jack → Jack} (h : f (s.jack k) = s.jack k) : s.updJack k f = s := by
  refine State.ext_jack (fun i => ?_) rfl rfl rfl rfl rfl rfl rfl rfl
  by_cases e : i = k
  · subst e; rw [updJack_jack_self, h]
  · rw [updJack_jack_ne _ _ e]

/-- Replacing every jack by itself changes nothing. -/
theorem updAll_eq_self {s : State} {f : Sta → Jack → Jack} (h : ∀ k, f k (s.jack k) = s.jack k) : s.updAll f = s :=
  State.ext_jack (fun i => by rw [updAll_jack, h]) rfl rfl rfl rfl rfl rfl rfl rfl

/-! ### Handing events over (R182) -/

/-- With no event raised, handing over changes nothing. -/
theorem handOver_of_none {s : State} (h : s.line.raised = []) : handOver s = s := by
  unfold handOver
  rw [h]
  cases s
  rename_i line _ _ _
  cases line
  simp_all

@[simp] theorem markByte_false : markByte false = 0 := rfl
@[simp] theorem markByte_true : markByte true = 1 := rfl

/-- An event that finds room and nothing held back becomes its notice at once. -/
theorem handEvent_of_room {s : State} (e : Event) (h : RoomFor 1 s) :
    handEvent { event := e, cycle := s.group.cycle } s = noticed e s := by
  obtain ⟨hm, hp, -, hq⟩ := h
  have hq : s.line.queue.length < 5 := by omega
  simp [handEvent, hm, hp, masked, Config.noticeRoom, hq, noticed, enqueue, setQueue, eventFrame]

/-- A notice takes one place. -/
theorem RoomFor.noticed {n : Nat} {s : State} (h : RoomFor (n + 1) s) (e : Event) : RoomFor n (noticed e s) := by
  obtain ⟨hm, hp, hr, hq⟩ := h
  refine ⟨hm, hp, hr, ?_⟩
  simp only [Machine.noticed, List.length_append, List.length_cons, List.length_nil]
  omega

/-- A reply takes one place. -/
theorem RoomFor.answered {n : Nat} {s : State} (h : RoomFor (n + 1) s) (kind tag : Byte) (o : ReplyOutcome) (c : List Byte) :
    RoomFor n (answered kind tag o c s) := by
  obtain ⟨hm, hp, hr, hq⟩ := h
  refine ⟨hm, hp, hr, ?_⟩
  simp only [Machine.answered, List.length_append, List.length_cons, List.length_nil]
  omega

/-- Room for more is room for fewer. -/
theorem RoomFor.mono {m n : Nat} {s : State} (h : RoomFor n s) (hmn : m ≤ n) : RoomFor m s :=
  ⟨h.1, h.2.1, h.2.2.1, by have := h.2.2.2; omega⟩

/-- One event raised, with room for it, becomes its notice. -/
theorem handOver_raise {s : State} (e : Event) (h : RoomFor 1 s) : handOver (raise e s) = noticed e s := by
  have hr := h.2.2.1
  rw [← handEvent_of_room e h]
  unfold handOver raise
  simp only [hr, List.nil_append, List.foldl_cons, List.foldl_nil]
  congr 1
  cases s
  rename_i line _ _ _
  cases line
  simp_all

/-- Two events raised, with room for both, become their notices in order. -/
theorem handOver_raise_raise {s : State} (e f : Event) (h : RoomFor 2 s) :
    handOver (raise f (raise e s)) = noticed f (noticed e s) := by
  have hr := h.2.2.1
  rw [← handEvent_of_room f (h.noticed e), ← handEvent_of_room e (h.mono (by omega))]
  unfold handOver raise
  simp only [hr, List.nil_append, List.cons_append, List.foldl_cons, List.foldl_nil]
  rw [handEvent_of_room e (h.mono (by omega)), ← handEvent_of_room e (h.mono (by omega))]
  have : ({ s with line := { s.line with raised := [] } } : State) = s := by
    cases s
    rename_i line _ _ _
    cases line
    simp_all
  rw [this, handEvent_of_room e (h.mono (by omega))]
  rfl

/-! ### Requests (R174 to R176) -/

/-- A request taken by a ready part. -/
theorem takeKind_of_ready {s : State} (h : Ready s) (kind tag : Byte) (serve : State → Answer) :
    takeKind kind tag serve s = finishRequest .reply kind tag (serve s) := by
  obtain ⟨hr, hq, -⟩ := h
  have : ¬ (7 ≤ s.line.queue.length) := by omega
  simp [takeKind, whenRoom, hr, Config.requestRoom, this]

/-- A reply without events is admitted behind the frames held. -/
theorem finishRequest_of_none {s : State} (h : s.line.raised = []) (kind tag : Byte) (o : ReplyOutcome) (c : List Byte) :
    finishRequest .reply kind tag { state := s, reply := some { outcome := o, content := c } } =
      answered (replyKind kind) tag o c s := by
  unfold finishRequest
  simp only
  rw [handOver_of_none (by exact h)]
  rfl

/-- A reply with one event: the notice follows the reply. -/
theorem finishRequest_raise {s : State} (h : RoomFor 2 s) (kind tag : Byte) (o : ReplyOutcome) (c : List Byte) (e : Event) :
    finishRequest .reply kind tag { state := raise e s, reply := some { outcome := o, content := c } } =
      noticed e (answered (replyKind kind) tag o c s) := by
  obtain ⟨hm, hp, hr, hq⟩ := h
  unfold finishRequest
  simp only
  have : enqueue (replyFrame .reply (replyKind kind) tag { outcome := o, content := c } (raise e s)) (raise e s) =
      raise e (answered (replyKind kind) tag o c s) := by
    cases s
    rename_i line _ _ _
    cases line
    simp_all [enqueue, setQueue, replyFrame, summary, raise, answered]
  rw [this, handOver_raise]
  refine ⟨hm, hp, hr, ?_⟩
  simp [answered]
  omega

/-- A request that raises no event is answered behind the frames held. -/
theorem takeKind_answers {s u : State} (h : Ready s) (hu : u.line.raised = []) {kind tag : Byte} {serve : State → Answer}
    {o : ReplyOutcome} {c : List Byte} (hs : serve s = { state := u, reply := some { outcome := o, content := c } }) :
    takeKind kind tag serve s = answered (replyKind kind) tag o c u := by
  rw [takeKind_of_ready h, hs, finishRequest_of_none hu]

/-- A request that raises one event is answered, and the event's notice follows. -/
theorem takeKind_answers_raise {s u : State} (h : Ready s) (hu : RoomFor 2 u) {kind tag : Byte} {serve : State → Answer}
    {o : ReplyOutcome} {c : List Byte} {e : Event}
    (hs : serve s = { state := raise e u, reply := some { outcome := o, content := c } }) :
    takeKind kind tag serve s = noticed e (answered (replyKind kind) tag o c u) := by
  rw [takeKind_of_ready h, hs, finishRequest_raise hu]

/-- The index byte of a station names it. -/
@[simp] theorem stationIndex_byteOf (k : Sta) : stationIndex (byteOf k.val) = some k := by
  have := k.isLt
  simp only [stationIndex, byteOf, BitVec.toNat_ofNat]
  rw [dif_pos (by omega)]
  congr 1
  ext
  simp only
  omega

/-- An index byte of 32 or above names no station. -/
theorem stationIndex_of_le {i : Byte} (h : 32 ≤ i.toNat) : stationIndex i = none := by
  rw [stationIndex, dif_neg (by omega)]

/-! ### Brakes (R50 to R52) -/

/-- Where every brake stands as called for, settling them changes nothing. -/
theorem settleBrakes_of_safe {s : State} (h : ∀ k, BrakeSafe s (s.jack k)) : settleBrakes s = s := by
  refine updAll_eq_self (fun k => ?_)
  obtain ⟨h1, h2, h3⟩ := h k
  have : settledBrake s.group.permit s.group.state (s.jack k) = (s.jack k).gen.brake := by
    unfold settledBrake
    cases hp : s.group.permit
    · simp [h1 hp]
    · cases hb : brakeCalled s.group.state (s.jack k)
      · cases hr : (s.jack k).gen.run <;> simp [Generator.running, hr]
        exact (h3 hp hb hr).symm
      · simp [h2 hp hb]
  simp only [this]

/-- Where every brake stands as called for, an update of one jack leaves the others' brakes standing. -/
theorem settleBrakes_updJack {s : State} (hs : ∀ k, BrakeSafe s (s.jack k)) (k : Sta) (f : Jack → Jack) :
    settleBrakes (s.updJack k f) = s.updJack k (fun j =>
      { f j with gen := { (f j).gen with brake := settledBrake s.group.permit s.group.state (f j) } }) := by
  refine State.ext_jack (fun i => ?_) rfl rfl rfl rfl rfl rfl rfl rfl
  rw [settleBrakes_jack, updJack_jack, updJack_jack]
  by_cases h : i = k
  · subst h; simp only [if_true, updJack_group]
  · simp only [if_neg h, updJack_group]
    simpa using congrArg (fun t => t.jack i) (settleBrakes_of_safe hs)

end Sys2Proof.Machine
end

