-- ==== Sys2Proof/Laws/Shared.lean ====
section
/-! SUPPORT. What each shared operation that branches can do, said once: the fields it leaves alone, and its cases. -/

namespace Sys2Proof.Machine

/-! ### The line controller: it writes `line` alone -/

@[simp] theorem handEvent_jacks (r : Raised) (s : State) : (handEvent r s).jacks = s.jacks := by
  unfold handEvent; split_ifs <;> rfl
@[simp] theorem handEvent_cars (r : Raised) (s : State) : (handEvent r s).cars = s.cars := by
  unfold handEvent; split_ifs <;> rfl
@[simp] theorem handEvent_group (r : Raised) (s : State) : (handEvent r s).group = s.group := by
  unfold handEvent; split_ifs <;> rfl
@[simp] theorem handEvent_sync (r : Raised) (s : State) : (handEvent r s).sync = s.sync := by
  unfold handEvent; split_ifs <;> rfl
@[simp] theorem handEvent_plan (r : Raised) (s : State) : (handEvent r s).plan = s.plan := by
  unfold handEvent; split_ifs <;> rfl
@[simp] theorem handEvent_link (r : Raised) (s : State) : (handEvent r s).link = s.link := by
  unfold handEvent; split_ifs <;> rfl
@[simp] theorem handEvent_pins (r : Raised) (s : State) : (handEvent r s).pins = s.pins := by
  unfold handEvent; split_ifs <;> rfl
@[simp] theorem handEvent_pending (r : Raised) (s : State) : (handEvent r s).pending = s.pending := by
  unfold handEvent; split_ifs <;> rfl

/-- Handing events over one after another keeps whatever handing over one keeps. -/
theorem handAll_keeps {P : State → Prop} (h : ∀ r t, P t → P (handEvent r t)) (l : List Raised) {s : State} (hs : P s) :
    P (l.foldl (fun t r => handEvent r t) s) := by
  induction l generalizing s with
  | nil => exact hs
  | cons r l ih => exact ih (h r s hs)

/-- Handing over keeps whatever handing over one event keeps. -/
theorem handOver_keeps {P : State → Prop} (h : ∀ r t, P t → P (handEvent r t)) {s : State}
    (hs : P { s with line := { s.line with raised := [] } }) : P (handOver s) :=
  handAll_keeps h _ hs

@[simp] theorem handOver_jacks (s : State) : (handOver s).jacks = s.jacks :=
  handOver_keeps (P := fun t => t.jacks = s.jacks) (fun r t ht => by simpa using ht) rfl
@[simp] theorem handOver_cars (s : State) : (handOver s).cars = s.cars :=
  handOver_keeps (P := fun t => t.cars = s.cars) (fun r t ht => by simpa using ht) rfl
@[simp] theorem handOver_group (s : State) : (handOver s).group = s.group :=
  handOver_keeps (P := fun t => t.group = s.group) (fun r t ht => by simpa using ht) rfl
@[simp] theorem handOver_sync (s : State) : (handOver s).sync = s.sync :=
  handOver_keeps (P := fun t => t.sync = s.sync) (fun r t ht => by simpa using ht) rfl
@[simp] theorem handOver_plan (s : State) : (handOver s).plan = s.plan :=
  handOver_keeps (P := fun t => t.plan = s.plan) (fun r t ht => by simpa using ht) rfl
@[simp] theorem handOver_link (s : State) : (handOver s).link = s.link :=
  handOver_keeps (P := fun t => t.link = s.link) (fun r t ht => by simpa using ht) rfl
@[simp] theorem handOver_pins (s : State) : (handOver s).pins = s.pins :=
  handOver_keeps (P := fun t => t.pins = s.pins) (fun r t ht => by simpa using ht) rfl
@[simp] theorem handOver_pending (s : State) : (handOver s).pending = s.pending :=
  handOver_keeps (P := fun t => t.pending = s.pending) (fun r t ht => by simpa using ht) rfl

@[simp] theorem moveOne_jacks (s : State) : (moveOne s).jacks = s.jacks := by
  unfold moveOne; split_ifs <;> (try split) <;> rfl
@[simp] theorem moveOne_cars (s : State) : (moveOne s).cars = s.cars := by
  unfold moveOne; split_ifs <;> (try split) <;> rfl
@[simp] theorem moveOne_group (s : State) : (moveOne s).group = s.group := by
  unfold moveOne; split_ifs <;> (try split) <;> rfl
@[simp] theorem moveOne_sync (s : State) : (moveOne s).sync = s.sync := by
  unfold moveOne; split_ifs <;> (try split) <;> rfl
@[simp] theorem moveOne_plan (s : State) : (moveOne s).plan = s.plan := by
  unfold moveOne; split_ifs <;> (try split) <;> rfl
@[simp] theorem moveOne_link (s : State) : (moveOne s).link = s.link := by
  unfold moveOne; split_ifs <;> (try split) <;> rfl
@[simp] theorem moveOne_pins (s : State) : (moveOne s).pins = s.pins := by
  unfold moveOne; split_ifs <;> (try split) <;> rfl
@[simp] theorem moveOne_pending (s : State) : (moveOne s).pending = s.pending := by
  unfold moveOne; split_ifs <;> (try split) <;> rfl

@[simp] theorem movePending_jacks (s : State) : (movePending s).jacks = s.jacks := by
  simp [movePending, Config.noticeRoom, Function.iterate_succ]
@[simp] theorem movePending_cars (s : State) : (movePending s).cars = s.cars := by
  simp [movePending, Config.noticeRoom, Function.iterate_succ]
@[simp] theorem movePending_group (s : State) : (movePending s).group = s.group := by
  simp [movePending, Config.noticeRoom, Function.iterate_succ]
@[simp] theorem movePending_sync (s : State) : (movePending s).sync = s.sync := by
  simp [movePending, Config.noticeRoom, Function.iterate_succ]
@[simp] theorem movePending_plan (s : State) : (movePending s).plan = s.plan := by
  simp [movePending, Config.noticeRoom, Function.iterate_succ]
@[simp] theorem movePending_link (s : State) : (movePending s).link = s.link := by
  simp [movePending, Config.noticeRoom, Function.iterate_succ]
@[simp] theorem movePending_pins (s : State) : (movePending s).pins = s.pins := by
  simp [movePending, Config.noticeRoom, Function.iterate_succ]
@[simp] theorem movePending_pending (s : State) : (movePending s).pending = s.pending := by
  simp [movePending, Config.noticeRoom, Function.iterate_succ]

@[simp] theorem placeSnapshot_jacks (s : State) : (placeSnapshot s).jacks = s.jacks := by
  unfold placeSnapshot; split <;> (try split_ifs) <;> rfl
@[simp] theorem placeSnapshot_cars (s : State) : (placeSnapshot s).cars = s.cars := by
  unfold placeSnapshot; split <;> (try split_ifs) <;> rfl
@[simp] theorem placeSnapshot_group (s : State) : (placeSnapshot s).group = s.group := by
  unfold placeSnapshot; split <;> (try split_ifs) <;> rfl
@[simp] theorem placeSnapshot_sync (s : State) : (placeSnapshot s).sync = s.sync := by
  unfold placeSnapshot; split <;> (try split_ifs) <;> rfl
@[simp] theorem placeSnapshot_plan (s : State) : (placeSnapshot s).plan = s.plan := by
  unfold placeSnapshot; split <;> (try split_ifs) <;> rfl
@[simp] theorem placeSnapshot_link (s : State) : (placeSnapshot s).link = s.link := by
  unfold placeSnapshot; split <;> (try split_ifs) <;> rfl
@[simp] theorem placeSnapshot_pins (s : State) : (placeSnapshot s).pins = s.pins := by
  unfold placeSnapshot; split <;> (try split_ifs) <;> rfl
@[simp] theorem placeSnapshot_pending (s : State) : (placeSnapshot s).pending = s.pending := by
  unfold placeSnapshot; split <;> (try split_ifs) <;> rfl

@[simp] theorem streamWork_jacks (s : State) : (streamWork s).jacks = s.jacks := by
  unfold streamWork streamSnapshot; split_ifs <;> simp
@[simp] theorem streamWork_cars (s : State) : (streamWork s).cars = s.cars := by
  unfold streamWork streamSnapshot; split_ifs <;> simp
@[simp] theorem streamWork_group (s : State) : (streamWork s).group = s.group := by
  unfold streamWork streamSnapshot; split_ifs <;> simp
@[simp] theorem streamWork_sync (s : State) : (streamWork s).sync = s.sync := by
  unfold streamWork streamSnapshot; split_ifs <;> simp
@[simp] theorem streamWork_plan (s : State) : (streamWork s).plan = s.plan := by
  unfold streamWork streamSnapshot; split_ifs <;> simp
@[simp] theorem streamWork_link (s : State) : (streamWork s).link = s.link := by
  unfold streamWork streamSnapshot; split_ifs <;> simp
@[simp] theorem streamWork_pins (s : State) : (streamWork s).pins = s.pins := by
  unfold streamWork streamSnapshot; split_ifs <;> simp
@[simp] theorem streamWork_pending (s : State) : (streamWork s).pending = s.pending := by
  unfold streamWork streamSnapshot; split_ifs <;> simp


/-! ### Moves of one station: the station and the events raised -/

@[simp] theorem finishMove_cars (k : Sta) (s : State) : (finishMove k s).cars = s.cars := by
  unfold finishMove; split <;> (try split_ifs) <;> rfl
@[simp] theorem finishMove_group (k : Sta) (s : State) : (finishMove k s).group = s.group := by
  unfold finishMove; split <;> (try split_ifs) <;> rfl
@[simp] theorem finishMove_sync (k : Sta) (s : State) : (finishMove k s).sync = s.sync := by
  unfold finishMove; split <;> (try split_ifs) <;> rfl
@[simp] theorem finishMove_plan (k : Sta) (s : State) : (finishMove k s).plan = s.plan := by
  unfold finishMove; split <;> (try split_ifs) <;> rfl
@[simp] theorem finishMove_link (k : Sta) (s : State) : (finishMove k s).link = s.link := by
  unfold finishMove; split <;> (try split_ifs) <;> rfl
@[simp] theorem finishMove_pins (k : Sta) (s : State) : (finishMove k s).pins = s.pins := by
  unfold finishMove; split <;> (try split_ifs) <;> rfl
@[simp] theorem finishMove_pending (k : Sta) (s : State) : (finishMove k s).pending = s.pending := by
  unfold finishMove; split <;> (try split_ifs) <;> rfl

@[simp] theorem abandonMove_cars (k : Sta) (s : State) : (abandonMove k s).cars = s.cars := by
  unfold abandonMove; split <;> (try split_ifs) <;> rfl
@[simp] theorem abandonMove_group (k : Sta) (s : State) : (abandonMove k s).group = s.group := by
  unfold abandonMove; split <;> (try split_ifs) <;> rfl
@[simp] theorem abandonMove_sync (k : Sta) (s : State) : (abandonMove k s).sync = s.sync := by
  unfold abandonMove; split <;> (try split_ifs) <;> rfl
@[simp] theorem abandonMove_plan (k : Sta) (s : State) : (abandonMove k s).plan = s.plan := by
  unfold abandonMove; split <;> (try split_ifs) <;> rfl
@[simp] theorem abandonMove_link (k : Sta) (s : State) : (abandonMove k s).link = s.link := by
  unfold abandonMove; split <;> (try split_ifs) <;> rfl
@[simp] theorem abandonMove_pins (k : Sta) (s : State) : (abandonMove k s).pins = s.pins := by
  unfold abandonMove; split <;> (try split_ifs) <;> rfl
@[simp] theorem abandonMove_pending (k : Sta) (s : State) : (abandonMove k s).pending = s.pending := by
  unfold abandonMove; split <;> (try split_ifs) <;> rfl

@[simp] theorem stopMove_cars (k : Sta) (r : OpResult) (s : State) : (stopMove k r s).cars = s.cars := by
  unfold stopMove; split <;> (try split_ifs) <;> rfl
@[simp] theorem stopMove_group (k : Sta) (r : OpResult) (s : State) : (stopMove k r s).group = s.group := by
  unfold stopMove; split <;> (try split_ifs) <;> rfl
@[simp] theorem stopMove_sync (k : Sta) (r : OpResult) (s : State) : (stopMove k r s).sync = s.sync := by
  unfold stopMove; split <;> (try split_ifs) <;> rfl
@[simp] theorem stopMove_plan (k : Sta) (r : OpResult) (s : State) : (stopMove k r s).plan = s.plan := by
  unfold stopMove; split <;> (try split_ifs) <;> rfl
@[simp] theorem stopMove_link (k : Sta) (r : OpResult) (s : State) : (stopMove k r s).link = s.link := by
  unfold stopMove; split <;> (try split_ifs) <;> rfl
@[simp] theorem stopMove_pins (k : Sta) (r : OpResult) (s : State) : (stopMove k r s).pins = s.pins := by
  unfold stopMove; split <;> (try split_ifs) <;> rfl
@[simp] theorem stopMove_pending (k : Sta) (r : OpResult) (s : State) : (stopMove k r s).pending = s.pending := by
  unfold stopMove; split <;> (try split_ifs) <;> rfl

@[simp] theorem faultStation_cars (kind : FaultKind) (k : Sta) (s : State) : (faultStation kind k s).cars = s.cars := by
  unfold faultStation; split <;> (try split_ifs) <;> simp
@[simp] theorem faultStation_group (kind : FaultKind) (k : Sta) (s : State) : (faultStation kind k s).group = s.group := by
  unfold faultStation; split <;> (try split_ifs) <;> simp
@[simp] theorem faultStation_sync (kind : FaultKind) (k : Sta) (s : State) : (faultStation kind k s).sync = s.sync := by
  unfold faultStation; split <;> (try split_ifs) <;> simp
@[simp] theorem faultStation_plan (kind : FaultKind) (k : Sta) (s : State) : (faultStation kind k s).plan = s.plan := by
  unfold faultStation; split <;> (try split_ifs) <;> simp
@[simp] theorem faultStation_link (kind : FaultKind) (k : Sta) (s : State) : (faultStation kind k s).link = s.link := by
  unfold faultStation; split <;> (try split_ifs) <;> simp
@[simp] theorem faultStation_pins (kind : FaultKind) (k : Sta) (s : State) : (faultStation kind k s).pins = s.pins := by
  unfold faultStation; split <;> (try split_ifs) <;> simp
@[simp] theorem faultStation_pending (kind : FaultKind) (k : Sta) (s : State) : (faultStation kind k s).pending = s.pending := by
  unfold faultStation; split <;> (try split_ifs) <;> simp

@[simp] theorem endTrims_cars (s : State) : (endTrims s).cars = s.cars :=
  forStations_keeps (P := fun t => t.cars = s.cars) (fun k t ht => by split <;> (try split_ifs) <;> simpa using ht) rfl
@[simp] theorem endTrims_group (s : State) : (endTrims s).group = s.group :=
  forStations_keeps (P := fun t => t.group = s.group) (fun k t ht => by split <;> (try split_ifs) <;> simpa using ht) rfl
@[simp] theorem endTrims_sync (s : State) : (endTrims s).sync = s.sync :=
  forStations_keeps (P := fun t => t.sync = s.sync) (fun k t ht => by split <;> (try split_ifs) <;> simpa using ht) rfl
@[simp] theorem endTrims_plan (s : State) : (endTrims s).plan = s.plan :=
  forStations_keeps (P := fun t => t.plan = s.plan) (fun k t ht => by split <;> (try split_ifs) <;> simpa using ht) rfl
@[simp] theorem endTrims_link (s : State) : (endTrims s).link = s.link :=
  forStations_keeps (P := fun t => t.link = s.link) (fun k t ht => by split <;> (try split_ifs) <;> simpa using ht) rfl
@[simp] theorem endTrims_pins (s : State) : (endTrims s).pins = s.pins :=
  forStations_keeps (P := fun t => t.pins = s.pins) (fun k t ht => by split <;> (try split_ifs) <;> simpa using ht) rfl
@[simp] theorem endTrims_pending (s : State) : (endTrims s).pending = s.pending :=
  forStations_keeps (P := fun t => t.pending = s.pending) (fun k t ht => by split <;> (try split_ifs) <;> simpa using ht) rfl

theorem finishMove_jack_ne (s : State) {i k : Sta} (h : i ≠ k) : (finishMove k s).jack i = s.jack i := by
  unfold finishMove
  split
  · rfl
  · split_ifs <;> simp [updRec_jack_ne _ _ h]
theorem abandonMove_jack_ne (s : State) {i k : Sta} (h : i ≠ k) : (abandonMove k s).jack i = s.jack i := by
  unfold abandonMove
  split
  · rfl
  · split_ifs <;> simp [updRec_jack_ne _ _ h]
theorem stopMove_jack_ne (r : OpResult) (s : State) {i k : Sta} (h : i ≠ k) : (stopMove k r s).jack i = s.jack i := by
  unfold stopMove
  split
  · rfl
  · split_ifs <;> simp [updRec_jack_ne _ _ h, updGen_jack_ne _ _ h]

/-! ### The group's passages -/

@[simp] theorem enterGroup_jacks (g : GroupState) (s : State) : (enterGroup g s).jacks = s.jacks := by
  unfold enterGroup; simp only; split_ifs <;> rfl
@[simp] theorem enterGroup_cars (g : GroupState) (s : State) : (enterGroup g s).cars = s.cars := by
  unfold enterGroup; simp only; split_ifs <;> rfl
@[simp] theorem enterGroup_plan (g : GroupState) (s : State) : (enterGroup g s).plan = s.plan := by
  unfold enterGroup; simp only; split_ifs <;> rfl
@[simp] theorem enterGroup_link (g : GroupState) (s : State) : (enterGroup g s).link = s.link := by
  unfold enterGroup; simp only; split_ifs <;> rfl
@[simp] theorem enterGroup_pins (g : GroupState) (s : State) : (enterGroup g s).pins = s.pins := by
  unfold enterGroup; simp only; split_ifs <;> rfl
@[simp] theorem enterGroup_pending (g : GroupState) (s : State) : (enterGroup g s).pending = s.pending := by
  unfold enterGroup; simp only; split_ifs <;> rfl

@[simp] theorem enterGroup_state (g : GroupState) (s : State) : (enterGroup g s).group.state = g := by
  unfold enterGroup; simp only; split_ifs <;> rfl

/-- Entering a group state writes the state, raises STATE, and clears the reference at SETUP and PREPARED (R92, R121). -/
theorem enterGroup_group (g : GroupState) (s : State) : (enterGroup g s).group = { s.group with state := g } := by
  unfold enterGroup; simp only; split_ifs <;> rfl

theorem enterGroup_sync (g : GroupState) (s : State) : (enterGroup g s).sync =
    if g = .setup ∨ g = .prepared then { s.sync with ref := 0, speed := 0, dir := .none } else s.sync := by
  unfold enterGroup; simp only; split_ifs <;> rfl

@[simp] theorem enterStopping_jacks (s : State) : (enterStopping s).jacks = s.jacks := by
  unfold enterStopping; split_ifs <;> simp
@[simp] theorem enterStopping_cars (s : State) : (enterStopping s).cars = s.cars := by
  unfold enterStopping; split_ifs <;> simp
@[simp] theorem enterStopping_plan (s : State) : (enterStopping s).plan = s.plan := by
  unfold enterStopping; split_ifs <;> simp
@[simp] theorem enterStopping_link (s : State) : (enterStopping s).link = s.link := by
  unfold enterStopping; split_ifs <;> simp
@[simp] theorem enterStopping_pins (s : State) : (enterStopping s).pins = s.pins := by
  unfold enterStopping; split_ifs <;> simp
@[simp] theorem enterStopping_pending (s : State) : (enterStopping s).pending = s.pending := by
  unfold enterStopping; split_ifs <;> simp

@[simp] theorem landedCheck_jacks (s : State) : (landedCheck s).jacks = s.jacks := by
  unfold landedCheck; split_ifs <;> simp
@[simp] theorem landedCheck_cars (s : State) : (landedCheck s).cars = s.cars := by
  unfold landedCheck; split_ifs <;> simp
@[simp] theorem landedCheck_plan (s : State) : (landedCheck s).plan = s.plan := by
  unfold landedCheck; split_ifs <;> simp
@[simp] theorem landedCheck_link (s : State) : (landedCheck s).link = s.link := by
  unfold landedCheck; split_ifs <;> simp
@[simp] theorem landedCheck_pins (s : State) : (landedCheck s).pins = s.pins := by
  unfold landedCheck; split_ifs <;> simp
@[simp] theorem landedCheck_pending (s : State) : (landedCheck s).pending = s.pending := by
  unfold landedCheck; split_ifs <;> simp

@[simp] theorem finishRelease_cars (k : Sta) (s : State) : (finishRelease k s).cars = s.cars := by
  simp [finishRelease]
@[simp] theorem finishRelease_plan (k : Sta) (s : State) : (finishRelease k s).plan = s.plan := by
  simp [finishRelease]
@[simp] theorem finishRelease_link (k : Sta) (s : State) : (finishRelease k s).link = s.link := by
  simp [finishRelease]
@[simp] theorem finishRelease_pins (k : Sta) (s : State) : (finishRelease k s).pins = s.pins := by
  simp [finishRelease]
@[simp] theorem finishRelease_pending (k : Sta) (s : State) : (finishRelease k s).pending = s.pending := by
  simp [finishRelease]

@[simp] theorem idleEvent_cars (k : Sta) (s : State) : (idleEvent k s).cars = s.cars := by
  unfold idleEvent; simp only; split_ifs <;> simp
@[simp] theorem idleEvent_plan (k : Sta) (s : State) : (idleEvent k s).plan = s.plan := by
  unfold idleEvent; simp only; split_ifs <;> simp
@[simp] theorem idleEvent_link (k : Sta) (s : State) : (idleEvent k s).link = s.link := by
  unfold idleEvent; simp only; split_ifs <;> simp
@[simp] theorem idleEvent_pins (k : Sta) (s : State) : (idleEvent k s).pins = s.pins := by
  unfold idleEvent; simp only; split_ifs <;> simp
@[simp] theorem idleEvent_pending (k : Sta) (s : State) : (idleEvent k s).pending = s.pending := by
  unfold idleEvent; simp only; split_ifs <;> simp

/-! ### Detections (R103 to R105, R109) -/

@[simp] theorem listFault_jacks (kind : FaultKind) (x : Subject) (s : State) : (listFault kind x s).jacks = s.jacks := by
  unfold listFault; split_ifs <;> rfl
@[simp] theorem listFault_cars (kind : FaultKind) (x : Subject) (s : State) : (listFault kind x s).cars = s.cars := by
  unfold listFault; split_ifs <;> rfl
@[simp] theorem listFault_sync (kind : FaultKind) (x : Subject) (s : State) : (listFault kind x s).sync = s.sync := by
  unfold listFault; split_ifs <;> rfl
@[simp] theorem listFault_plan (kind : FaultKind) (x : Subject) (s : State) : (listFault kind x s).plan = s.plan := by
  unfold listFault; split_ifs <;> rfl
@[simp] theorem listFault_link (kind : FaultKind) (x : Subject) (s : State) : (listFault kind x s).link = s.link := by
  unfold listFault; split_ifs <;> rfl
@[simp] theorem listFault_pins (kind : FaultKind) (x : Subject) (s : State) : (listFault kind x s).pins = s.pins := by
  unfold listFault; split_ifs <;> rfl
@[simp] theorem listFault_pending (kind : FaultKind) (x : Subject) (s : State) : (listFault kind x s).pending = s.pending := by
  unfold listFault; split_ifs <;> rfl

@[simp] theorem actOnStations_cars (kind : FaultKind) (x : Subject) (s : State) : (actOnStations kind x s).cars = s.cars := by
  unfold actOnStations; split <;> simp
@[simp] theorem actOnStations_group (kind : FaultKind) (x : Subject) (s : State) : (actOnStations kind x s).group = s.group := by
  unfold actOnStations; split <;> simp
@[simp] theorem actOnStations_sync (kind : FaultKind) (x : Subject) (s : State) : (actOnStations kind x s).sync = s.sync := by
  unfold actOnStations; split <;> simp
@[simp] theorem actOnStations_plan (kind : FaultKind) (x : Subject) (s : State) : (actOnStations kind x s).plan = s.plan := by
  unfold actOnStations; split <;> simp
@[simp] theorem actOnStations_link (kind : FaultKind) (x : Subject) (s : State) : (actOnStations kind x s).link = s.link := by
  unfold actOnStations; split <;> simp
@[simp] theorem actOnStations_pins (kind : FaultKind) (x : Subject) (s : State) : (actOnStations kind x s).pins = s.pins := by
  unfold actOnStations; split <;> simp
@[simp] theorem actOnStations_pending (kind : FaultKind) (x : Subject) (s : State) : (actOnStations kind x s).pending = s.pending := by
  unfold actOnStations; split <;> simp

@[simp] theorem beginFaultStop_cars (kind : FaultKind) (x : Subject) (s : State) : (beginFaultStop kind x s).cars = s.cars := by
  simp [beginFaultStop]
@[simp] theorem beginFaultStop_plan (kind : FaultKind) (x : Subject) (s : State) : (beginFaultStop kind x s).plan = s.plan := by
  simp [beginFaultStop]
@[simp] theorem beginFaultStop_link (kind : FaultKind) (x : Subject) (s : State) : (beginFaultStop kind x s).link = s.link := by
  simp [beginFaultStop]
@[simp] theorem beginFaultStop_pins (kind : FaultKind) (x : Subject) (s : State) : (beginFaultStop kind x s).pins = s.pins := by
  simp [beginFaultStop]
@[simp] theorem beginFaultStop_pending (kind : FaultKind) (x : Subject) (s : State) : (beginFaultStop kind x s).pending = s.pending := by
  simp [beginFaultStop]

@[simp] theorem enterLockout_cars (k : Sta) (s : State) : (enterLockout k s).cars = s.cars := by
  have h : (forStations abandonMove (abandonAll s)).cars = s.cars :=
    forStations_keeps (P := fun t => t.cars = s.cars) (fun k t ht => by simpa using ht) rfl
  simpa [enterLockout] using h
@[simp] theorem enterLockout_plan (k : Sta) (s : State) : (enterLockout k s).plan = s.plan := by
  have h : (forStations abandonMove (abandonAll s)).plan = s.plan :=
    forStations_keeps (P := fun t => t.plan = s.plan) (fun k t ht => by simpa using ht) rfl
  simpa [enterLockout] using h
@[simp] theorem enterLockout_link (k : Sta) (s : State) : (enterLockout k s).link = s.link := by
  have h : (forStations abandonMove (abandonAll s)).link = s.link :=
    forStations_keeps (P := fun t => t.link = s.link) (fun k t ht => by simpa using ht) rfl
  simpa [enterLockout] using h
@[simp] theorem enterLockout_pins (k : Sta) (s : State) : (enterLockout k s).pins = s.pins := by
  have h : (forStations abandonMove (abandonAll s)).pins = s.pins :=
    forStations_keeps (P := fun t => t.pins = s.pins) (fun k t ht => by simpa using ht) rfl
  simpa [enterLockout] using h
@[simp] theorem enterLockout_pending (k : Sta) (s : State) : (enterLockout k s).pending = s.pending := by
  have h : (forStations abandonMove (abandonAll s)).pending = s.pending :=
    forStations_keeps (P := fun t => t.pending = s.pending) (fun k t ht => by simpa using ht) rfl
  simpa [enterLockout] using h

@[simp] theorem actOnGroup_cars (kind : FaultKind) (x : Subject) (s : State) : (actOnGroup kind x s).cars = s.cars := by
  unfold actOnGroup; split <;> split_ifs <;> simp
@[simp] theorem actOnGroup_plan (kind : FaultKind) (x : Subject) (s : State) : (actOnGroup kind x s).plan = s.plan := by
  unfold actOnGroup; split <;> split_ifs <;> simp
@[simp] theorem actOnGroup_link (kind : FaultKind) (x : Subject) (s : State) : (actOnGroup kind x s).link = s.link := by
  unfold actOnGroup; split <;> split_ifs <;> simp
@[simp] theorem actOnGroup_pins (kind : FaultKind) (x : Subject) (s : State) : (actOnGroup kind x s).pins = s.pins := by
  unfold actOnGroup; split <;> split_ifs <;> simp
@[simp] theorem actOnGroup_pending (kind : FaultKind) (x : Subject) (s : State) : (actOnGroup kind x s).pending = s.pending := by
  unfold actOnGroup; split <;> split_ifs <;> simp

@[simp] theorem takeDetection_cars (kind : FaultKind) (x : Subject) (s : State) : (takeDetection kind x s).cars = s.cars := by
  simp [takeDetection]
@[simp] theorem takeDetection_plan (kind : FaultKind) (x : Subject) (s : State) : (takeDetection kind x s).plan = s.plan := by
  simp [takeDetection]
@[simp] theorem takeDetection_link (kind : FaultKind) (x : Subject) (s : State) : (takeDetection kind x s).link = s.link := by
  simp [takeDetection]
@[simp] theorem takeDetection_pins (kind : FaultKind) (x : Subject) (s : State) : (takeDetection kind x s).pins = s.pins := by
  simp [takeDetection]
@[simp] theorem takeDetection_pending (kind : FaultKind) (x : Subject) (s : State) : (takeDetection kind x s).pending = s.pending := by
  simp [takeDetection]

/-! What a judgement hands leaves them too, wherever the station stands (R141). -/

@[simp] theorem handJudged_cars (kind : FaultKind) (k : Sta) (s : State) : (handJudged kind k s).cars = s.cars :=
  takeDetection_cars kind _ s
@[simp] theorem handJudged_plan (kind : FaultKind) (k : Sta) (s : State) : (handJudged kind k s).plan = s.plan :=
  takeDetection_plan kind _ s
@[simp] theorem handJudged_link (kind : FaultKind) (k : Sta) (s : State) : (handJudged kind k s).link = s.link :=
  takeDetection_link kind _ s
@[simp] theorem handJudged_pins (kind : FaultKind) (k : Sta) (s : State) : (handJudged kind k s).pins = s.pins :=
  takeDetection_pins kind _ s
@[simp] theorem handJudged_pending (kind : FaultKind) (k : Sta) (s : State) : (handJudged kind k s).pending = s.pending :=
  takeDetection_pending kind _ s

@[simp] theorem takeDetections_cars (l : List Detection) (s : State) : (takeDetections l s).cars = s.cars :=
  takeDetections_keeps (P := fun t => t.cars = s.cars) (fun f k t ht => by simpa using ht) rfl l
@[simp] theorem takeDetections_plan (l : List Detection) (s : State) : (takeDetections l s).plan = s.plan :=
  takeDetections_keeps (P := fun t => t.plan = s.plan) (fun f k t ht => by simpa using ht) rfl l
@[simp] theorem takeDetections_link (l : List Detection) (s : State) : (takeDetections l s).link = s.link :=
  takeDetections_keeps (P := fun t => t.link = s.link) (fun f k t ht => by simpa using ht) rfl l
@[simp] theorem takeDetections_pins (l : List Detection) (s : State) : (takeDetections l s).pins = s.pins :=
  takeDetections_keeps (P := fun t => t.pins = s.pins) (fun f k t ht => by simpa using ht) rfl l
@[simp] theorem takeDetections_pending (l : List Detection) (s : State) : (takeDetections l s).pending = s.pending :=
  takeDetections_keeps (P := fun t => t.pending = s.pending) (fun f k t ht => by simpa using ht) rfl l

/-- The fault list after a detection: met where it stands, added to a list with room, or the overflow mark set (R103). -/
theorem listFault_cases (kind : FaultKind) (x : Subject) (s : State) :
    (s.group.faults.any (fun e => e.kind == kind && e.subject == x) = true ∧ listFault kind x s = s) ∨
    (s.group.faults.any (fun e => e.kind == kind && e.subject == x) = false ∧ s.group.faults.length < 16 ∧
      (listFault kind x s).group =
        { s.group with faults := s.group.faults ++ [{ kind := kind, subject := x, cycle := s.group.cycle }] } ∧
      (listFault kind x s).line.raised =
        s.line.raised ++ [{ event := .stationFault kind x true, cycle := s.group.cycle }]) ∨
    (s.group.faults.any (fun e => e.kind == kind && e.subject == x) = false ∧ 16 ≤ s.group.faults.length ∧
      (listFault kind x s).group = { s.group with overflow := true } ∧
      (listFault kind x s).line.raised =
        s.line.raised ++ [{ event := .stationFault kind x false, cycle := s.group.cycle }]) := by
  by_cases h : s.group.faults.any (fun e => e.kind == kind && e.subject == x) = true
  · exact .inl ⟨h, by simp only [listFault]; rw [if_pos h]⟩
  · by_cases hl : s.group.faults.length < 16
    · refine .inr (.inl ⟨by simpa using h, hl, ?_, ?_⟩) <;>
        (simp only [listFault]; rw [if_neg h, if_pos (by simpa [Config.faultListSize] using hl)]; rfl)
    · refine .inr (.inr ⟨by simpa using h, by omega, ?_, ?_⟩) <;>
        (simp only [listFault]; rw [if_neg h, if_neg (by simpa [Config.faultListSize] using hl)]; rfl)

/-- An event handed to the line controller marks a record of its kind, becomes a notice, or joins the pending set (R182). -/
theorem handEvent_cases (r : Raised) (s : State) :
    (s.line.pending.any (fun p => sameKind p.raised.event r.event) = true ∧ handEvent r s = setPendingEvents
      (s.line.pending.map (fun p => if sameKind p.raised.event r.event then { p with more := true } else p)) s) ∨
    (s.line.pending.any (fun p => sameKind p.raised.event r.event) = false ∧ masked s.line.mask r.event = false ∧
      s.line.queue.length < 5 ∧ handEvent r s = enqueue (eventFrame r false s) s) ∨
    (s.line.pending.any (fun p => sameKind p.raised.event r.event) = false ∧
      (masked s.line.mask r.event = true ∨ 5 ≤ s.line.queue.length) ∧
      handEvent r s = setPendingEvents (insertPending { raised := r, more := false } s.line.pending) s) := by
  by_cases h : s.line.pending.any (fun p => sameKind p.raised.event r.event) = true
  · exact .inl ⟨h, by unfold handEvent; rw [if_pos h]⟩
  · by_cases hm : masked s.line.mask r.event = true
    · exact .inr (.inr ⟨by simpa using h, .inl hm, by unfold handEvent; rw [if_neg h, if_neg (by simp [hm])]⟩)
    · by_cases hq : s.line.queue.length < 5
      · exact .inr (.inl ⟨by simpa using h, by simpa using hm, hq, by
          unfold handEvent; rw [if_neg h, if_pos (by simp [hm, hq, Config.noticeRoom])]⟩)
      · exact .inr (.inr ⟨by simpa using h, .inr (by omega), by
          unfold handEvent; rw [if_neg h, if_neg (by simp [hq, Config.noticeRoom])]⟩)

/-- A period completed in RATE or COUNTED, case by case (R43, R45, R46). -/
theorem Generator.complete_cases (g : Generator) :
    (g.run = .idle ∧ g.complete = g) ∨
    (g.run = .rate ∧ g.pending = none ∧ g.complete = { g with stepHigh := true }) ∨
    (g.run = .rate ∧ g.pending = some .stop ∧ g.complete = { g with stepHigh := true }.rest) ∨
    (∃ d dir, g.run = .rate ∧ g.pending = some (.rate d dir) ∧ g.complete = { g with stepHigh := true }.startRate d dir) ∨
    (∃ d dir n, g.run = .rate ∧ g.pending = some (.move d dir n) ∧
      g.complete = { g with stepHigh := true }.startMove d dir n) ∨
    (g.run = .counted ∧ 1 < g.remaining ∧ g.complete = { g with stepHigh := true, remaining := g.remaining - 1 }) ∨
    (∃ d dir n, g.run = .counted ∧ g.remaining ≤ 1 ∧ g.pending = some (.move d dir n) ∧
      g.complete = { g with stepHigh := true }.startMove d dir n) ∨
    (g.run = .counted ∧ g.remaining ≤ 1 ∧ g.complete = { g with stepHigh := true }.rest) := by
  obtain ⟨run, divisor, dir, pending, remaining, ceiling, brake, stepHigh, dirHigh⟩ := g
  cases run
  · simp [Generator.complete]
  · rcases pending with _ | _ | _ | _ <;> simp [Generator.complete]
  · by_cases h : 1 < remaining
    · simp [Generator.complete, h]
    · rcases pending with _ | _ | _ | _ <;> simp [Generator.complete, h] <;> omega

/-- A value handed, case by case (R42 to R45). -/
theorem Generator.hand_cases (g : Generator) (v : PendingValue) :
    (g.hand v = g) ∨ (∃ w, g.run ≠ .idle ∧ g.hand v = { g with pending := some w } ∧ w = v) ∨
    (∃ d dir, g.run = .idle ∧ v = .rate d dir ∧ g.hand v = g.startRate d dir) ∨
    (∃ d dir n, g.run = .idle ∧ v = .move d dir n ∧ g.hand v = g.startMove d dir n) := by
  obtain ⟨run, divisor, dir, pending, remaining, ceiling, brake, stepHigh, dirHigh⟩ := g
  cases run <;> rcases v with _ | _ | _ <;> simp [Generator.hand] <;> (rcases pending with _ | _ | _ | _ <;> simp)

/-- Settling the brakes leaves each as R50 to R52 say. -/
theorem settleBrakes_brakeSafe (s : State) (k : Sta) : BrakeSafe (settleBrakes s) ((settleBrakes s).jack k) := by
  have hb : brakeCalled (settleBrakes s).group.state ((settleBrakes s).jack k) = brakeCalled s.group.state (s.jack k) := by
    simp [brakeCalled, Jack.movesWhileFaulted, Jack.isIn, Generator.running]
  refine ⟨fun hp => ?_, fun hp hc => ?_, fun hp hc hr => ?_⟩
  · simp at hp; simp [settledBrake, hp]
  · rw [hb] at hc; simp at hp; simp [settledBrake, hp, hc]
  · rw [hb] at hc; simp at hp hr; simp [settledBrake, hp, hc, Generator.running, hr]

end Sys2Proof.Machine
end

