-- ==== Sys2Proof/Laws/Cycle.lean ====
section
/-! SUPPORT. What a detection leaves of every station, what handing a rate makes of one, when the checks of a cycle start find nothing,
and what the passage to STOPPED can do. -/

namespace Sys2Proof.Machine

/-! ### What a detection leaves of every station (R16, R103 to R105, R109) -/

/-- What no detection writes of a station: its position, its load link values, its settings and the offset waiting, its datum, its home
input, its imbalance mark, its error and its commanded rate. -/
def Jack.sameStation (a b : Jack) : Prop :=
  a.pos = b.pos ∧ a.link = b.link ∧ a.record.settings = b.record.settings ∧ a.record.pendingOffset = b.record.pendingOffset ∧
    a.record.datumKnown = b.record.datumKnown ∧ a.homeLow = b.homeLow ∧ a.imbalance = b.imbalance ∧ a.err = b.err ∧
    a.rate = b.rate

theorem Jack.sameStation.refl (j : Jack) : j.sameStation j := ⟨rfl, rfl, rfl, rfl, rfl, rfl, rfl, rfl, rfl⟩

theorem Jack.sameStation.trans {a b c : Jack} (h : a.sameStation b) (g : b.sameStation c) : a.sameStation c := by
  obtain ⟨h1, h2, h3, h4, h5, h6, h7, h8, h9⟩ := h
  obtain ⟨g1, g2, g3, g4, g5, g6, g7, g8, g9⟩ := g
  exact ⟨h1.trans g1, h2.trans g2, h3.trans g3, h4.trans g4, h5.trans g5, h6.trans g6, h7.trans g7, h8.trans g8, h9.trans g9⟩

/-- An update of one station that leaves these leaves them of every station. -/
theorem updJack_sameStation (s : State) (k i : Sta) {f : Jack → Jack} (h : ∀ j : Jack, j.sameStation (f j)) :
    (s.jack i).sameStation ((s.updJack k f).jack i) := by
  rw [updJack_jack]
  split_ifs
  · exact h _
  · exact .refl _

theorem updGen_sameStation (s : State) (k i : Sta) (f : Generator → Generator) :
    (s.jack i).sameStation ((s.updGen k f).jack i) :=
  updJack_sameStation s k i fun _ => ⟨rfl, rfl, rfl, rfl, rfl, rfl, rfl, rfl, rfl⟩

theorem updRec_sameStation (s : State) (k i : Sta) {f : StationRec → StationRec}
    (h : ∀ r, (f r).settings = r.settings ∧ (f r).pendingOffset = r.pendingOffset ∧ (f r).datumKnown = r.datumKnown) :
    (s.jack i).sameStation ((s.updRec k f).jack i) :=
  updJack_sameStation s k i fun j =>
    ⟨rfl, rfl, (h j.record).1.symm, (h j.record).2.1.symm, (h j.record).2.2.symm, rfl, rfl, rfl, rfl⟩

theorem stopMove_sameStation (k : Sta) (r : OpResult) (s : State) (i : Sta) :
    (s.jack i).sameStation ((stopMove k r s).jack i) := by
  unfold stopMove
  split
  · exact .refl _
  · split_ifs
    · exact .refl _
    · rw [raise_jack]
      exact (updGen_sameStation s k i _).trans (updRec_sameStation _ k i fun _ => ⟨rfl, rfl, rfl⟩)

theorem abandonMove_sameStation (k : Sta) (s : State) (i : Sta) :
    (s.jack i).sameStation ((abandonMove k s).jack i) := by
  unfold abandonMove
  split
  · exact .refl _
  · split_ifs <;> exact updRec_sameStation s k i fun _ => ⟨rfl, rfl, rfl⟩

theorem endTrims_sameStation (s : State) (i : Sta) : (s.jack i).sameStation ((endTrims s).jack i) :=
  forStations_keeps (P := fun t => (s.jack i).sameStation (t.jack i))
    (fun k t ht => by
      split
      · split_ifs
        · exact ht.trans (stopMove_sameStation k _ t i)
        · exact ht
      · exact ht) (.refl _)

theorem faultStation_sameStation (kind : FaultKind) (k : Sta) (s : State) (i : Sta) :
    (s.jack i).sameStation ((faultStation kind k s).jack i) := by
  unfold faultStation
  split
  · exact .refl _
  · split_ifs
    · exact .refl _
    · exact stopMove_sameStation k _ s i
  · exact (stopMove_sameStation k _ s i).trans
      ((updGen_sameStation _ k i _).trans (updRec_sameStation _ k i fun _ => ⟨rfl, rfl, rfl⟩))

theorem StationRec.moveByStop_same (r : StationRec) : r.moveByStop.settings = r.settings ∧
    r.moveByStop.pendingOffset = r.pendingOffset ∧ r.moveByStop.datumKnown = r.datumKnown ∧ r.moveByStop.contact = r.contact := by
  unfold StationRec.moveByStop
  split <;> exact ⟨rfl, rfl, rfl, rfl⟩

theorem moveStations_sameStation (s : State) (i : Sta) : (s.jack i).sameStation ((moveStations s).jack i) := by
  obtain ⟨h1, h2, h3, -⟩ := StationRec.moveByStop_same (s.jack i).record
  rw [moveStations_jack]
  exact ⟨rfl, rfl, h1.symm, h2.symm, h3.symm, rfl, rfl, rfl, rfl⟩

/-! The group's passages and the line controller leave every station alone. -/

@[simp] theorem handOver_jack (s : State) (k : Sta) : (handOver s).jack k = s.jack k :=
  congrArg (fun p => p.get k) (handOver_jacks s)

@[simp] theorem enterGroup_jack (g : GroupState) (s : State) (k : Sta) : (enterGroup g s).jack k = s.jack k :=
  congrArg (fun p => p.get k) (enterGroup_jacks g s)

@[simp] theorem enterStopping_jack (s : State) (k : Sta) : (enterStopping s).jack k = s.jack k :=
  congrArg (fun p => p.get k) (enterStopping_jacks s)

@[simp] theorem listFault_jack (f : FaultKind) (x : Subject) (s : State) (k : Sta) : (listFault f x s).jack k = s.jack k :=
  congrArg (fun p => p.get k) (listFault_jacks f x s)

theorem Jack.latchRest_sameStation (j : Jack) : j.sameStation j.latchRest := ⟨rfl, rfl, rfl, rfl, rfl, rfl, rfl, rfl, rfl⟩

theorem beginFaultStop_sameStation (kind : FaultKind) (x : Subject) (s : State) (i : Sta) :
    (s.jack i).sameStation ((beginFaultStop kind x s).jack i) := by
  have h := moveStations_sameStation (haltReference (raise (.groupStop kind x) (setCause (.fault kind x) s))) i
  simpa only [beginFaultStop, enterStopping_jack, haltReference_jack, raise_jack, setCause_jack] using h

theorem enterLockout_sameStation (k : Sta) (s : State) (i : Sta) :
    (s.jack i).sameStation ((enterLockout k s).jack i) := by
  have h1 : (s.jack i).sameStation ((abandonAll s).jack i) := by
    rw [abandonAll_jack]
    split_ifs <;> exact ⟨rfl, rfl, rfl, rfl, rfl, rfl, rfl, rfl, rfl⟩
  have h2 : (s.jack i).sameStation ((forStations abandonMove (abandonAll s)).jack i) :=
    forStations_keeps (P := fun t => (s.jack i).sameStation (t.jack i))
      (fun k t ht => ht.trans (abandonMove_sameStation k t i)) h1
  have h3 := (h2.trans (moveStations_sameStation _ i)).trans (Jack.latchRest_sameStation _)
  simpa only [enterLockout, enterGroup_jack, raise_jack, setCause_jack, haltReference_jack, latchAllRest_jack] using h3

theorem actOnGroup_sameStation (kind : FaultKind) (x : Subject) (s : State) (i : Sta) :
    (s.jack i).sameStation ((actOnGroup kind x s).jack i) := by
  unfold actOnGroup
  split <;> split_ifs
  · exact .refl _
  · exact enterLockout_sameStation _ _ i
  · exact beginFaultStop_sameStation _ _ _ i
  · exact .refl _

/-- A detection of any kind leaves of every station what `Jack.sameStation` names. -/
theorem takeDetection_sameStation (kind : FaultKind) (x : Subject) (s : State) (i : Sta) :
    (s.jack i).sameStation ((takeDetection kind x s).jack i) := by
  have hstations : (s.jack i).sameStation ((actOnStations kind x (listFault kind x s)).jack i) := by
    rw [← listFault_jack kind x s i]
    unfold actOnStations
    split
    · exact faultStation_sameStation _ _ _ i
    · exact endTrims_sameStation _ i
    · exact endTrims_sameStation _ i
    · exact .refl _
  rw [takeDetection, handOver_jack]
  exact hstations.trans (actOnGroup_sameStation kind x _ i)

/-- And so does what a judgement hands, wherever the station stands. -/
theorem handJudged_sameStation (kind : FaultKind) (k : Sta) (s : State) (i : Sta) :
    (s.jack i).sameStation ((handJudged kind k s).jack i) :=
  takeDetection_sameStation kind _ s i

/-- Taking any list of detections leaves them too. -/
theorem takeDetections_sameStation (l : List Detection) (s : State) (i : Sta) :
    (s.jack i).sameStation ((takeDetections l s).jack i) :=
  takeDetections_keeps (P := fun t => (s.jack i).sameStation (t.jack i))
    (fun f x t ht => ht.trans (takeDetection_sameStation f x t i)) (.refl _) l

/-! ### Handing a rate (R40 to R44, R136) -/

/-- A generator that takes a converted rate, its mark set by the conversion, is what the statements say. -/
theorem Generator.hand_handed (r : Int) (kStep : Nat) (g : Generator) :
    Generator.Handed r kStep g ({ g with ceiling := heldAtCeiling r kStep }.hand (convertRate r kStep)) := by
  obtain ⟨run, divisor, dir, pending, remaining, ceiling, brake, stepHigh, dirHigh⟩ := g
  unfold Generator.Handed convertRate Generator.hand
  by_cases hr : r = 0
  · cases run <;> rcases pending with - | (_ | _ | _) <;> simp [hr]
  · cases run <;> rcases pending with - | (_ | _ | _) <;> cases stepHigh <;> simp [hr, Generator.startRate, Generator.turn]

/-- A rate handed while the generators are not held (R48, R49): the commanded rate, and the generator that took it. -/
theorem handRate_self (k : Sta) (r : Int) (s : State) (h : generatorsHeld s = false) :
    ((handRate k r s).jack k).rate = r ∧
      Generator.Handed r (s.jack k).record.settings.kStep (s.jack k).gen ((handRate k r s).jack k).gen := by
  simp only [handRate, updJack_jack_self, h, Bool.false_eq_true, if_false]
  exact ⟨trivial, Generator.hand_handed _ _ _⟩

/-- A rate handed to one station leaves every other alone. -/
theorem handRate_ne (r : Int) (s : State) {i k : Sta} (h : i ≠ k) : (handRate k r s).jack i = s.jack i :=
  updJack_jack_ne s _ h

/-! ### Checks that find nothing -/

/-- The load link's checks hand nothing for a station that keeps its load (R83 to R87). -/
theorem linkDetections_eq_nil {s : State} {k : Sta} (h : LoadKept s.group.state s.group.params (s.jack k)) :
    linkDetections s k = [] := by
  obtain ⟨hw, h0, hl⟩ := h
  have hwatch : watched (s.jack k).record.state = true →
      (s.jack k).record.state ∈ [StationState.seeking, .confirming, .engaged, .trimming, .releasing] := by
    cases (s.jack k).record.state <;> simp [watched]
  have hs : silentNow s.group.params (s.jack k) = false := by
    rw [Bool.eq_false_iff]; intro hh
    simp only [silentNow, Bool.and_eq_true, decide_eq_true_eq] at hh
    have := (hw (hwatch hh.1)).1
    omega
  have ho : overloadNow (s.jack k) = false := by
    rw [Bool.eq_false_iff]; intro hh
    simp only [overloadNow, Bool.and_eq_true, decide_eq_true_eq] at hh
    have := (hw (hwatch hh.1)).2
    omega
  have hloss : ¬ s.group.params.lossConfirm ≤ lossAfter s.group.state (s.jack k) := by
    unfold lossAfter saturateNat
    split_ifs with hh
    · simp only [Jack.isIn, Bool.and_eq_true, Bool.or_eq_true, beq_iff_eq, decide_eq_true_eq] at hh
      have := hl hh.1.1 hh.1.2 hh.2
      omega
    · omega
  simp [linkDetections, hs, ho, hloss]

/-- The tracking monitor's checks hand nothing for a station just latched that keeps its travel, its gate and its rest (R60 to R70). -/
theorem monitorDetections_eq_nil {s : State} {k : Sta} (hl : (s.jack k).pos.latched = (s.jack k).pos.count)
    (hr : (s.jack k).pos.latchedRunning = (s.jack k).gen.running) (h : TrackingKept s.group.params (s.jack k)) :
    monitorDetections s k = [] := by
  by_cases ha : (s.jack k).assigned = true
  · obtain ⟨ht, hg, hrest⟩ := h ha
    have hh : (s.jack k).latchedHeight = (s.jack k).liveHeight := by rw [Jack.latchedHeight, hl, Jack.liveHeight]
    have htravel : (s.jack k).outOfTravel = false := by
      rw [Bool.eq_false_iff]; intro hx
      simp only [Jack.outOfTravel, hh, Bool.and_eq_true, Bool.or_eq_true, decide_eq_true_eq] at hx
      have := ht hx.1
      omega
    have hrun : runsAway s.group.state s.group.params (s.jack k) = false := by
      rw [Bool.eq_false_iff]; intro hx
      simp only [runsAway, runawayAfter, hr, drifted, hh, ha, saturateNat, Bool.and_eq_true, decide_eq_true_eq, bne_iff_ne] at hx
      obtain ⟨⟨⟨-, hi⟩, hd⟩, hc⟩ := hx
      have hidle : (s.jack k).gen.run = .idle := by simpa [Generator.running] using hi
      rw [if_pos (by simpa [hi] using hd)] at hc
      have := hrest hidle
      omega
    have hgate : ∀ g, closingGate (s.jack k) = some g → driveSlips s.group.params (s.jack k) g = false := by
      intro g e
      unfold closingGate at e
      split at e
      · rename_i g' hg'
        split_ifs at e with hc
        cases e
        simp only [Bool.and_eq_true, Bool.not_eq_true', decide_eq_true_eq] at hc
        rw [Bool.eq_false_iff]; intro hx
        simp only [driveSlips, Bool.and_eq_true, decide_eq_true_eq] at hx
        obtain ⟨hs, hlim⟩ := hx
        have hs' := hs
        simp only [slips, slipAllowance, slipDisagreement, Bool.and_eq_true, Bool.not_eq_true'] at hs'
        have hbig := of_decide_eq_true hs'.2
        rw [slipRunAfter] at hlim
        simp only [ha, hs'.1.2, hs, saturateNat, Bool.not_true, Bool.false_eq_true, if_false, if_true] at hlim
        have := hg g hg' hc.1 hc.2
        omega
      · cases e
    unfold monitorDetections
    simp only [htravel, hrun, ha, Bool.and_false, Bool.false_eq_true, if_false, List.append_nil, List.nil_append]
    split
    · rename_i g e; rw [hgate g e]; rfl
    · rfl
  · have ha' : (s.jack k).assigned = false := by simpa using ha
    have hd : ∀ g, driveSlips s.group.params (s.jack k) g = false := fun g => by simp [driveSlips, slips, ha']
    unfold monitorDetections
    simp only [runsAway, ha', hd, Bool.false_and, Bool.and_false, Bool.false_eq_true, if_false, List.append_nil, List.nil_append]
    split <;> rfl

/-! ### The passage to STOPPED (R106) -/

/-- Every rate was forced at an earlier cycle start of the present stop only where a stop is under way already. -/
theorem forcedEarlier_iff (s : State) : forcedEarlier s = true ↔ s.group.state = .stopping ∧ s.group.ratesForced = true := by
  simp [forcedEarlier]

/-- The test of R106 enters STOPPED with the wait count 0, or changes nothing. -/
theorem stopTest_cases (forced : Bool) (s : State) :
    ((s.group.state = .stopping ∧ forced = true ∧ allAtRest s = true) ∧
      stopTest forced s = handOver (enterGroup .stopped (clearWait s))) ∨
    (¬ (s.group.state = .stopping ∧ forced = true ∧ allAtRest s = true) ∧ stopTest forced s = s) := by
  unfold stopTest
  split_ifs with h
  · exact .inl ⟨h, rfl⟩
  · exact .inr ⟨h, rfl⟩

theorem stopTest_group (forced : Bool) (s : State) : (stopTest forced s).group =
    if s.group.state = .stopping ∧ forced = true ∧ allAtRest s = true then
      { s.group with state := .stopped, waitCount := 0 } else s.group := by
  obtain ⟨h, e⟩ | ⟨h, e⟩ := stopTest_cases forced s
  · rw [e, if_pos h, handOver_group, enterGroup_group]; rfl
  · rw [e, if_neg h]

@[simp] theorem stopTest_jacks (forced : Bool) (s : State) : (stopTest forced s).jacks = s.jacks := by
  obtain ⟨-, e⟩ | ⟨-, e⟩ := stopTest_cases forced s <;> rw [e]
  simp
@[simp] theorem stopTest_cars (forced : Bool) (s : State) : (stopTest forced s).cars = s.cars := by
  obtain ⟨-, e⟩ | ⟨-, e⟩ := stopTest_cases forced s <;> rw [e]
  simp
@[simp] theorem stopTest_sync (forced : Bool) (s : State) : (stopTest forced s).sync = s.sync := by
  obtain ⟨-, e⟩ | ⟨-, e⟩ := stopTest_cases forced s <;> rw [e]
  simp [enterGroup_sync]
@[simp] theorem stopTest_plan (forced : Bool) (s : State) : (stopTest forced s).plan = s.plan := by
  obtain ⟨-, e⟩ | ⟨-, e⟩ := stopTest_cases forced s <;> rw [e]
  simp
@[simp] theorem stopTest_link (forced : Bool) (s : State) : (stopTest forced s).link = s.link := by
  obtain ⟨-, e⟩ | ⟨-, e⟩ := stopTest_cases forced s <;> rw [e]
  simp
@[simp] theorem stopTest_pins (forced : Bool) (s : State) : (stopTest forced s).pins = s.pins := by
  obtain ⟨-, e⟩ | ⟨-, e⟩ := stopTest_cases forced s <;> rw [e]
  simp
@[simp] theorem stopTest_pending (forced : Bool) (s : State) : (stopTest forced s).pending = s.pending := by
  obtain ⟨-, e⟩ | ⟨-, e⟩ := stopTest_cases forced s <;> rw [e]
  simp

end Sys2Proof.Machine
end

