-- ==== Sys2Proof/Tests/Slice0.lean ====
section
/-! SUPPORT. Tests: the spec's worked examples, one small step of each command, and for each statement with hypotheses a state and operands that meet them. -/

namespace Sys2Proof.Tests
open Sys2Proof.Machine

-- The theorems one after another: many small kernel evaluations at once would need a thread each.
set_option Elab.async false

/-! ### Helpers -/

/-- The part in group state `g`, validated, its permit high and the cold mark cleared, in cycle 42. -/
def part (g : GroupState) : State :=
  { State.reset with
    group := { Group.reset with state := g, validated := true, permit := true, cycle := 42 }
    line := { Line.reset with cold := false }
    pins := { permit := true, resetAsserted := false } }

/-- Station `k` put into state `st`, its datum KNOWN, with a contact height or without one. -/
def station (k : Sta) (st : StationState) (contact : Option Int) (s : State) : State :=
  s.updRec k (fun r => { r with state := st, datumKnown := true, contact := contact })

/-- Station `k` at a count. -/
def count (k : Sta) (n : Word) (s : State) : State :=
  s.updJack k (fun j => { j with pos := { j.pos with count := n }, mon := { j.mon with rest := n } })

/-- Station `k` with a generator running in RATE upward at the divisor 4,000. -/
def running (k : Sta) (s : State) : State :=
  s.updGen k (fun g => { g with run := .rate, divisor := some { n := 125, m := 0 }, dir := .up, dirHigh := true, brake := .released })

/-- The state a command leaves. -/
def after (i : Instr) (s : State) : State :=
  match exec i s with
  | .next t => t
  | .fault _ => s
  | .refused _ => s

/-- The body of the last frame in the queue. -/
def lastBody (s : State) : List Byte := (s.line.queue.getLast?.map (fun f => f.body)).getD []

/-- A car on four stations in corner order. -/
def car (fl fr rl rr : Sta) (twistLimit : Nat) (coupled : Bool) (couplingLimit : Nat) : Car :=
  { fl := some fl, fr := some fr, rl := some rl, rr := some rr, twistLimit := twistLimit, coupled := coupled,
    couplingLimit := couplingLimit, warnRaised := false, lastTwist := none, lastStep := none, couplingSet := false }

/-- Settings that pass the ranges of R1. -/
def goodSettings : RawSettings :=
  { kStep := 2004, encScale := 501, rMax := 8000, hMax := 1500000, tContact := 500, tRelease := 200, overload := 15000,
    loss := 100, homeCount := 0, offset := 0 }

/-- A MOVE to `target`. -/
def move (target : Nat) : Segment :=
  { kind := .move, target := target, cruise := 300, accel := 100, dwell := 0, stopAfter := false }

/-- A DWELL of `n` cycles. -/
def dwell (n : Nat) : Segment :=
  { kind := .dwell, target := 0, cruise := 0, accel := 100, dwell := n, stopAfter := false }

/-- The active plan holding `l`, the lift limit at 1,000,000 µm. -/
def withPlan (l : List Segment) (s : State) : State :=
  { s with
    plan := { s.plan with bankA := l }
    group := { s.group with params := { s.group.params with lMax := 1000000 } } }

/-! ### Operands that are refused (the smoke test of WellFormed) -/

theorem test_smoke_groupSet_of_25_values : (Instr.groupSet 1 0 (List.replicate 25 0)).wellFormed = false := by decide
theorem test_smoke_groupSet_of_26_values : (Instr.groupSet 1 0 (List.replicate 26 0)).wellFormed = true := by decide
theorem test_smoke_request_groupSet_of_27_values : (Request.groupSet 0 (List.replicate 27 0)).wellFormed = false := by decide
theorem test_smoke_car_form_0 : (Request.carBadForm 1 0).wellFormed = false := by decide
theorem test_smoke_car_form_1 : (Request.carBadForm 1 1).wellFormed = false := by decide
theorem test_smoke_no_word_spells_a_command : decodeTableWord 8 0xA5 = none := rfl

/-! ### Arithmetic and cyclic checks: values the spec works out -/

/-- R172: the CRC of the bytes 0x31 to 0x39 is 0x29B1. -/
theorem test_crc16_check_value : crc16 [0x31, 0x32, 0x33, 0x34, 0x35, 0x36, 0x37, 0x38, 0x39] = 0x29B1 := by decide +kernel

/-- Section 5.2's example: the answer 0x05, 0x2A, 0x10, 0x68, 0x00 has CRC 0x40. -/
theorem test_crc8_of_an_answer : crc8 [0x05, 0x2A, 0x10, 0x68, 0x00] = 0x40 := by decide +kernel

/-- R59's table: the exact products 12,350.0, 1,499.5 and −1.5. -/
theorem test_heights : heightOf 24700 500 = 12350 ∧ heightOf 2999 500 = 1500 ∧ heightOf (-3) 500 = -2 := by decide +kernel

/-- Section 3.2's worked divisor cases. -/
theorem test_divisors :
    [(2300, 2000), (1840, 2000), (436, 2000), (200, 2048), (8000, 2000), (8000, 20000), (30, 2000), (1, 100)].map
      (fun p => ((divisorOf p.1 p.2).n, (divisorOf p.1 p.2).m)) =
    [(108, 22), (135, 28), (573, 13), (1220, 23), (31, 8), (31, 0), (8191, 31), (8191, 31)] := by decide +kernel

/-- Section 3.2: of those, the ceiling holds +8,000 µm/s at 20,000 steps per mm alone. -/
theorem test_ceilings : heldAtCeiling 8000 20000 = true ∧ heldAtCeiling (-8000) 2000 = false ∧ heldAtCeiling 30 2000 = false := by
  decide +kernel

/-- Section 1.6 and 1.7: 2,500 µm is 5,000 steps, and the home window 400,000. -/
theorem test_steps : stepsOf 2500 2000 = 5000 ∧ stepsOf 200000 2000 = 400000 := by decide +kernel

/-- Section 7.4: S(100), S(200), S(300) at a = 100, and the speeds of the short lift's nine computations. -/
theorem test_short_lift :
    [100, 200, 300].map (stoppingDistance 100) = [0, 100, 300] ∧
    [(0, 2000), (100, 1900), (200, 1700), (300, 1400), (300, 1100), (300, 800), (300, 500), (200, 300), (200, 100)].map
      (fun p => chooseSpeed 100 300 p.1 p.2) = [100, 200, 300, 300, 300, 300, 200, 200, 100] := by decide +kernel

/-- Section 7.4: the very short segment ends on its floor. -/
theorem test_floor : chooseSpeed 100 300 0 150 = 100 ∧ chooseSpeed 100 300 100 50 = 50 := by decide +kernel

/-- Section 7.4: the reversal's steps 1, 3 and 4. -/
theorem test_reversal :
    refStep 1000000 9500 300 100 { lift := 10000, speed := 300, dir := .up } = { lift := 10200, speed := 200, dir := .up } ∧
    refStep 1000000 9500 300 100 { lift := 10300, speed := 100, dir := .up } = { lift := 10300, speed := 0, dir := .up } ∧
    refStep 1000000 9500 300 100 { lift := 10300, speed := 0, dir := .up } = { lift := 10200, speed := 100, dir := .down } := by
  decide +kernel

/-- Section 2.5: halves go away from zero, on both sides. -/
theorem test_end_lifts : meanOf [some 12900, some 12611] = some 12756 ∧ meanOf [some (-3), some (-4)] = some (-4) := by
  decide +kernel

/-- Section 4.4: gate 4 differs by −530 µm; the station with a step scale of 2,048 by −2 µm. -/
theorem test_slip_figures :
    roundNearest (-1100 * 1000000 - -40 * 500 * 2000) (1000 * 2000) = -530 ∧ roundNearest (-3520000) 2048000 = -2 := by
  decide +kernel

/-- Section 2.8: +800 µm at car 1's RR corner fails at coupling 1, which is index 17; +600 µm passes. -/
theorem test_offset_validation :
    let cars := [car 0 1 2 3 1000 true 300, car 4 5 6 7 1000 false 0]
    offsetFailure cars (fun k => if k = 3 then 800 else 0) = some 17 ∧
      offsetFailure cars (fun k => if k = 3 then 600 else 0) = none := by decide +kernel

/-! ### Resets -/

/-- R115: the cycle number starts at 255, and the permit level is the line's. -/
theorem test_powerOn :
    let s := after (.powerOn { permit := true, spd1 := true, spd0 := false,
                               stations := PerStation.replicate { encA := true, encB := false, homeLow := true } }) (part .moving)
    s.group.cycle = 255 ∧ s.group.permit = true ∧ s.group.state = .setup ∧ (s.jack 31).pos.encA = true := by decide +kernel

/-- R55 and R189: the brakes apply, and the frames held are dropped. -/
theorem test_warmResetBegin :
    let s := after .warmResetBegin (after (.restart 9) (running 3 (part .moving)))
    (s.jack 3).gen.brake = .applied ∧ (s.jack 3).gen.run = .idle ∧ s.line.queue = [] := by decide +kernel

/-- R116 and R20: with a contact height held the group comes up STOPPED with cause RESET, a trimming station ENGAGED. -/
theorem test_warmResetEnd :
    let s := after (.warmResetEnd true true) (after .warmResetBegin (station 3 .trimming (some 40) (part .stopped)))
    s.group.state = .stopped ∧ s.group.cause = .reset ∧ (s.jack 3).record.state = .engaged ∧ s.line.speed1 = true := by
  decide +kernel

/-! ### The cycle start -/

/-- R93 and R75: the first cycle start after power-on begins cycle 0; the CRC of 0xB4, 0x00 is 0x1B by the single-bit values of
section 5.2. -/
theorem test_cycleStart_beacon : (after .cycleStart State.reset).link.ltx = [0xB4, 0x00, 0x1B] := by decide +kernel

/-- Four engaged stations of the car of section 2.4, moving at v' = 2,000 with L = 1,250,000 centi-µm (section 7.7). -/
def oneCycle : State :=
  let lifts : List (Sta × Word) := [(0, 24700), (1, 25160), (2, 24980), (3, 27240)]
  let s := lifts.foldl (fun s p => running p.1 (count p.1 p.2 (station p.1 .engaged (some 0) s)))
    (withPlan [{ move 900000 with cruise := 2000 }, move 0] (part .moving))
  { s with
    cars := [car 0 1 2 3 1000 false 0]
    plan := { s.plan with segMode := some .chained }
    sync := { s.sync with ref := 1250000, speed := 2000, dir := .up } }

/-- Section 7.7: L becomes 1,252,000, FL is handed 108, 22 UP and RR the stop value; section 2.4: the twist is +900. -/
theorem test_cycleStart_one_cycle_of_a_car :
    let s := after .cycleStart oneCycle
    s.sync.ref = 1252000 ∧ (s.jack 0).gen.pending = some (.rate { n := 108, m := 22 } .up) ∧
      (s.jack 3).gen.pending = some .stop ∧ s.cars.map (fun c => (c.lastTwist, c.warnRaised)) = [(some 900, true)] := by
  decide +kernel

/-- R15. -/
theorem test_pendingOffsetTake :
    ((after .pendingOffsetTake ((part .holding).updRec 3 (fun r => { r with pendingOffset := some 200 }))).jack 3).record.settings.offset
      = 200 := by decide +kernel

/-- R162 and R163: a QUEUED REPLACE is taken in HOLDING. -/
theorem test_take :
    let s := after .take { part .holding with plan := { Plan.reset with bankA := [move 5], bankB := [move 9], commit := some .replace } }
    s.plan.active = .b ∧ s.plan.bankA = [] ∧ s.plan.taken = true := by decide +kernel

/-- Station 4 at the close of a slip gate of 1,200 steps and no edges (section 4.4, gate 2). -/
def deadEncoder : State :=
  (station 4 .engaged (some 0) (part .stopped)).updJack 4 (fun j =>
    { j with mon := { j.mon with gate := some { left := 1, steps := 1200, edges := 0 } } })

/-- Section 4.4, gate 2: SLIP with +600 µm and run count 1. -/
theorem test_slipGateClose :
    let s := after (.slipGateClose 4) deadEncoder
    (s.jack 4).mon.slipRun = 1 ∧ (lastBody s).drop 5 = [4, 0x02, 0x58, 1, 0, 0, 0, 0, 0, 0, 0] := by decide +kernel

/-- The car of section 7.7 with a lagging FL and one wait cycle left. -/
def aboutToTimeOut : State :=
  let s := count 0 24564 oneCycle
  { s with group := { s.group with waitCount := 2999 } }.updJack 0 (fun j => { j with err := 21800 })

/-- R131 and R104: the wait limit is reached. -/
theorem test_waitTimeout :
    let s := after .waitTimeout aboutToTimeOut
    s.group.state = .stopping ∧ s.group.faults.map (fun e => e.kind) = [.waitTimeout] := by decide +kernel

/-- The last computation of a DWELL at plan position 0 of `l`. -/
def lastDwell (l : List Segment) : State :=
  let s := withPlan l (part .moving)
  { s with plan := { s.plan with segMode := some .chained }, sync := { s.sync with dwell := some 1 } }

/-- R126 and R168: the DWELL that is the plan's last leaves the group in HOLDING past it. -/
theorem test_dwellCompletion :
    let s := after .dwellCompletion (lastDwell [dwell 7])
    s.group.state = .holding ∧ s.sync.planPos = 1 ∧ s.sync.dwell = none := by decide +kernel

/-- The stream about to fall due. -/
def streaming (queue : List Machine.Frame) : State :=
  { part .holding with line := { Line.reset with streamPeriod := 5, streamCount := 4, queue := queue } }

/-- R186: a due snapshot is admitted to an empty queue. -/
theorem test_streamSnapshotDue :
    (after .streamSnapshotDue (streaming [])).line.queue.map (fun f => f.kind) = [0x71] := by decide +kernel

/-! ### The load link -/

/-- Station 5 in cycle 42 with `bytes` charged to its slot. -/
def slotFive (bytes : List Byte) : State :=
  (station 5 .engaged (some 0) (part .holding)).updJack 5 (fun j => { j with link := { j.link with
    slotOpen := true, bytes := bytes.map (fun b => { byte := b, framingFault := false }) } })

/-- R75. -/
theorem test_beaconEnd : (after .beaconEnd (after .cycleStart (part .holding))).link.lde = false := by decide +kernel

/-- R78: a byte is charged to its slot once the beacon has ended. -/
theorem test_loadByteReceived :
    ((after (.loadByteReceived (.slot 5) 0x05 false) (after .beaconEnd (after .cycleStart (part .holding)))).jack 5).link.bytes
      = [{ byte := 0x05, framingFault := false }] := by decide +kernel

/-- Section 5.2's answer: 4,200 daN, FRESH. -/
theorem test_slotClose_fresh :
    let l := ((after (.slotClose 5 false) (slotFive [0x05, 0x2A, 0x10, 0x68, 0x00, 0x40])).jack 5).link
    l.held = 4200 ∧ l.outcome = .fresh ∧ l.fresh = true := by decide +kernel

/-- Section 5.2: with 0x41 in the last byte the slot is GARBLED and a miss. -/
theorem test_slotClose_garbled :
    let l := ((after (.slotClose 5 false) (slotFive [0x05, 0x2A, 0x10, 0x68, 0x00, 0x41])).jack 5).link
    l.outcome = .garbled ∧ l.miss = 1 ∧ l.held = 0 := by decide +kernel

/-! ### Generators and inputs -/

/-- Section 3.7: RR emits one more pulse, rests, and keeps its brake RELEASED in MOVING. -/
theorem test_periodCompletion :
    let s := after (.periodCompletion 3) (after .cycleStart oneCycle)
    (s.jack 3).gen.run = .idle ∧ (s.jack 3).gen.brake = .released ∧ (s.jack 3).mon.rest = 27240 := by decide +kernel

/-- R39: STEP falls at the end of the pulse. -/
theorem test_stepPulseEnd :
    ((after (.stepPulseEnd 3) (after (.periodCompletion 3) oneCycle)).jack 3).gen.stepHigh = false := by decide +kernel

/-- R56: from low-low, ENCA high is one count up. -/
theorem test_encoderEdge : ((after (.encoderEdge 31 .a) State.reset).jack 31).pos.count = 1 := by decide +kernel

/-- R56: a change of both lines counts nothing. -/
theorem test_bothLinesChange :
    let p := ((after (.bothLinesChange 31) State.reset).jack 31).pos
    p.count = 0 ∧ p.encA = true ∧ p.encB = true := by decide +kernel

/-- Station 9 homing with a home count of 40 (section 1.7). -/
def homing : State :=
  let s := (station 9 .idle none (part .setup)).updRec 9 (fun r => { r with settings := { r.settings with homeCount := 40 } })
  after (.home 1 9) s

/-- R8. -/
theorem test_homeActivation :
    let j := (after (.homeActivation 9) homing).jack 9
    j.pos.count = 40 ∧ j.record.datumKnown = true ∧ j.record.state = .homing := by decide +kernel

/-- R8. -/
theorem test_homeInactive :
    ((after (.homeInactive 9) (after (.homeActivation 9) homing)).jack 9).homeLow = false := by decide +kernel

/-- R111 and R48. -/
theorem test_permitFall :
    let s := after .permitFall oneCycle
    s.group.state = .stopped ∧ s.group.cause = .permit ∧ (s.jack 0).gen.run = .idle ∧ (s.jack 0).gen.brake = .applied := by
  decide +kernel

/-- The car of section 6.8 after a permit fall, E = 500 and contact heights 0; station 1's offset is +200. -/
def settled : State :=
  let lifts : List (Sta × Word) := [(0, 500240), (1, 500620), (2, 499960), (3, 500410)]
  let s := lifts.foldl (fun s p => count p.1 p.2 (station p.1 .engaged (some 0) s)) (withPlan [move 900000] (part .stopped))
  { s.updRec 1 (fun r => { r with settings := { r.settings with offset := 200 } }) with
    group := { s.group with permit := false }, pins := { permit := false, resetAsserted := false } }

/-- Section 6.8: the reference is re-based to 25,010,400 centi-µm. -/
theorem test_permitRise : (after .permitRise settled).sync.ref = 25010400 := by decide +kernel

/-! ### The control line -/

/-- The part just out of power-on with the permit line high (section 10.4). -/
def cold : State :=
  after (.powerOn { permit := true, spd1 := false, spd0 := false,
                    stations := PerStation.replicate { encA := false, encB := false, homeLow := false } }) State.reset

/-- Section 10.4's exchange, byte by byte: outcome DONE, summary 0x0840, the cold mark as it stood, cycle 255, no faults, no pending
kinds, speed code 0. -/
theorem test_crxByte_status_exchange :
    (match runAll ((wireBytes 0x01 0x2C [0x01]).map (fun b => .crxByte b false)) cold with
      | .next s => s.line.queue.map (fun f => (f.kind, f.tag, f.body))
      | .fault _ => []
      | .refused _ => []) = [(0x81, 0x2C, [0x00, 0x08, 0x40, 0x01, 0xFF, 0x00, 0x00, 0x00, 0x00, 0x00])] := by decide +kernel

/-- R173: the gap timer discards a frame begun. -/
theorem test_gapTimerExpiry : (after .gapTimerExpiry (after (.crxByte 0xA5 false) cold)).line.asm = .hunting := by decide +kernel

/-- R179: the frame sent leaves the queue. -/
theorem test_transmitCompletion :
    (after (.transmitCompletion false false) (after (.faultsRead 1) (after (.groupGet 2) cold))).line.queue.map (fun f => f.tag)
      = [1] := by decide +kernel

/-- R178: the cold mark is cleared by 0x01. -/
theorem test_status : (after (.status 0x2C 0x01) cold).line.cold = false := by decide +kernel

/-- R3 and R65: the reply names the station, and the slip mark is cleared after it. -/
theorem test_stationGet :
    let s := after (.stationGet 1 4) (after (.slipGateClose 4) deadEncoder)
    ((lastBody s).drop 3).take 2 = [4, 6] ∧ (s.jack 4).mon.slipMark = false := by decide +kernel

/-- R4: K_step and E are written where marked; a new E makes the datum UNKNOWN. -/
theorem test_stationSet :
    let r := ((after (.stationSet 1 4 0x0003 goodSettings) (station 4 .idle none (part .setup))).jack 4).record
    r.settings.kStep = 2004 ∧ r.settings.encScale = 501 ∧ r.settings.overload = 15000 ∧ r.datumKnown = false := by decide +kernel

/-- R25: a car that does not exist is answered DONE, absent. -/
theorem test_carGet : lastBody (after (.carGet 1 8) cold) = [0x00, 0x0C, 0x40, 0, 0] := by decide +kernel

/-- R23 and R2: the listed stations become IDLE. -/
theorem test_carSet :
    let s := after (.carSet 1 1 { fl := 0, fr := 1, rl := 2, rr := 0xFF, twistLimit := 1000, coupled := 0, couplingLimit := 0 }) cold
    s.cars.length = 1 ∧ (s.jack 2).record.state = .idle ∧ (s.jack 3).record.state = .unassigned := by decide +kernel

/-- R24 and R2: deleting the one car unassigns its stations. -/
theorem test_carSetDelete :
    let s := after (.carSetDelete 1 1)
      (after (.carSet 1 1 { fl := 0, fr := 1, rl := 2, rr := 0xFF, twistLimit := 1000, coupled := 0, couplingLimit := 0 }) cold)
    s.cars = [] ∧ (s.jack 2).record.state = .unassigned := by decide +kernel

/-- R194: 3 bytes before the content, 104 of parameters and 11 of state. -/
theorem test_groupGet : (lastBody (after (.groupGet 1) cold)).length = 118 := by decide +kernel

/-- R114: the gain is written in any state. -/
theorem test_groupSet :
    (after (.groupSet 1 0x00000004 (List.replicate 26 200)) (part .moving)).group.params.gain = 200 := by decide +kernel

/-- R114: a window is not written in MOVING. -/
theorem test_groupSet_refused :
    ((lastBody (after (.groupSet 1 0x00000400 (List.replicate 26 200)) (part .moving))).take 1) = [0x03] := by decide +kernel

/-- R185: with no station assigned the content is the 8-byte group part. -/
theorem test_snapshot : (lastBody (after (.snapshot 1) cold)).length = 11 := by decide +kernel

/-- R108. -/
theorem test_faultsRead :
    (lastBody (after (.faultsRead 1) (after .waitTimeout aboutToTimeOut))).drop 3 = [0, 1, 0x02, 0xFF, 42, 0] := by decide +kernel

/-- R184: bit 15 is not kept. -/
theorem test_eventMask : (after (.eventMask 1 0x8002) cold).line.mask = 0x0002 := by decide +kernel

/-- R186: a period of 4 is refused. -/
theorem test_stream :
    (after (.stream 1 5) cold).line.streamPeriod = 5 ∧ (after (.stream 1 4) cold).line.streamPeriod = 0 := by decide +kernel

/-- R157: a target above L_max is clamped and answered CLAMPED. -/
theorem test_planWrite :
    let s := after (.planWrite 1 0 { kind := 1, stopAfter := 0, accel := 100, target := 1000001, cruise := 300, dwell := 0 })
      (withPlan [] (part .moving))
    s.plan.bankB.map (fun g => g.target) = [1000000] ∧ (lastBody s).take 1 = [0x01] := by decide +kernel

/-- R160 and R194: bank A, two segments, at position 0, no segment mode, and segment 1 absent at index 2. -/
theorem test_planRead :
    (lastBody (after (.planRead 1 0 2) (withPlan [move 5, move 6] (part .holding)))).drop 3 = [0, 2, 0, 0, 0] := by decide +kernel

/-- R159. -/
theorem test_planClear :
    (after (.planClear 1) { part .moving with plan := { Plan.reset with bankB := [move 5] } }).plan.bankB = [] := by decide +kernel

/-- R161: an empty bank is not committed. -/
theorem test_commitReplace :
    (lastBody (after (.commitReplace 1) (part .holding))).take 1 = [0x0E] ∧
      (after (.commitReplace 1) { part .moving with plan := { Plan.reset with bankB := [move 5] } }).plan.commit = some .replace := by
  decide +kernel

/-- R161. -/
theorem test_commitAppend :
    (after (.commitAppend 1) { part .moving with plan := { Plan.reset with bankB := [move 5] } }).plan.commit = some .append := by
  decide +kernel

/-- R165: after a take the withdrawal is TOO_LATE. -/
theorem test_withdraw :
    (lastBody (after (.withdraw 1) { part .holding with plan := { Plan.reset with taken := true } })).take 1 = [0x0D] := by decide +kernel

/-- R166. -/
theorem test_planMode : (after (.planMode 1 1) (part .moving)).plan.mode = .single := by decide +kernel

/-- Station 4 of section 1.6 at a count. -/
def jogger (n : Word) : State := count 4 n (station 4 .idle none (part .prepared))

/-- Section 1.6, first jog: 5,000 steps at the divisor 125, 0. -/
theorem test_jog :
    let j := (after (.jog 1 4 2500) (jogger 24700)).jack 4
    j.gen.remaining = 5000 ∧ j.gen.divisor = some { n := 125, m := 0 } ∧ j.record.state = .jogging := by decide +kernel

/-- Section 1.6, second jog: clamped to 2,000 steps downward, answered CLAMPED. -/
theorem test_jog_clamped :
    let s := after (.jog 1 4 (-1500)) (jogger 2000)
    (s.jack 4).gen.remaining = 2000 ∧ (s.jack 4).gen.dir = .down ∧ (lastBody s).take 1 = [0x01] := by decide +kernel

/-- Section 1.7: 400,000 steps downward at N = 250, M = 0. -/
theorem test_home :
    let g := (homing.jack 9).gen
    g.remaining = 400000 ∧ g.divisor = some { n := 250, m := 0 } ∧ g.dir = .down := by decide +kernel

/-- R11: an ENGAGED station trims in STOPPED. -/
theorem test_trim :
    ((after (.trim 1 3 (-100)) (count 3 500000 (station 3 .engaged (some 0) (part .stopped)))).jack 3).record.state = .trimming := by
  decide +kernel

/-- R66. -/
theorem test_openGate : ((after (.openGate 1 4) (jogger 0)).jack 4).mon.gateOpen = true := by decide +kernel

/-- Section 4.6: 20,000 steps (0x4E20), 19,920 edges (0x4DD0) and 503 cycles (0x01F7) in the reply. -/
theorem test_closeGate :
    let s := (jogger 0).updJack 4 (fun j => { j with mon :=
      { j.mon with gateOpen := true, stepTally := 20000, edgeTally := 19920, openCycles := 503 } })
    (lastBody (after (.closeGate 1 4) s)).drop 3 = [0, 0, 0x4E, 0x20, 0, 0, 0x4D, 0xD0, 0x01, 0xF7] := by decide +kernel

/-- The two cars of section 2.8 in HOLDING. -/
def twoCars : State :=
  let ks : List Sta := [0, 1, 2, 3, 4, 5, 6, 7]
  { ks.foldl (fun s k => station k .engaged (some 0) s) (part .holding) with
    cars := [car 0 1 2 3 1000 true 300, car 4 5 6 7 1000 false 0] }

/-- Section 2.8: +800 µm is answered GEOMETRY, +600 µm waits for the cycle start. -/
theorem test_setOffset :
    (lastBody (after (.setOffset 1 3 800) twoCars)).take 1 = [0x0B] ∧
      ((after (.setOffset 1 3 600) twoCars).jack 3).record.pendingOffset = some 600 := by decide +kernel

/-- R187: the reply's completion makes a warm reset. -/
theorem test_restart :
    let s := after (.transmitCompletion true false) (after (.restart 1) (part .moving))
    s.group.state = .prepared ∧ s.line.speed1 = true ∧ s.line.cold = false := by decide +kernel

/-! ### Group commands -/

/-- A group command waiting in the slot with tag 0x10. -/
def waiting (c : GroupCommand) (s : State) : State :=
  settleBrakes { s with group := { s.group with slot := some { tag := 0x10, command := c } } }

/-- One car of four stations, all IDLE, ready for SETUP_DONE. -/
def configured (g : GroupState) : State :=
  let ks : List Sta := [0, 1, 2, 3]
  { withPlan [] (ks.foldl (fun s k => station k .idle none s) (part g)) with cars := [car 0 1 2 3 1000 false 0] }

/-- One car of four stations, all ENGAGED at contact height 0, with a plan. -/
def engaged (g : GroupState) (l : List Segment) : State :=
  let ks : List Sta := [0, 1, 2, 3]
  { withPlan l (ks.foldl (fun s k => station k .engaged (some 0) s) (part g)) with cars := [car 0 1 2 3 1000 false 0] }

/-- R106: a fault stop that the computation begins has no earlier cycle start, whatever an earlier stop forced. -/
theorem test_stop_begun_by_the_computation :
    let s := ([0, 1, 2, 3] : List Sta).foldl (fun s k => count k 4002 s) (engaged .holding [])
    (after .cycleStart { s with group := { s.group with ratesForced := true } }).group.state = .stopping := by decide +kernel

theorem test_setupDone :
    let s := after (.setupDone .execution) (waiting .setupDone (configured .setup))
    s.group.state = .prepared ∧ s.group.slot = none ∧ s.line.queue.map (fun f => f.tag) = [0x10, 0] := by decide +kernel

/-- R96, check 1: no car. -/
theorem test_setupDone_without_a_car :
    (lastBody (after (.setupDone .execution) (waiting .setupDone (part .setup)))).drop 3 = [1, 0, 0x01, 42] := by decide +kernel

theorem test_resetup :
    let s := after (.resetup .execution) (waiting .resetup (configured .prepared))
    s.group.state = .setup ∧ s.group.validated = false := by decide +kernel

theorem test_engage :
    let s := after (.engage .execution) (waiting .engage (configured .prepared))
    s.group.state = .engaging ∧ (s.jack 2).record.state = .seeking ∧ (s.jack 2).gen.brake = .released := by decide +kernel

theorem test_run :
    let s := after (.run .execution) (waiting .run (engaged .poised [move 500, move 0]))
    s.group.state = .moving ∧ s.sync.dir = .up ∧ s.plan.segMode = some .chained := by decide +kernel

/-- R99: a completed plan is EMPTY. -/
theorem test_continueRun :
    (lastBody (after (.continueRun .execution) (waiting .continueRun (engaged .holding [])))).take 1 = [0x0E] := by decide +kernel

theorem test_stop :
    let s := after (.stop .execution) (waiting .stop oneCycle)
    s.group.state = .stopping ∧ s.group.cause = .command ∧ s.sync.speed = 2000 := by decide +kernel

theorem test_resume :
    (after (.resume .execution) (waiting .resume (engaged .stopped [move 500]))).group.state = .moving := by decide +kernel

theorem test_land :
    let s := after (.land .execution) (waiting .land { engaged .holding [] with sync := { Sync.reset with ref := 500 } })
    s.group.state = .landing ∧ s.sync.descent = true ∧ s.sync.dir = .down := by decide +kernel

/-- R107: a latched entry is removed; the reply counts 1 removed and 0 remaining. -/
theorem test_ackFaults :
    let s := engaged .stopped []
    (lastBody (after (.ackFaults .execution) (waiting .ackFaults { s with group := { s.group with
      faults := [{ kind := .syncTrip, subject := .station 3, cycle := 37 }] } }))).drop 3 = [0, 0, 0x09, 42, 1, 0] := by decide +kernel

/-- R110: motion seen at station 14. -/
theorem test_clearLockout :
    (lastBody (after (.clearLockout .execution) (waiting .clearLockout
      ((part .lockedOut).updJack 14 (fun j => { j with mon := { j.mon with runaway := 4 } }))))).drop 3
      = [0, 0, 0x0A, 42, 14] := by decide +kernel

/-! ### States and operands that meet the statements' hypotheses

One theorem for each statement that has hypotheses, named after it; a clause with hypotheses of its own has its own conjunct, at a
boundary of its range where it has one. -/

/-- A command waiting in the slot finds every brake as called for. -/
theorem waiting_brakes (c : GroupCommand) (s : State) : BrakesSafe (waiting c s) := fun _ k => settleBrakes_brakeSafe _ k

/-- Seven frames held. -/
def full (s : State) : State :=
  setQueue (List.replicate 7 { cls := .reply, kind := 0x81, tag := 0, body := [] }) s

theorem witness_StepRunsTheFrontCommand :
    ({ part .moving with pending := [.cycleStart, .beaconEnd] } : State).pending = .cycleStart :: [.beaconEnd] ∧
      (part .moving).pending = [] := by
  decide +kernel

theorem witness_ResetAndAFullQueueDiscardCommands :
    (after .warmResetBegin (part .moving)).pins.resetAsserted = true ∧ (requestRow (.jog 1 4 2500)).isSome = true ∧
      GroupCommand.run.row .execution = .run .execution ∧
      Instr.take ∈ [.warmResetBegin, .cycleStart, .pendingOffsetTake, .take, .waitTimeout, .dwellCompletion, .streamSnapshotDue] ∧
      7 ≤ (full (part .moving)).line.queue.length := by
  decide +kernel

theorem witness_ResetIsASafeState : ({ part .moving with pending := [] } : State).pending = [] := by
  decide +kernel

theorem witness_WarmResetBeginHaltsTheBlocks : oneCycle.pins.resetAsserted = false := by
  decide +kernel

theorem witness_WarmResetEndBringsTheGroupUp :
    let s := after .warmResetBegin oneCycle
    s.pins.resetAsserted = true ∧ RoomFor 1 s := by
  unfold RoomFor
  decide +kernel

theorem witness_CycleStartLatchesAndSendsBeacon : oneCycle.pins.resetAsserted = false := by
  decide +kernel

theorem witness_DetectionsStopTheGroup_travel :
    let below := count 3 (-2) (station 3 .engaged (some 0) (part .moving))
    let above := count 3 3000002 (station 3 .engaged (some 0) (part .moving))
    StationsSafe below ∧ StationsSafe above ∧
    below.pins.resetAsserted = false ∧ below.group.slot = none ∧ below.group.state = .moving ∧
      (below.jack 3).assigned = true ∧ (below.jack 3).record.datumKnown = true ∧ (below.jack 3).liveHeight < 0 ∧
      above.pins.resetAsserted = false ∧ above.group.slot = none ∧ above.group.state = .moving ∧
      (above.jack 3).assigned = true ∧ (above.jack 3).record.datumKnown = true ∧
      ((above.jack 3).record.settings.hMax : Int) < (above.jack 3).liveHeight := by
  unfold StationsSafe RecordSafe
  decide +kernel

/-- In every group state, and in STOPPING under either kind of cause. -/
theorem witness_DetectionsStopTheGroup_everyState :
    ∀ g ∈ [GroupState.setup, .prepared, .engaging, .poised, .moving, .holding, .stopping, .stopped, .landing, .lockedOut],
      ∀ c ∈ [StopCause.command, .fault .twist (.car 1)],
      let below := count 3 (-2) (station 3 .engaged (some 0) (part g))
      let s : State := { below with group := { below.group with cause := c } }
      StationsSafe s ∧ s.pins.resetAsserted = false ∧ s.group.slot = none ∧ s.group.state = g ∧ s.group.cause = c ∧
        (s.jack 3).assigned = true ∧ (s.jack 3).record.datumKnown = true ∧ (s.jack 3).liveHeight < 0 := by
  unfold StationsSafe RecordSafe
  decide +kernel

theorem witness_DetectionsStopTheGroup_twist :
    let s := count 3 27442 oneCycle
    let lift (k : Sta) : Option Int := (s.jack k).record.contact.map (fun c => (s.jack k).liveHeight - c)
    StationsSafe s ∧ s.pins.resetAsserted = false ∧ s.group.slot = none ∧ s.group.state = .moving ∧
      s.cars[0]? = some (car 0 1 2 3 1000 false 0) ∧
      [0, 1, 2, 3].map lift = [some 12350, some 12580, some 12490, some 13721] ∧
      1000 < ((12350 + 13721) - (12580 + 12490) : Int).natAbs := by
  unfold StationsSafe RecordSafe
  decide +kernel

/-- Station 3 ENGAGED in `g` with a held load, `misses` missed samples and `light` light cycles counted. -/
def loaded (g : GroupState) (held misses light : Nat) : State :=
  (station 3 .engaged (some 0) (part g)).updJack 3 (fun j =>
    { j with link := { j.link with held := held, miss := misses, lossRun := light } })

theorem witness_DetectionsStopTheGroup_load :
    (∀ s ∈ [loaded .poised 500 3 0, loaded .moving 15001 0 0, loaded .holding 99 0 9], StationsSafe s ∧
      s.pins.resetAsserted = false ∧ s.group.slot = none ∧ (s.jack 3).record.state = .engaged) ∧
    (loaded .poised 500 3 0).group.params.missLimit ≤ ((loaded .poised 500 3 0).jack 3).link.miss ∧
    ((loaded .moving 15001 0 0).jack 3).record.settings.overload < ((loaded .moving 15001 0 0).jack 3).link.held ∧
    ((loaded .holding 99 0 9).jack 3).link.held < ((loaded .holding 99 0 9).jack 3).record.settings.loss ∧
    (loaded .holding 99 0 9).group.params.lossConfirm ≤ min 60 (((loaded .holding 99 0 9).jack 3).link.lossRun + 1) := by
  unfold StationsSafe RecordSafe
  decide +kernel

theorem witness_DetectionsStopTheGroup_coupling :
    let s := count 3 602 twoCars
    let lift (k : Sta) : Option Int := (s.jack k).record.contact.map (fun c => (s.jack k).liveHeight - c)
    StationsSafe s ∧ s.pins.resetAsserted = false ∧ s.group.slot = none ∧ s.group.state = .holding ∧
      s.cars[0]? = some (car 0 1 2 3 1000 true 300) ∧ s.cars[1]? = some (car 4 5 6 7 1000 false 0) ∧
      meanOf [(some 2).bind lift, (some 3).bind lift] = some 151 ∧ meanOf [(some 4).bind lift, (some 5).bind lift] = some 0 ∧
      100 < (151 - 0 : Int).natAbs := by
  unfold StationsSafe RecordSafe
  decide +kernel

/-- A slip gate about to close at a cycle start of HOLDING with a run count one below the limit. -/
theorem witness_DetectionsStopTheGroup_slip :
    let s := (count 3 0 (station 3 .engaged (some 0) (part .holding))).updJack 3 (fun j =>
      { j with mon := { j.mon with gate := some { left := 1, steps := 1001, edges := 0 }, slipRun := 14 } })
    StationsSafe s ∧ s.pins.resetAsserted = false ∧ s.group.slot = none ∧ (s.jack 3).assigned = true ∧
      (s.jack 3).mon.gateOpen = false ∧ (s.jack 3).mon.gate = some { left := 1, steps := 1001, edges := 0 } ∧
      s.group.params.slipTolerance * 1000 * (s.jack 3).record.settings.kStep <
        (1001 * 1000000 - 0 * (s.jack 3).record.settings.encScale * (s.jack 3).record.settings.kStep : Int).natAbs ∧
      s.group.params.slipLimit ≤ min 15 (14 + 1) := by
  unfold StationsSafe RecordSafe
  decide +kernel

/-- Four stations 2,001 µm above a reference of 0. -/
def tripping : State := ([0, 1, 2, 3] : List Sta).foldl (fun s k => count k 4002 s) (engaged .holding [])

theorem witness_DetectionsStopTheGroup_trip :
    StationsSafe tripping ∧ tripping.pins.resetAsserted = false ∧ tripping.group.slot = none ∧ tripping.group.state = .holding ∧
      (tripping.jack 3).record.state = .engaged ∧
      (tripping.jack 3).record.contact.map (fun c => (tripping.jack 3).liveHeight - c) = some 2001 ∧
      (tripping.jack 3).record.pendingOffset.getD (tripping.jack 3).record.settings.offset = 0 ∧
      100 * tripping.group.params.tripBand < (tripping.sync.ref + 100 * (0 - 2001)).natAbs ∧
      (after .cycleStart tripping).group.state = .stopping := by
  unfold StationsSafe RecordSafe
  decide +kernel

/-- The kind is SYNC_TRIP with a gate open or none. -/
theorem witness_DetectionsStopTheGroup_tripAlone :
    ∀ gate ∈ [none, some { left := 5, steps := 3, edges := 0 : SlipGate }],
      let s := tripping.updJack 3 (fun j => { j with
        record := { j.record with settings := { j.record.settings with loss := 0 } }, mon := { j.mon with gate := gate } })
      TrackingKept s.group.params (s.jack 3) ∧ LoadKept s.group.state s.group.params (s.jack 3) ∧
        (after .cycleStart s).group.state ≠ .lockedOut := by
  unfold TrackingKept LoadKept
  decide +kernel

/-- Station 3 at rest, 101 µm from its point of rest, with a runaway count of 4. -/
def sinking : State :=
  (station 3 .idle none (part .prepared)).updJack 3 (fun j =>
    { j with pos := { j.pos with count := 202 }, mon := { j.mon with runaway := 4 } })

theorem witness_DetectionsStopTheGroup_runaway :
    StationsSafe sinking ∧ sinking.pins.resetAsserted = false ∧ sinking.group.slot = none ∧ sinking.group.state ≠ .lockedOut ∧
      (sinking.jack 3).assigned = true ∧ (sinking.jack 3).gen.run = .idle ∧
      sinking.group.params.drift <
        ((sinking.jack 3).liveHeight - heightOf (sinking.jack 3).mon.rest (sinking.jack 3).record.settings.encScale).natAbs ∧
      sinking.group.params.runawayConfirm ≤ min 15 ((sinking.jack 3).mon.runaway + 1) := by
  unfold StationsSafe RecordSafe
  decide +kernel

theorem witness_CycleStartRecordsItsChecks :
    let s := count 3 27442 twoCars
    (s.pins.resetAsserted = false ∧ s.group.slot = none ∧ s.group.state ∈ [GroupState.poised, .moving, .holding, .stopping] ∧
      s.cars[0]? = some (car 0 1 2 3 1000 true 300) ∧ s.cars[1]? = some (car 4 5 6 7 1000 false 0) ∧ s.cars[2]? = none) ∧
    ((part .prepared).pins.resetAsserted = false ∧ (part .prepared).group.slot = none ∧
      (part .prepared).group.state ∉ [GroupState.poised, .moving, .holding, .stopping] ∧
      (part .prepared).group.state ≠ .landing ∧
      ∀ k, ((part .prepared).jack k).record.state ≠ .trimming ∧ ((part .prepared).jack k).record.state ≠ .faulted) := by
  decide +kernel

theorem witness_CycleStartRecordsItsChecks_events :
    let s := count 3 27442 twoCars
    let heavy := s.updJack 3 (fun j => { j with link := { j.link with held := 5600 } })
    (∃ c ∈ s.cars, c.warnRaised = false ∧ c.twistLimit = 1000 ∧ (s.group.params.twistWarn * 1000 < (1001 : Int).natAbs * 100)) ∧
    ((heavy.jack 3).imbalance = false ∧ (heavy.jack 3).link.held = 5600 ∧ heavy.pins.resetAsserted = false ∧
      ∃ c ∈ heavy.cars, [c.fl, c.fr, c.rl, c.rr].filterMap id = [0, 1, 2, 3]) ∧
    (∀ x ∈ [sinking, { sinking with group := { sinking.group with state := .lockedOut } }], x.pins.resetAsserted = false ∧
      x.group.slot = none ∧ (x.jack 3).gen.run = .idle ∧ (x.jack 3).driftsBeyond x.group.params = true) := by
  decide +kernel

/-- Four ENGAGED stations at rest in STOPPING, the stop's rates forced before or not. -/
def stoppingAtRest (forced : Bool) (cause : StopCause) : State :=
  let s := engaged .stopping []
  { s with group := { s.group with ratesForced := forced, cause := cause } }

theorem witness_StoppedFollowsAForcedCycle :
    (∀ s ∈ [tripping, stoppingAtRest false .command, stoppingAtRest true .command,
        stoppingAtRest true (.fault .syncTrip (.station 3))], s.pins.resetAsserted = false ∧ s.group.slot = none) ∧
    tripping.group.state ≠ .stopping ∧ tripping.group.state ≠ .stopped ∧
    (∀ f ∈ [true, false], (stoppingAtRest f .command).group.state = .stopping ∧
      (stoppingAtRest f .command).group.ratesForced = f) ∧
    (∀ k, ((stoppingAtRest true .command).jack k).gen.run = .idle) ∧
    faultStopUnderWay (stoppingAtRest true (.fault .syncTrip (.station 3))) = true ∧
    (stoppingAtRest false .command).group.cause = .command ∧ (stoppingAtRest false .command).sync.speed = 0 ∧
    (after .cycleStart (stoppingAtRest false .command)).group.state ≠ .lockedOut ∧
    (after .cycleStart (stoppingAtRest true (.fault .syncTrip (.station 3)))).group.state ≠ .lockedOut := by
  decide +kernel

/-- Station 3 at its contact threshold with a fresh sample, the confirm target `p`. -/
def touching (st : StationState) (confirm p : Nat) : State :=
  let s := (station 3 st none (part .engaging)).updJack 3 (fun j =>
    { j with link := { j.link with held := 500, fresh := true }, record := { j.record with confirm := confirm, start := some 0 } })
  { s with group := { s.group with params := { s.group.params with confirmTarget := p } } }

theorem witness_ContactNeedsConfirmedSamples_seeking :
    let s := touching .seeking 0 1
    s.pins.resetAsserted = false ∧ s.group.state = .engaging ∧ s.group.slot = none ∧ (s.jack 3).record.state = .seeking ∧
      ((after .cycleStart s).jack 3).record.state = .engaged := by
  decide +kernel

theorem witness_ContactNeedsConfirmedSamples_confirming :
    let s := touching .confirming 4 5
    s.pins.resetAsserted = false ∧ s.group.state = .engaging ∧ s.group.slot = none ∧ (s.jack 3).record.state = .confirming ∧
      ((after .cycleStart s).jack 3).record.state = .engaged := by
  decide +kernel

/-- The state `after` names is the one `exec` answers. -/
theorem witness_ContactNeedsConfirmedSamples_answers (s : State) : exec .cycleStart s = .next (after .cycleStart s) := rfl

/-- What TAKE leaves is a next state. -/
theorem witness_take_answers (s : State) : exec .take s = .next (after .take s) := rfl

/-- Whether the geometry is checked at a state's cycle start, computed. -/
def checksGeometryB (s : State) : Bool :=
  @decide (ChecksGeometry s) (by unfold ChecksGeometry; infer_instance)

/-- Whether the geometry is kept, computed. -/
def geometryKeptB (s : State) : Bool :=
  @decide (GeometryKept s) (by unfold GeometryKept; infer_instance)

/-- Whether a cycle start on `s` finds nothing, computed: its parts are decided one by one. -/
def undetectedB (s : State) : Bool :=
  @decide (∀ k, TrackingKept s.group.params (s.jack k)) (by unfold TrackingKept; infer_instance) &&
  @decide (∀ k, LoadKept s.group.state s.group.params (s.jack k)) (by unfold LoadKept; infer_instance) &&
  (!checksGeometryB s || geometryKeptB s) &&
  decide (s.group.state ∈ [GroupState.poised, .moving, .holding, .stopping] → ∀ k, (s.jack k).record.state = .engaged →
    (errorAt s k).natAbs ≤ 100 * s.group.params.tripBand)

theorem checksGeometry_iff (s : State) : ChecksGeometry s ↔ checksGeometryB s = true := by
  simp only [checksGeometryB, decide_eq_true_eq]

theorem geometryKept_iff (s : State) : GeometryKept s ↔ geometryKeptB s = true := by
  simp only [geometryKeptB, decide_eq_true_eq]

theorem undetected_iff (s : State) : Undetected s ↔ undetectedB s = true := by
  simp only [Undetected, undetectedB, checksGeometryB, geometryKeptB, Bool.and_eq_true, Bool.or_eq_true, Bool.not_eq_true',
    decide_eq_true_eq, decide_eq_false_iff_not, and_assoc, imp_iff_not_or]

theorem witness_ContactNeedsConfirmedSamples_judged :
    (∀ s ∈ [touching .seeking 0 5, touching .seeking 0 1, touching .confirming 3 5, touching .confirming 4 5],
      s.pins.resetAsserted = false ∧ s.group.state = .engaging ∧ s.group.slot = none ∧ s.group.permit = true ∧ Undetected s ∧
      ¬ ChecksGeometry s ∧ (s.jack 3).link.fresh = true ∧ (s.jack 3).record.settings.tContact ≤ (s.jack 3).link.held ∧
      (s.jack 3).record.start = some 0 ∧ (s.jack 3).liveHeight = 0) ∧
    (1 < (touching .seeking 0 5).group.params.confirmTarget ∧ (touching .seeking 0 1).group.params.confirmTarget ≤ 1 ∧
      (∀ k : Sta, k ≠ 3 → ((touching .seeking 0 1).jack k).assigned = false) ∧
      (100 * (((touching .seeking 0 1).jack 3).offsetAtStart - 0)).natAbs ≤ 100 * (touching .seeking 0 1).group.params.tripBand) := by
  simp only [undetected_iff, checksGeometry_iff]
  decide +kernel

/-- Station 3 without contact: too high while SEEKING, or at its last dropout while CONFIRMING. -/
def searching (st : StationState) : State :=
  (count 3 (if st = .seeking then 200002 else 0) (touching st 2 5)).updJack 3 (fun j =>
    { j with link := { j.link with held := 0 }, record := { j.record with attempts := 2 } })

theorem witness_ContactNeedsConfirmedSamples_lost :
    (∀ st ∈ [StationState.seeking, .confirming], (searching st).pins.resetAsserted = false ∧ (searching st).group.state = .engaging ∧
      (searching st).group.slot = none ∧ ((searching st).jack 3).record.state = st ∧ ((searching st).jack 3).link.fresh = true ∧
      ((searching st).jack 3).link.held < ((searching st).jack 3).record.settings.tContact ∧
      ((searching st).jack 3).record.start = some 0) ∧
    ((searching .seeking).group.params.window : Int) < ((searching .seeking).jack 3).liveHeight - 0 ∧
    (searching .confirming).group.params.attemptLimit ≤ ((searching .confirming).jack 3).record.attempts + 1 := by
  decide +kernel

/-- Stations 3 and 5 too high without contact, station 2 on its pad with a confirm target of 1. -/
def searchers : State :=
  let s := (count 5 200002 (station 5 .seeking none (station 2 .seeking none (searching .seeking)))).updJack 5 (fun j =>
    { j with link := { j.link with fresh := true }, record := { j.record with start := some 0 } })
  let t := s.updJack 2 (fun j => { j with link := { j.link with held := 500, fresh := true }, record := { j.record with start := some 0 } })
  { t with group := { t.group with params := { t.group.params with confirmTarget := 1 } } }

theorem witness_ContactNeedsConfirmedSamples_lowest :
    searchers.pins.resetAsserted = false ∧ searchers.group.state = .engaging ∧ searchers.group.slot = none ∧
      searchers.group.permit = true ∧ Undetected searchers ∧ ¬ ChecksGeometry searchers ∧
      (∀ k ∈ ([3, 5] : List Sta), (searchers.jack k).record.state = .seeking ∧ (searchers.jack k).record.start = some 0 ∧
        (searchers.jack k).link.held < (searchers.jack k).record.settings.tContact ∧
        (searchers.group.params.window : Int) < (searchers.jack k).liveHeight - 0) ∧
      (∀ i : Sta, i < 3 → i ≠ 2 → (searchers.jack i).assigned = false) ∧ (searchers.jack 2).link.fresh = true ∧
      (searchers.jack 2).record.settings.tContact ≤ (searchers.jack 2).link.held ∧
      (searchers.sync.ref + 100 * ((searchers.jack 2).offsetAtStart - 0)).natAbs ≤ 100 * searchers.group.params.tripBand := by
  simp only [undetected_iff, checksGeometry_iff]
  decide +kernel

/-- Station 3 engages with an offset waiting that lies beyond the trip band. -/
def farOffset : State := (touching .seeking 0 1).updRec 3 (fun r => { r with pendingOffset := some 2001 })

theorem witness_ContactNeedsConfirmedSamples_tripped :
    farOffset.pins.resetAsserted = false ∧ farOffset.group.state = .engaging ∧ farOffset.group.slot = none ∧
      farOffset.group.permit = true ∧ Undetected farOffset ∧ ¬ ChecksGeometry farOffset ∧
      (∀ k : Sta, k ≠ 3 → (farOffset.jack k).assigned = false) ∧ (farOffset.jack 3).link.fresh = true ∧
      (farOffset.jack 3).record.settings.tContact ≤ (farOffset.jack 3).link.held ∧ farOffset.group.params.confirmTarget ≤ 1 ∧
      100 * farOffset.group.params.tripBand < (0 + 100 * ((farOffset.jack 3).offsetAtStart - 0)).natAbs := by
  simp only [undetected_iff, checksGeometry_iff]
  decide +kernel

/-- The pending bank QUEUED with `kind`. -/
def queued (g : GroupState) (kind : CommitKind) (active pending : List Segment) : State :=
  { part g with plan := { Plan.reset with bankA := active, bankB := pending, commit := some kind } }

theorem witness_TakeExchangesTheBanks_nothing :
    Acting (part .holding) ∧ (part .holding).plan.commit = none ∧ Acting (queued .holding .append [move 5] [move 9]) ∧
      (queued .holding .append [move 5] [move 9]).plan.commit = some .append ∧
      (queued .holding .append [move 5] [move 9]).sync.planPos < [move 5].length := by
  unfold Acting
  decide +kernel

theorem witness_TakeExchangesTheBanks_taken :
    let r := queued .holding .replace [move 5] [move 9]
    let a := queued .holding .append [] [move 9]
    Acting r ∧ r.plan.commit = some .replace ∧ RoomFor 1 r ∧ r.group.state ≠ .moving ∧
      Acting a ∧ a.plan.commit = some .append ∧ RoomFor 1 a ∧ a.plan.activeBank.length ≤ a.sync.planPos := by
  unfold Acting RoomFor
  decide +kernel

theorem witness_TakeExchangesTheBanks_moving :
    let s := { queued .moving .replace [move 5] [move 9, move 7] with sync := { Sync.reset with speed := 1, dir := .up } }
    Acting s ∧ s.plan.commit = some .replace ∧ RoomFor 1 s ∧ s.group.state = .moving ∧
      s.plan.pendingBank = move 9 :: move 7 :: [] ∧ (move 9).kind = .move ∧ 0 < s.sync.speed := by
  unfold Acting RoomFor
  decide +kernel

/-- A REPLACE in MOVING: at speed 0, into a DWELL, and into a plan of one segment with and without PLAN_LOW. -/
theorem witness_TakeExchangesTheBanks_starts :
    let at0 (m : RunMode) (l : List Segment) : State :=
      let s := queued .moving .replace [move 5] l
      { s with plan := { s.plan with mode := m } }
    (∀ m ∈ [RunMode.single, .chained], ∀ l ∈ [[move 9, move 7], [dwell 3, move 7], [dwell 3], [move 9]],
      Acting (at0 m l) ∧ (at0 m l).plan.commit = some .replace ∧ RoomFor 2 (at0 m l) ∧ RoomFor 1 (at0 m l) ∧
        (at0 m l).group.state = .moving ∧ (at0 m l).plan.pendingBank = l ∧ (at0 m l).plan.mode = m ∧
        (at0 m l).sync.speed = 0) := by
  unfold Acting RoomFor
  decide +kernel

/-- Station 4 in `g` with a gate of these tallies about to close. -/
def closing (steps edges : Int) (g : GroupState := .stopped) : State :=
  (station 4 .engaged (some 0) (part g)).updJack 4 (fun j =>
    { j with mon := { j.mon with gate := some { left := 1, steps := steps, edges := edges }, slipRun := 1 } })

theorem witness_SlipGateIsJudgedAtItsClose :
    (∀ s ∈ [closing 0 0, closing 1000 0, closing 1001 0], Acting s ∧ BrakesSafe s ∧ (s.jack 4).assigned = true ∧
      (s.jack 4).mon.gateOpen = false) ∧
    ((closing 0 0).jack 4).mon.gate = some { left := 1, steps := 0, edges := 0 } ∧
    (((closing 1000 0).jack 4).mon.gate = some { left := 1, steps := 1000, edges := 0 } ∧
      (1000 * 1000000 - 0 * 500 * 2000 : Int).natAbs ≤ 500 * 1000 * 2000) ∧
    (((closing 1001 0).jack 4).mon.gate = some { left := 1, steps := 1001, edges := 0 } ∧
      500 * 1000 * 2000 < (1001 * 1000000 - 0 * 500 * 2000 : Int).natAbs ∧ ((closing 1001 0).jack 4).mon.slipRun + 1 < 3 ∧
      (closing 1001 0).group.params.slipLimit = 3 ∧ RoomFor 1 (closing 1001 0)) := by
  unfold Acting RoomFor BrakesSafe BrakeSafe
  decide +kernel

theorem witness_SlipGateIsJudgedAtItsClose_driveSlip :
    let s := settleBrakes ((closing 1001 0 .moving).updJack 4 (fun j => { j with mon := { j.mon with slipRun := 2 } }))
    Acting s ∧ BrakesSafe s ∧ (s.jack 4).assigned = true ∧ (s.jack 4).mon.gateOpen = false ∧
      (s.jack 4).mon.gate = some { left := 1, steps := 1001, edges := 0 } ∧
      500 * 1000 * 2000 < (1001 * 1000000 - 0 * 500 * 2000 : Int).natAbs ∧
      s.group.params.slipLimit ≤ min 15 ((s.jack 4).mon.slipRun + 1) ∧ s.group.state = .moving := by
  unfold Acting BrakesSafe BrakeSafe
  decide +kernel

theorem witness_WaitTimeoutBeginsAFaultStop :
    Acting aboutToTimeOut ∧ aboutToTimeOut.group.state = .moving ∧ aboutToTimeOut.plan.segMode.isSome = true ∧
      (∃ g ∈ aboutToTimeOut.segment, g.kind = .move) ∧ aboutToTimeOut.sync.dir = .up ∧
      aboutToTimeOut.group.params.waitLimit ≤ aboutToTimeOut.group.waitCount + 1 ∧ (aboutToTimeOut.jack 0).record.state = .engaged ∧
      100 * (aboutToTimeOut.group.params.holdBand : Int) < 1 * (aboutToTimeOut.jack 0).err ∧
      Acting (part .moving) ∧ (part .moving).plan.segMode = none := by
  unfold Acting
  decide +kernel

/-- Four ENGAGED stations at height 0, the reference of a chained plan somewhere. -/
def follows (g : GroupState) (l : List Segment) (ref : Int) (speed : Nat) (d : RefDir) : State :=
  let s := engaged g l
  { s with
    group := { s.group with cause := if g = .stopping then .command else .none }
    plan := { s.plan with segMode := some .chained }
    sync := { s.sync with ref := ref, speed := speed, dir := d, descent := decide (g = .landing) } }

/-- A cycle start that finds nothing: what the statements about its computation ask of a state. -/
def quiet (s : State) : Prop :=
  s.pins.resetAsserted = false ∧ s.group.slot = none ∧ s.group.permit = true ∧ Undetected s ∧ 0 ≤ s.sync.ref ∧
    s.sync.ref ≤ 100 * (s.group.params.lMax : Int)

/-- Twists and couplings are checked in the descent, and in STOPPED while a station trims. -/
theorem witness_DetectionsStopTheGroup_checked :
    let s := follows .landing [] 20000 0 .down
    let t := station 0 .trimming (some 0) (engaged .stopped [])
    (∀ u ∈ [count 3 2004 s, count 3 2004 t], StationsSafe u ∧ u.pins.resetAsserted = false ∧ u.group.slot = none ∧ ChecksGeometry u ∧
      u.group.state ≠ .engaging ∧ (u.group.state = .landing → u.sync.descent = true) ∧
      u.cars[0]? = some (car 0 1 2 3 1000 false 0) ∧
      ([0, 1, 2, 3] : List Sta).map (fun k => (u.jack k).record.contact.map (fun c => (u.jack k).liveHeight - c)) =
        [some 0, some 0, some 0, some 1002]) ∧
    1000 < ((0 + 1002) - (0 + 0) : Int).natAbs := by
  simp only [checksGeometry_iff]
  unfold StationsSafe RecordSafe
  decide +kernel

theorem witness_WaitTimeoutBeginsAFaultStop_cycleStart :
    ∀ g ∈ [GroupState.moving, .stopping], ∀ n ∈ [2998, 2999],
      let s := { follows g [move 500] 20001 200 .up with group := { (follows g [move 500] 20001 200 .up).group with waitCount := n } }
      quiet s ∧ after .take s = s ∧ s.plan.segMode.isSome = true ∧ s.segment = some (move 500) ∧ s.group.ratesForced = false ∧
        (g = .stopping → s.group.cause = .command) ∧ (s.jack 3).record.state = .engaged ∧
        100 * (s.group.params.holdBand : Int) < 1 * errorAt s 3 ∧ s.group.params.waitLimit = 3000 := by
  simp only [quiet, undetected_iff]
  decide +kernel

theorem witness_DwellCompletesIntoTheNextSegment :
    let append (s : State) (l : List Segment) : State := { s with plan := { s.plan with bankB := l, commit := some .append } }
    (∀ u ∈ [lastDwell [dwell 7, move 500, move 0], lastDwell [dwell 7], lastDwell [dwell 7, dwell 3],
        append (lastDwell [dwell 7]) [move 500], append (lastDwell [dwell 7]) [dwell 2, move 0]],
      Acting u ∧ BrakesSafe u ∧ u.group.state = .moving ∧ u.plan.segMode = some .chained ∧ u.segment = some (dwell 7) ∧
      u.sync.dwell = some 1 ∧ u.sync.speed = 0 ∧ u.plan.mode = .chained ∧ RoomFor 3 u) ∧
    (lastDwell [dwell 7, dwell 3]).plan.activeBank[1]? = some (dwell 3) ∧ (dwell 7).stopAfter = false ∧
    (append (lastDwell [dwell 7]) [move 500]).plan.pendingBank = [move 500] := by
  unfold Acting RoomFor BrakesSafe BrakeSafe
  decide +kernel

theorem witness_DwellCompletesIntoTheNextSegment_stopAfter :
    let rest : Segment := { dwell 7 with stopAfter := true }
    (rest.kind = .dwell ∧ rest.stopAfter = true) ∧
    ∀ u ∈ [lastDwell [rest, move 500],
        { lastDwell [rest] with plan := { (lastDwell [rest]).plan with bankB := [move 500], commit := some .append } }],
      Acting u ∧ BrakesSafe u ∧ u.group.state = .moving ∧ u.plan.segMode = some .chained ∧ u.segment = some rest ∧
      u.sync.dwell = some 1 ∧ u.sync.speed = 0 ∧ RoomFor 3 u := by
  unfold Acting RoomFor BrakesSafe BrakeSafe
  decide +kernel

/-- The bytes of an answer with a good CRC-8. -/
def goodAnswer (a e st : Byte) (load : Half) : List Byte :=
  [a, e] ++ bytes2 load ++ [st, crc8 ([a, e] ++ bytes2 load ++ [st])]

/-- Those bytes without framing faults. -/
def received (l : List Byte) : List LinkByte := l.map (fun b => { byte := b, framingFault := false })

theorem witness_SlotsRecordTheirAnswers_bytes :
    let s := after .cycleStart (part .holding)
    let t := after .beaconEnd s
    Acting s ∧ s.link.lde = true ∧ Acting t ∧ t.link.lde = false ∧ t.link.started = true ∧ (t.jack 0).link.slotOpen = true ∧
      RoomFor 1 t := by
  unfold Acting RoomFor
  decide +kernel

theorem witness_SlotsRecordTheirAnswers_assigned :
    (∀ s ∈ [slotFive [], slotFive (goodAnswer 5 42 0 4200), slotFive (goodAnswer 5 42 1 0), slotFive (goodAnswer 5 42 2 0),
      slotFive (goodAnswer 5 41 0 4200), slotFive (goodAnswer 6 42 0 4200)],
      Acting s ∧ (s.jack 5).link.slotOpen = true ∧ (s.jack 5).assigned = true ∧ s.group.cycle = 42 ∧ RoomFor 1 s) ∧
    ((slotFive []).jack 5).link.bytes = [] ∧
    ((slotFive (goodAnswer 5 42 0 4200)).jack 5).link.bytes = received (goodAnswer (byteOf 5) 42 0x00 4200) ∧
    ((slotFive (goodAnswer 5 42 1 0)).jack 5).link.bytes = received (goodAnswer (byteOf 5) 42 0x01 0) ∧
    ((slotFive (goodAnswer 5 42 2 0)).jack 5).link.bytes = received (goodAnswer (byteOf 5) 42 0x02 0) ∧
    ((41 : Byte) ≠ 42 ∧ ((slotFive (goodAnswer 5 41 0 4200)).jack 5).link.bytes = received (goodAnswer (byteOf 5) 41 0 4200)) ∧
    ((6 : Byte) ≠ byteOf 5 ∧ ((slotFive (goodAnswer 6 42 0 4200)).jack 5).link.bytes = received (goodAnswer 6 42 0 4200)) := by
  unfold Acting RoomFor
  decide +kernel

theorem witness_SlotsRecordTheirAnswers_garbled :
    (∀ l ∈ [goodAnswer 5 42 3 4200, [5, 42, 16], (goodAnswer 5 42 0 4200).set 5 0],
      Acting (slotFive l) ∧ ((slotFive l).jack 5).link.slotOpen = true ∧ ((slotFive l).jack 5).assigned = true ∧
      ((slotFive l).jack 5).link.bytes = received l) ∧
    goodAnswer 5 42 3 4200 = goodAnswer (byteOf 5) 42 3 4200 ∧ 2 < (3 : Byte).toNat ∧ [5, 42, 16].length ≠ 6 ∧
    (((goodAnswer 5 42 0 4200).set 5 0).length = 6 ∧
      ((goodAnswer 5 42 0 4200).set 5 0)[5]? ≠ some (crc8 (((goodAnswer 5 42 0 4200).set 5 0).take 5))) := by
  unfold Acting
  decide +kernel

/-- The open slot of station 5, unassigned, with these bytes. -/
def unassignedFive (l : List Byte) : State := station 5 .unassigned none (slotFive l)

theorem witness_SlotsRecordTheirAnswers_unassigned :
    (∀ l ∈ [[], [5], goodAnswer 9 42 0 4200], Acting (unassignedFive l) ∧ ((unassignedFive l).jack 5).link.slotOpen = true ∧
      ((unassignedFive l).jack 5).assigned = false ∧ ((unassignedFive l).jack 5).link.bytes = received l ∧
      RoomFor 1 (unassignedFive l)) ∧
    (goodAnswer 9 42 0 4200).length = 6 ∧ (goodAnswer 9 42 0 4200)[5]? = some (crc8 ((goodAnswer 9 42 0 4200).take 5)) := by
  unfold Acting RoomFor
  decide +kernel

/-- Station 3 of the car of section 7.7 with a pending value. -/
def handed (v : Option PendingValue) : State := oneCycle.updGen 3 (fun g => { g with pending := v })

theorem witness_RateCompletionActsOnThePendingValue :
    let d : Divisor := { n := 108, m := 22 }
    let values : List (Option PendingValue) := [none, some (.rate d .up), some (.move d .down 5), some .stop]
    (∀ v ∈ values, Acting (handed v) ∧ BrakesSafe (handed v) ∧ (handed v).group.permit = true ∧
      (handed v).group.state ≠ .lockedOut ∧ ((handed v).jack 3).gen.run = .rate ∧ ((handed v).jack 3).gen.pending = v) ∧
    ((handed (some .stop)).jack 3).record.move = none ∧ ((handed (some .stop)).jack 3).record.state ≠ .releasing ∧
    ((after (.periodCompletion 3) oneCycle).jack 3).gen.stepHigh = true ∧ (oneCycle.jack 3).gen.stepHigh = false := by
  unfold Acting BrakesSafe BrakeSafe
  decide +kernel

/-- A TRIM that waited in RATE and was ended in the stop form. -/
theorem witness_RateCompletionActsOnThePendingValue_ended :
    let s := settleBrakes ((handed (some .stop)).updRec 3 (fun r => { r with
      state := .trimming, move := some { op := .trim, underFault := false, done := true } }))
    Acting s ∧ BrakesSafe s ∧ s.group.permit = true ∧ s.group.state ≠ .lockedOut ∧ (s.jack 3).gen.run = .rate ∧
      (s.jack 3).gen.pending = some .stop ∧ (s.jack 3).record.state = .trimming ∧
      (s.jack 3).record.move = some { op := .trim, underFault := false, done := true } := by
  unfold Acting BrakesSafe BrakeSafe
  decide +kernel

/-- Station 4 in an operation's counted move, `n` steps remaining. -/
def moving (op : Operation) (n : Nat) : State :=
  (station 4 (operatingState op) (if op = .trim then some 0 else none) (part (if op = .trim then .stopped else .prepared))).updJack 4
    (fun j => { j with
      record := { j.record with move := some { op := op, underFault := false, done := false } }
      gen := { j.gen with run := .counted, divisor := some { n := 125, m := 0 }, remaining := n, brake := .released } })

theorem witness_CountedMoveCompletesAtItsLastStep :
    (∀ op ∈ [Operation.home, .jog, .trim], ∀ n ∈ [1, 2], Acting (moving op n) ∧ BrakesSafe (moving op n) ∧
      (moving op n).group.permit = true ∧ (moving op n).group.state ≠ .lockedOut ∧ ((moving op n).jack 4).gen.run = .counted ∧
      ((moving op n).jack 4).gen.pending = none ∧
      ((moving op n).jack 4).record.move = some { op := op, underFault := false, done := false } ∧
      ((moving op n).jack 4).record.state = operatingState op ∧ RoomFor 1 (moving op n) ∧ ((moving op n).jack 4).gen.remaining = n) ∧
    1 < 2 := by
  unfold Acting RoomFor BrakesSafe BrakeSafe
  decide +kernel

/-- The last period of a move that has ended in the stop form, and a move of a FAULTED station. -/
theorem witness_CountedMoveCompletesAtItsLastStep_ended :
    let mover (st : StationState) (underFault done : Bool) : State :=
      settleBrakes ((moving .jog 0).updRec 4 (fun r => { r with
        state := st, move := some { op := .jog, underFault := underFault, done := done } }))
    ∀ s ∈ [mover .jogging false true, mover .faulted true true, mover .faulted true false, mover .faulted false true],
      Acting s ∧ BrakesSafe s ∧ s.group.permit = true ∧ s.group.state ≠ .lockedOut ∧ (s.jack 4).gen.run = .counted ∧
        (s.jack 4).gen.remaining ≤ 1 ∧ (s.jack 4).gen.pending = none ∧ (s.jack 4).record.move.isSome = true ∧
        (s.jack 4).record.state ∈ [.homing, .jogging, .trimming, .faulted] ∧ RoomFor 1 s := by
  unfold Acting RoomFor BrakesSafe BrakeSafe
  decide +kernel

/-- R195: the last period of a JOG ended before leaves JOGGING without a second STATION_DONE, and a FAULTED station stays FAULTED. -/
theorem test_last_period_of_an_ended_move :
    let ended (st : StationState) : State := (moving .jog 0).updRec 4 (fun r => { r with
      state := st, move := some { op := .jog, underFault := st == .faulted, done := true } })
    ∀ st ∈ [StationState.jogging, .faulted],
      let t := after (.periodCompletion 4) (ended st)
      (t.jack 4).record.state = (if st = .faulted then .faulted else .idle) ∧ t.line.queue = [] := by
  decide +kernel

/-- Station 4 in the clearance move that lands the group. -/
def lastRelease : State :=
  (station 4 .releasing (some 0) (station 5 .idle none (part .landing))).updJack 4 (fun j =>
    { j with record := { j.record with confirm := 5 }, gen := { j.gen with
        run := .counted, divisor := some { n := 125, m := 0 }, remaining := 1, brake := .released } })

theorem witness_LastReleaseLandsTheGroup :
    let s := lastRelease
    Acting s ∧ s.group.permit = true ∧ s.group.state = .landing ∧ (s.jack 4).gen.run = .counted ∧ (s.jack 4).gen.remaining ≤ 1 ∧
      (s.jack 4).gen.pending = none ∧ (s.jack 4).record.state = .releasing ∧
      s.group.params.confirmTarget ≤ (s.jack 4).record.confirm ∧
      (∀ i : Sta, i ≠ 4 → (s.jack i).record.state = .idle ∨ (s.jack i).record.state = .unassigned) := by
  unfold Acting
  decide +kernel

/-- Station 4 in its clearance move, station 5 still on its pad. -/
theorem witness_LastReleaseLandsTheGroup_more :
    let s := settleBrakes (station 5 .releasing (some 0) lastRelease)
    Acting s ∧ BrakesSafe s ∧ s.group.permit = true ∧ s.group.state = .landing ∧ (s.jack 4).gen.run = .counted ∧ (s.jack 4).gen.remaining ≤ 1 ∧
      (s.jack 4).gen.pending = none ∧ (s.jack 4).record.state = .releasing ∧ (s.jack 4).record.contact = some 0 ∧
      s.group.params.confirmTarget ≤ (s.jack 4).record.confirm ∧ (s.jack 5).record.state = .releasing := by
  unfold Acting BrakesSafe BrakeSafe
  decide +kernel

/-- Station 4 RELEASING from `start` after the descent, with a fresh sample of nothing held or without one. -/
def lowering (start : Int) (confirm : Nat) (fresh : Bool) (kStep : Nat) : State :=
  (station 4 .releasing (some 0) (station 5 .engaged (some 0) (part .landing))).updJack 4 (fun j =>
    { j with
      record := { j.record with start := some start, confirm := confirm, settings := { j.record.settings with kStep := kStep } }
      link := { j.link with fresh := fresh } })

theorem witness_LastReleaseLandsTheGroup_judged :
    (∀ s ∈ [lowering 0 0 true 2000, lowering 0 4 true 2000, lowering 100000 4 false 2000, lowering 0 5 true 2000],
      s.pins.resetAsserted = false ∧ s.group.state = .landing ∧ s.sync.descent = false ∧ s.group.slot = none ∧
      s.group.permit = true ∧ Undetected s ∧ ¬ ChecksGeometry s ∧ (s.jack 4).record.state = .releasing ∧
      s.group.params.confirmTarget = 5 ∧ (s.jack 4).link.held < (s.jack 4).record.settings.tRelease ∧
      (s.jack 5).record.state = .engaged ∧ (s.jack 4).liveHeight = 0) ∧
    (100000 - 0 : Int) ≤ (lowering 100000 4 false 2000).group.params.window ∧
    0 < (2 * ((lowering 0 4 true 2000).group.params.clearance * 2000) + 1000) / 2000 := by
  simp only [undetected_iff, checksGeometry_iff]
  decide +kernel

/-- The last station about to be released by a clearance move of 0 steps. -/
def lowered : State :=
  let s := station 5 .idle none (lowering 0 4 true 100)
  { s with group := { s.group with params := { s.group.params with clearance := 1 } } }

theorem witness_LastReleaseLandsTheGroup_landed :
    lowered.pins.resetAsserted = false ∧ lowered.group.state = .landing ∧ lowered.sync.descent = false ∧ lowered.group.slot = none ∧
      lowered.group.permit = true ∧ Undetected lowered ∧ ¬ ChecksGeometry lowered ∧
      (2 * (lowered.group.params.clearance * (lowered.jack 4).record.settings.kStep) + 1000) / 2000 = 0 ∧
      (lowered.jack 4).link.fresh = true ∧ lowered.group.params.confirmTarget ≤ (lowered.jack 4).record.confirm + 1 ∧
      (∀ k : Sta, k ≠ 4 → (lowered.jack k).assigned = true → (lowered.jack k).record.state = .idle) := by
  simp only [undetected_iff, checksGeometry_iff]
  decide +kernel

theorem witness_LastReleaseLandsTheGroup_lost :
    let s := lowering 100001 4 false 2000
    s.pins.resetAsserted = false ∧ s.group.state = .landing ∧ s.sync.descent = false ∧ s.group.slot = none ∧
      (s.jack 4).record.state = .releasing ∧ (s.jack 4).record.confirm < s.group.params.confirmTarget ∧
      (s.jack 4).link.fresh = false ∧ (s.jack 4).record.start = some 100001 ∧
      (s.group.params.window : Int) < 100001 - (s.jack 4).liveHeight := by
  decide +kernel

/-- Stations 4 and 5 lowered beyond the window, station 2 still on its pad. -/
def sunk : State :=
  (station 5 .releasing (some 0) (station 2 .engaged (some 0) (lowering 100001 4 false 2000))).updRec 5 (fun r =>
    { r with start := some 100001 })

theorem witness_LastReleaseLandsTheGroup_lowest :
    sunk.pins.resetAsserted = false ∧ sunk.group.state = .landing ∧ sunk.sync.descent = false ∧ sunk.group.slot = none ∧
      sunk.group.permit = true ∧ Undetected sunk ∧ ¬ ChecksGeometry sunk ∧
      (∀ k ∈ ([4, 5] : List Sta), (sunk.jack k).record.state = .releasing ∧ (sunk.jack k).link.fresh = false ∧
        (sunk.jack k).record.confirm < sunk.group.params.confirmTarget ∧ (sunk.jack k).record.start = some 100001 ∧
        (sunk.group.params.window : Int) < 100001 - (sunk.jack k).liveHeight) ∧
      (∀ i : Sta, i < 4 → (sunk.jack i).record.state ≠ .releasing) ∧
      (∀ i : Sta, i ≠ 4 → ∀ c ∈ (sunk.jack i).record.contact,
        (sunk.sync.ref + 100 * ((sunk.jack i).offsetAtStart - ((sunk.jack i).liveHeight - c))).natAbs ≤
          100 * sunk.group.params.tripBand) := by
  simp only [undetected_iff, checksGeometry_iff]
  decide +kernel

theorem witness_EncoderAndHomeInputsMoveTheCount :
    let s := moving .home 5
    Acting s ∧ (s.jack 4).homeLow = false ∧ (s.jack 4).record.state = .homing ∧ (s.jack 4).gen.run = .counted ∧ RoomFor 1 s ∧
      (s.jack 4).record.move = some { op := .home, underFault := false, done := false } ∧
      Acting (part .setup) ∧ ((part .setup).jack 4).homeLow = false ∧ ((part .setup).jack 4).record.state ≠ .homing := by
  unfold Acting RoomFor
  decide +kernel

theorem witness_PermitFallStopsEverything :
    (∀ s ∈ [oneCycle, moving .home 5, moving .jog 5, moving .trim 5, touching .seeking 0 5, touching .confirming 4 5, lastRelease],
      s.pins.resetAsserted = false ∧ s.pins.permit = true ∧ RoomFor 1 s) ∧
    (oneCycle.jack 3).gen.running = true ∧
    ((moving .home 5).jack 4).record.move.isSome = true ∧ ((moving .home 5).jack 4).record.state = .homing ∧
    ((moving .jog 5).jack 4).record.move.isSome = true ∧ ((moving .jog 5).jack 4).record.state = .jogging ∧
    ((moving .trim 5).jack 4).record.move.isSome = true ∧ ((moving .trim 5).jack 4).record.state = .trimming ∧
    ((touching .seeking 0 5).jack 3).record.state = .seeking ∧ ((touching .confirming 4 5).jack 3).record.state = .confirming ∧
    (lastRelease.jack 4).record.state = .releasing := by
  unfold RoomFor
  decide +kernel

theorem witness_PermitRiseRebases :
    settled.pins.resetAsserted = false ∧ settled.pins.permit = false ∧ RoomFor 1 settled ∧
      0 < rebasedReference false settled ∧ rebasedReference false settled < 100 * (settled.group.params.lMax : Int) ∧
      (∀ k, ((part .prepared).jack k).record.contact = none) ∧
      brakeCalled .moving (oneCycle.jack 3) = .released ∧ brakeCalled .stopped (settled.jack 3) = .applied ∧
      (settled.jack 3).gen.run = .idle := by
  unfold RoomFor
  decide +kernel

/-- The part with its assembler in a state. -/
def assembling (a : Assembler) : State := { cold with line := { cold.line with asm := a } }

theorem witness_AssemblerFollowsItsTable :
    cold.pins.resetAsserted = false ∧ cold.line.asm = .hunting ∧ (assembling (.length none)).line.asm = .length none ∧
      (assembling (.length none)).line.asm ≠ .hunting ∧ (assembling (.length (some 1))).line.asm = .length (some 1) ∧
      (2 ≤ 256 * (1 : Byte).toNat + (0x92 : Byte).toNat ∧ 256 * (1 : Byte).toNat + (0x92 : Byte).toNat ≤ 402) ∧
      (assembling (.collecting 3 [1, 2, 3])).line.asm = .collecting 3 [1, 2, 3] ∧ [1, 2, 3].length + 1 < (3 : Half).toNat + 2 := by
  decide +kernel

theorem witness_FramesAreJudgedAtTheirEnd :
    (List.replicate 400 (0 : Byte)).length ≤ 400 ∧ cold.pins.resetAsserted = false ∧ cold.line.asm = .hunting ∧
      cold.line.queue.length < 7 ∧ bodyLength 0x7E = none ∧ bodyLength 0x01 = some 1 ∧ [0x01].length = 1 ∧ [0x01, 0x02].length ≠ 1 ∧
      7 ≤ (full cold).line.queue.length := by
  decide +kernel

theorem witness_RequestRowIsItsFrame :
    requestRow (.status 0x2C 0x01) = some (0x2C, .status 0x01) ∧ (Instr.status 0x2C 0x01).wellFormed = true ∧
      requestRow (.groupSet 1 4 (List.replicate 26 200)) = some (1, .groupSet 4 (List.replicate 26 200)) ∧
      (Instr.groupSet 1 4 (List.replicate 26 200)).wellFormed = true ∧ cold.pins.resetAsserted = false ∧
      cold.line.asm = .hunting := by
  decide +kernel

/-- A notice's record held back. -/
def heldBack : PendingEvent := { raised := { event := .stray 32 none, cycle := 41 }, more := true }

theorem witness_TransmitCompletionFreesItsPlace :
    let s := after (.status 1 0) cold
    let t := { s with line := { s.line with pending := [heldBack] } }
    let u := after (.restart 1) cold
    Ready cold ∧ s.pins.resetAsserted = false ∧ s.line.queue.map (fun f => f.cls) = [.reply] ∧ s.line.pending = [] ∧
      t.line.pending = [heldBack] ∧ t.line.mask = 0 ∧ t.line.queue.length = 1 ∧
      u.pins.resetAsserted = false ∧ u.line.queue.map (fun f => f.cls) = [.restartReply] := by
  unfold Ready
  decide +kernel

/-- Three records held back in order of priority, the second of a masked kind. -/
def threeHeld (q : List Machine.Frame) : State :=
  let s := part .moving
  { s with line := { s.line with
    queue := q, mask := 0x0010
    pending := [{ raised := { event := .groupStop .syncTrip (.station 3), cycle := 37 }, more := false },
      { raised := { event := .state .moving .stopping, cycle := 37 }, more := false }, heldBack] } }

theorem witness_TransmitCompletionFreesItsPlace_several :
    let f : Machine.Frame := { cls := .reply, kind := 0x81, tag := 0, body := [] }
    ∀ n ∈ [0, 3, 4, 7], (threeHeld (f :: List.replicate n f)).pins.resetAsserted = false ∧ f.cls ≠ .restartReply ∧
      PendingSafe (threeHeld (f :: List.replicate n f)) := by
  unfold PendingSafe
  decide +kernel

theorem witness_MaskAndStreamAreSet_pending :
    let f : Machine.Frame := { cls := .reply, kind := 0x81, tag := 0, body := [] }
    (∀ n ∈ [0, 6], Ready (threeHeld (List.replicate n f)) ∧ PendingSafe (threeHeld (List.replicate n f))) ∧
    (∀ n ∈ [0, 5], Acting (threeHeld (List.replicate n f))) ∧
    ((Event.stray 32 none).priority = (heldBack.raised.event).priority ∧ heldBack ∈ (threeHeld []).line.pending) ∧
    (∀ p ∈ (threeHeld []).line.pending, p.raised.event.priority ≠ (Event.permit true false).priority) ∧
    ((cold.link.lde = false ∧ (after .beaconEnd (after .cycleStart cold)).link.lde = false) ∧
      (after .beaconEnd (after .cycleStart cold)).link.started = true ∧ Acting (after .beaconEnd (after .cycleStart cold))) := by
  unfold Acting Ready PendingSafe
  decide +kernel

/-- R183: a completion admits the unmasked record of highest priority first, and a masked one stays. -/
theorem test_moves_by_priority_around_the_mask :
    let f : Machine.Frame := { cls := .reply, kind := 0x81, tag := 0, body := [] }
    let t := after (.transmitCompletion true true) (threeHeld (f :: List.replicate 4 f))
    (t.line.queue.map (fun x => x.body.drop 2 |>.take 1)).drop 4 = [[0x03]] ∧
      t.line.pending.map (fun p => p.raised.event.priority) = [5, 14] := by
  decide +kernel

theorem witness_ReadingRequestsReport :
    Ready cold ∧ (2 : Byte) ≠ 0 ∧ (2 : Byte) ≠ 1 ∧ 32 ≤ (32 : Byte).toNat ∧ 1 ≤ (1 : Byte).toNat ∧ (8 : Byte).toNat ≤ 8 ∧ 8 < (9 : Byte).toNat ∧
      (1 : Byte).toNat < 2 ∧ (15 : Byte).toNat < 16 ∧ 2 ≤ (2 : Byte).toNat ∧ 16 ≤ (16 : Byte).toNat := by
  unfold Ready
  decide +kernel

theorem witness_FaultsReadListsTheFaults : Ready (after .waitTimeout aboutToTimeOut) := by
  unfold Ready
  decide +kernel

theorem witness_StationSetWritesMarkedSettings :
    let m : Half := 0x03FF
    let v := { goodSettings with kStep := 100, rMax := 20000, overload := 65534, offset := -50000 }
    let w := { goodSettings with kStep := 99 }
    Ready (part .setup) ∧ (part .setup).group.state = .setup ∧ 32 ≤ (32 : Byte).toNat ∧
      (Ready (part .prepared) ∧ (part .prepared).group.state ≠ .setup) ∧
      (Ready homing ∧ homing.group.state = .setup ∧ (homing.jack 9).record.state = .homing) ∧
      ((part .setup).jack 4).record.state ≠ .homing ∧ ((part .setup).jack 4).record.state ≠ .jogging ∧
      ((m[0] = true → 100 ≤ v.kStep.toNat ∧ v.kStep.toNat ≤ 20000) ∧ (m[1] = true → 50 ≤ v.encScale.toNat ∧ v.encScale.toNat ≤ 20000) ∧
        (m[2] = true → 1 ≤ v.rMax.toNat ∧ v.rMax.toNat ≤ 20000) ∧ (m[3] = true → 1 ≤ v.hMax.toNat ∧ v.hMax.toNat ≤ 2500000) ∧
        (m[4] = true → 1 ≤ v.tContact.toNat) ∧ (m[5] = true → 1 ≤ v.tRelease.toNat) ∧
        (m[6] = true → 1 ≤ v.overload.toNat ∧ v.overload.toNat ≤ 65534) ∧
        (m[9] = true → -50000 ≤ v.offset.toInt ∧ v.offset.toInt ≤ 50000)) ∧
      ¬ (m[0] = true → 100 ≤ w.kStep.toNat ∧ w.kStep.toNat ≤ 20000) := by
  unfold Ready
  decide +kernel

theorem witness_CarSetEditsTheTable :
    let r : RawCar := { fl := 0, fr := 31, rl := 0xFF, rr := 2, twistLimit := 100, coupled := 1, couplingLimit := 50000 }
    let one := after (.carSet 1 1 r) cold
    let two := after (.carSet 1 2 r) one
    Ready cold ∧ cold.group.state = .setup ∧ 1 ≤ (1 : Byte).toNat ∧ (1 : Byte).toNat ≤ 8 ∧ (1 : Byte).toNat ≤ cold.cars.length + 1 ∧
      (∀ b ∈ [r.fl, r.fr, r.rl, r.rr], b = 0xFF ∨ b.toNat < 32) ∧ 100 ≤ r.twistLimit.toNat ∧ r.twistLimit.toNat ≤ 50000 ∧
      (r.coupled ≠ 0 → 100 ≤ r.couplingLimit.toNat ∧ r.couplingLimit.toNat ≤ 50000) ∧
      (Ready one ∧ one.group.state = .setup ∧ (1 : Byte).toNat = one.cars.length ∧ (2 : Byte).toNat ≠ one.cars.length) ∧
      (Ready two ∧ two.group.state = .setup ∧ (2 : Byte).toNat = two.cars.length ∧ two.cars[0]?.isSome = true) := by
  unfold Ready
  decide +kernel

/-- A form, a number, a state, a corner and each limit that are refused. -/
theorem witness_CarSetEditsTheTable_refused :
    let r : RawCar := { fl := 0, fr := 31, rl := 0xFF, rr := 2, twistLimit := 100, coupled := 1, couplingLimit := 50000 }
    (Ready cold ∧ cold.line.asm = .hunting ∧ (2 : Byte) ≠ 0 ∧ (2 : Byte) ≠ 1 ∧ (List.replicate 9 (0 : Byte)).length = 9) ∧
    ((0 : Byte).toNat < 1 ∧ 8 < (9 : Byte).toNat) ∧ (Ready (part .prepared) ∧ (part .prepared).group.state ≠ .setup) ∧
    cold.group.state = .setup ∧ cold.cars.length + 1 < (2 : Byte).toNat ∧
    (({ r with rr := 32 } : RawCar).rr ≠ 0xFF ∧ 32 ≤ ({ r with rr := 32 } : RawCar).rr.toNat) ∧
    (99 : Half).toNat < 100 ∧ 50000 < (50001 : Half).toNat ∧ r.coupled ≠ 0 := by
  unfold Ready
  decide +kernel

/-- 26 values at the tops of their ranges, but for a deadband of 199. -/
def topValues : List Word :=
  [2500000, 8000, 255, 199, 5000, 20000, 65535, 20000, 15, 7, 200000, 8000, 500, 100000, 20000, 20000, 2500000, 100, 100, 32,
   10000, 15, 1000, 15, 15, 60]

/-- The ranges of R114's table, in its order. -/
def rangeTable : List (Nat × Nat) :=
  [(1, 2500000), (1, 8000), (0, 255), (0, 1000), (10, 5000), (11, 20000), (1, 65535), (1, 20000), (1, 15), (1, 7),
   (1, 200000), (1, 8000), (1, 500), (1, 100000), (1, 20000), (1, 20000), (1, 2500000), (50, 100), (5, 100), (4, 32),
   (1, 10000), (1, 15), (1, 1000), (1, 15), (1, 15), (1, 60)]

theorem witness_GroupSetWritesMarkedParameters_valid :
    topValues.length = 26 ∧ ∀ i, i < 26 →
      (rangeTable.getD i (0, 0)).1 ≤ (topValues.getD i 0).toNat ∧ (topValues.getD i 0).toNat ≤ (rangeTable.getD i (0, 0)).2 ∧
        (i = 19 → (topValues.getD i 0).toNat ∈ [4, 8, 16, 32]) := by
  decide +kernel

theorem witness_GroupSetWritesMarkedParameters_marks :
    (∃ i, i < 26 ∧ i ∉ [2, 3, 17, 18] ∧ (0x03FFFFFF : Word).getLsbD i = true) ∧
      (¬ ∃ i, i < 26 ∧ i ∉ [2, 3, 17, 18] ∧ (0x0006000C : Word).getLsbD i = true) ∧ (0x0006000C : Word).getLsbD 3 = true := by
  decide +kernel

theorem witness_GroupSetWritesMarkedParameters_states :
    let narrow := { part .moving with group := { (part .moving).group with
      params := { GroupParams.reset with holdBand := 199 } } }
    Ready (part .moving) ∧ Ready (part .setup) ∧ (part .setup).group.state = .setup ∧ (part .moving).group.state ≠ .setup ∧
      (topValues.getD 3 0).toNat < (part .moving).group.params.holdBand ∧ Ready narrow ∧ narrow.group.state ≠ .setup ∧
      narrow.group.params.holdBand ≤ (topValues.getD 3 0).toNat ∧ ¬ (2500001 : Word).toNat ≤ 2500000 := by
  unfold Ready
  decide +kernel

theorem witness_MaskAndStreamAreSet :
    let s := streaming [{ cls := .reply, kind := 0x81, tag := 0, body := [] }]
    let notice : Machine.Frame := { cls := .snapshotNotice, kind := 0x71, tag := 0, body := [] }
    let reply : Machine.Frame := { cls := .reply, kind := 0x81, tag := 0, body := [] }
    Ready cold ∧ cold.line.pending = [] ∧ 5 ≤ (5 : Half).toNat ∧ (1000 : Half).toNat ≤ 1000 ∧
      ((4 : Half) ≠ 0 ∧ (4 : Half).toNat < 5) ∧ ((1001 : Half) ≠ 0 ∧ 1000 < (1001 : Half).toNat) ∧
      (s.pins.resetAsserted = false ∧ s.line.streamPeriod ≠ 0 ∧ s.line.streamPeriod ≤ s.line.streamCount + 1 ∧
        ∀ f ∈ s.line.queue, f.cls ≠ .snapshotNotice) ∧
      (streaming [notice]).line.queue = notice :: [] ∧ notice.cls = .snapshotNotice ∧
      (streaming [reply, notice]).line.queue = reply :: [] ++ notice :: [] ∧ reply.cls ≠ .snapshotNotice ∧
      (∀ x ∈ ([] : List Machine.Frame) ++ [], x.cls ≠ .snapshotNotice) := by
  unfold Ready
  decide +kernel

theorem witness_PlanWriteStoresClampedSegments :
    let s := withPlan [] (part .moving)
    let r : RawSegment := { kind := 1, stopAfter := 0, accel := 500, target := 1000000, cruise := 1, dwell := 0 }
    let w : RawSegment := { kind := 2, stopAfter := 1, accel := 1, target := 0, cruise := 0, dwell := 60000 }
    Ready s ∧ 16 ≤ (16 : Byte).toNat ∧ (15 : Byte).toNat < 16 ∧ s.plan.commit = none ∧ s.plan.pendingBank.length < (1 : Byte).toNat ∧
      (0 : Byte).toNat ≤ s.plan.pendingBank.length ∧
      (Ready (queued .moving .append [] [move 9]) ∧ (queued .moving .append [] [move 9]).plan.commit.isSome = true) ∧
      (500 < (501 : Half).toNat ∧ 60000 < (60001 : Half).toNat) ∧
      (1 ≤ r.accel.toNat ∧ r.accel.toNat ≤ 500 ∧ r.kind = 1 ∧ 1 ≤ r.cruise.toNat) ∧
      (1 ≤ w.accel.toNat ∧ w.accel.toNat ≤ 500 ∧ w.kind = 2 ∧ 1 ≤ w.dwell.toNat ∧ w.dwell.toNat ≤ 60000) := by
  unfold Ready
  decide +kernel

theorem witness_PlanWriteStoresClampedSegments_clear :
    Ready (part .moving) ∧ (part .moving).plan.commit = none ∧ Ready (queued .moving .replace [] [move 9]) ∧
      (queued .moving .replace [] [move 9]).plan.commit.isSome = true := by
  unfold Ready
  decide +kernel

theorem witness_CommitsAreQueuedAndWithdrawn :
    let s := { part .moving with plan := { Plan.reset with bankB := [move 9] } }
    Ready (part .moving) ∧ (part .moving).plan.commit = none ∧ (part .moving).plan.pendingBank = [] ∧
      Ready s ∧ s.plan.commit = none ∧ s.plan.pendingBank ≠ [] ∧
      (Instr.commitAppend 1, CommitKind.append) ∈
        [(Instr.commitReplace 1, CommitKind.replace), (Instr.commitAppend 1, CommitKind.append)] ∧
      Ready (queued .moving .replace [] [move 9]) ∧ (queued .moving .replace [] [move 9]).plan.commit.isSome = true := by
  unfold Ready
  decide +kernel

theorem witness_JogAndTrimStartCountedMoves :
    let trim := count 3 500000 (station 3 .engaged (some 0) (part .stopped))
    BrakesSafe trim ∧ BrakesSafe (jogger 24700) ∧
    (Ready (jogger 24700) ∧ (jogger 24700).group.permit = true ∧
      ((jogger 24700).jack 4).gen.run = .idle ∧ ((jogger 24700).jack 4).record.state = .idle ∧
      (jogger 24700).group.state = .prepared ∧ RoomFor 2 (jogger 24700)) ∧
    (Ready trim ∧ trim.group.permit = true ∧ (trim.jack 3).gen.run = .idle ∧
      (trim.jack 3).record.state = .engaged ∧ trim.group.state = .stopped) ∧
    (-100000 ≤ (-100000 : Word).toInt ∧ (100000 : Word).toInt ≤ 100000) ∧ 0 < (2 * (100000 * 2000) + 1000) / 2000 := by
  intro trim
  and_intros <;> first
    | (unfold BrakesSafe BrakeSafe; decide +kernel +revert)
    | decide +kernel +revert

/-- A station FAULTED with TRAVEL_LIMIT and no counted move. -/
def outOfTravel (k : Sta) (g : GroupState) (prior : Prior) : State :=
  (station k .faulted (if prior = .engaged then some 0 else none) (part g)).updRec k (fun r =>
    { r with faultKind := some .travelLimit, prior := some prior })

theorem witness_JogAndTrimStartCountedMoves_recovering :
    ∀ p ∈ [(GroupState.setup, Prior.idle), (.prepared, .idle), (.stopped, .engaged)],
      let s := outOfTravel 4 p.1 p.2
      Ready s ∧ BrakesSafe s ∧ s.group.permit = true ∧ (s.jack 4).gen.run = .idle ∧ (s.jack 4).record.state = .faulted ∧
        (s.jack 4).record.faultKind = some .travelLimit ∧ (s.jack 4).record.prior = some p.2 ∧
        (s.jack 4).record.move = none ∧ s.group.state = p.1 := by
  unfold Ready BrakesSafe BrakeSafe
  decide +kernel

theorem witness_HomeSeeksTheSwitch :
    let s := station 9 .idle none (part .setup)
    let t := s.updJack 9 (fun j => { j with homeLow := true })
    (∀ u ∈ [s, t], Ready u ∧ BrakesSafe u ∧ u.group.permit = true ∧ u.group.state = .setup ∧ (u.jack 9).record.state = .idle ∧
      (u.jack 9).gen.run = .idle) ∧
    (s.jack 9).homeLow = false ∧ 0 < (2 * (s.group.params.homeWindow * (s.jack 9).record.settings.kStep) + 1000) / 2000 ∧
    (t.jack 9).homeLow = true ∧ RoomFor 2 t := by
  unfold Ready RoomFor BrakesSafe BrakeSafe
  decide +kernel

theorem witness_StationOperationsAreRefusedInOrder :
    let low (s : State) : State := setPermit false s
    (∀ s ∈ [homing, jogger 0, part .moving, outOfTravel 4 .prepared .idle, low (outOfTravel 4 .stopped .engaged), low (jogger 0)],
      Ready s) ∧ 32 ≤ (32 : Byte).toNat ∧ (9 : Byte) = byteOf 9 ∧
    (homing.jack 8).record.state = .unassigned ∧
    ((homing.jack 9).record.state ≠ .unassigned ∧ homing.group.state ∉ [GroupState.stopped] ∧
      homing.group.state ∉ [GroupState.prepared, .poised, .holding, .stopped]) ∧
    (homing.group.state ∈ [GroupState.setup, .prepared] ∧ (homing.jack 9).record.state ≠ .idle ∧
      (homing.jack 9).record.state ≠ .faulted) ∧
    ((jogger 0).group.state ∈ [GroupState.setup, .prepared] ∧ ((jogger 0).jack 4).record.state = .idle ∧
      ¬ (100001 : Word).toInt ≤ 100000 ∧ ¬ -50000 ≤ (-50001 : Word).toInt ∧
      (jogger 0).group.state ∈ [GroupState.prepared, .poised, .holding, .stopped]) ∧
    ((low (jogger 0)).group.permit = false ∧ -100000 ≤ (-100000 : Word).toInt ∧ (100000 : Word).toInt ≤ 100000) ∧
    ((low (outOfTravel 4 .stopped .engaged)).group.permit = false ∧
      ((low (outOfTravel 4 .stopped .engaged)).jack 4).record.faultKind = some .travelLimit ∧
      ((low (outOfTravel 4 .stopped .engaged)).jack 4).record.move = none ∧
      ((low (outOfTravel 4 .stopped .engaged)).jack 4).record.prior = some .engaged) ∧
    (Ready twoCars ∧ (twoCars.jack 3).record.state ≠ .unassigned ∧
      twoCars.group.state ∈ [GroupState.prepared, .poised, .holding, .stopped] ∧ -50000 ≤ (50000 : Word).toInt ∧
      (50000 : Word).toInt ≤ 50000 ∧
      offsetFailure twoCars.cars (fun x => if x = 3 then (50000 : Word).toInt
        else (twoCars.jack x).record.pendingOffset.getD (twoCars.jack x).record.settings.offset) ≠ none) := by
  unfold Ready
  decide +kernel

theorem witness_CalibrationGatesOpenAndClose :
    let s := jogger 0
    let t := after (.openGate 1 4) s
    Ready s ∧ (s.jack 4).record.state ∈ [StationState.idle, .jogging, .homing] ∧ s.group.state = .prepared ∧
      (s.jack 4).mon.gateOpen = false ∧ Ready t ∧ (t.jack 4).mon.gateOpen = true := by
  unfold Ready
  decide +kernel

theorem witness_OffsetsWaitForTheCycleStart :
    Ready twoCars ∧ (twoCars.jack 3).record.state ≠ .unassigned ∧
      twoCars.group.state ∈ [GroupState.prepared, .poised, .holding, .stopped] ∧ -50000 ≤ (-50000 : Word).toInt ∧
      (50000 : Word).toInt ≤ 50000 ∧ twoCars.pins.resetAsserted = false := by
  unfold Ready
  decide +kernel

theorem witness_GroupCommandsWaitInTheSlot :
    let s := waiting .engage (configured .prepared)
    Ready (part .moving) ∧ (part .moving).group.slot = none ∧ Ready s ∧ s.group.slot.isSome = true ∧
      ((0x0A, GroupCommand.clearLockout) ∈ [((0x01 : Byte), GroupCommand.setupDone), (0x0A, .clearLockout)]) ∧
      (∀ p ∈ [((0x01 : Byte), GroupCommand.setupDone), (0x02, .resetup), (0x03, .engage), (0x04, .run), (0x05, .continueRun),
        (0x06, .stop), (0x07, .resume), (0x08, .land), (0x09, .ackFaults), (0x0A, .clearLockout)], p.1 ≠ 0x0B ∧ p.1 ≠ 0x00) := by
  intro s
  and_intros <;> first
    | exact waiting_brakes _ _ | exact fun _ _ => waiting_brakes _ _ | exact fun _ => waiting_brakes _ _
    | decide +kernel +revert

theorem witness_ExecutionIsRefusedByStateAndPermit :
    let s := waiting .run (part .moving)
    let t := waiting .engage (setPermit false (configured .prepared))
    (Waiting .run 0x10 0 s ∧ BrakesSafe s ∧ s.group.state ∉ [GroupState.poised]) ∧
      (Waiting .engage 0x10 0 t ∧ BrakesSafe t ∧ t.group.state ∈ [GroupState.prepared] ∧
        GroupCommand.engage ∈ [.engage, .run, .continueRun, .resume, .land] ∧ t.group.permit = false) := by
  intro s t
  and_intros <;> first
    | exact waiting_brakes _ _ | exact fun _ _ => waiting_brakes _ _ | exact fun _ => waiting_brakes _ _
    | decide +kernel +revert

/-- SETUP_DONE waits in SETUP. -/
def asked (s : State) : Prop := Waiting .setupDone 0x10 1 (waiting .setupDone s) ∧ s.group.state = .setup

theorem witness_SetupDoneValidatesTheConfiguration_brakes (s : State) : BrakesSafe (waiting .setupDone s) :=
  waiting_brakes _ _

/-- The requirements of checks 1 to 4 (R96). -/
def carsInOrder (s : State) : Prop :=
  s.cars ≠ [] ∧ (∀ c ∈ s.cars, (c.fl.isSome ∨ c.fr.isSome) ∧ (c.rl.isSome ∨ c.rr.isSome)) ∧
    (s.cars.flatMap (fun c => [c.fl, c.fr, c.rl, c.rr].filterMap id)).Nodup ∧
    ∀ c ∈ s.cars.getLast?, c.coupled = false

/-- The requirement of check 5 (R96). -/
def thresholdsInOrder (s : State) : Prop :=
  ∀ k, (s.jack k).assigned = true → (s.jack k).record.settings.loss < (s.jack k).record.settings.tRelease ∧
    (s.jack k).record.settings.tRelease < (s.jack k).record.settings.tContact ∧
    (s.jack k).record.settings.tContact < (s.jack k).record.settings.overload

/-- The group parameters of a state changed. -/
def withParams (f : GroupParams → GroupParams) (s : State) : State :=
  { s with group := { s.group with params := f s.group.params } }

/-- The settings of station `k` changed. -/
def withSettings (k : Sta) (f : Settings → Settings) (s : State) : State :=
  s.updRec k (fun r => { r with settings := f r.settings })

theorem witness_CycleStartMovesTheReference :
    let top : State := withParams (fun p => { p with lMax := 1 }) (follows .moving [move 0] 50 200 .up)
    (∀ s ∈ [follows .moving [move 500] 0 0 .up, follows .moving [move 0] 10000 200 .up, follows .moving [move 100] 50 200 .down, top,
        follows .moving [move 0] 10000 0 .up, follows .stopping [move 500] 10000 200 .up, follows .landing [] 10000 0 .down,
        follows .landing [] 0 0 .none, follows .landing [] 20 0 .down, follows .poised [] 0 0 .none, follows .holding [] 0 0 .none],
      quiet s ∧ after .take s = s ∧ ∀ k, (s.jack k).record.state = .engaged →
        ∀ sign ∈ [(1 : Int), 0, -1], sign * errorAt s k ≤ 100 * (s.group.params.holdBand : Int)) ∧
    ((chooseSpeed 100 300 0 50000 : Int) < 50000 ∧ (chooseSpeed 100 300 0 10000 : Int) < 10000) ∧
    (0 ≤ (10000 + (200 - 100) : Int) ∧ (10000 + (200 - 100) : Int) ≤ 100 * 1000000 ∧ (50 - (200 - 100) : Int) < 0 ∧
      (100 * 1 : Int) < 50 + (200 - 100)) ∧
    ((chooseSpeed 20 (min 2000 5000) 0 10000 : Int) < 10000 ∧ (chooseSpeed 20 (min 2000 5000) 0 20 : Int) = 20) ∧
    (follows .stopping [move 500] 10000 200 .up).group.ratesForced = false := by
  simp only [quiet, undetected_iff]
  decide +kernel

theorem witness_CycleStartMovesTheReference_dwellAndTake :
    let s := { follows .moving [dwell 7] 0 0 .none with sync := { (follows .moving [dwell 7] 0 0 .none).sync with dwell := some 2 } }
    let r := { follows .moving [move 500] 0 0 .up with plan :=
      { (follows .moving [move 500] 0 0 .up).plan with bankB := [move 300], commit := some .replace } }
    quiet s ∧ after .take s = s ∧ s.segment = some (dwell 7) ∧ s.sync.dwell = some (0 + 2) ∧
      quiet r ∧ (after .take r).segment = some (move 300) ∧ (after .take r).sync.dir = .up := by
  simp only [quiet, undetected_iff]
  decide +kernel

theorem witness_MoveCompletesAtItsTarget :
    let rest (g : Segment) : Segment := { g with stopAfter := true }
    let append (s : State) : State := { s with plan := { s.plan with bankB := [move 5], commit := some .append } }
    let single (s : State) : State := { s with plan := { s.plan with segMode := some .single } }
    let last (s : State) : State := { s with sync := { s.sync with dwell := some 1 } }
    (∀ s ∈ [follows .moving [move 0] 0 0 .none, follows .moving [move 1] 0 0 .up, follows .moving [move 0] 100 0 .up,
        follows .moving [rest (move 1), move 5] 0 0 .up, single (follows .moving [move 1, move 5] 0 0 .up),
        append (follows .moving [rest (move 1)] 0 0 .up), follows .moving [move 1, dwell 5] 0 0 .up,
        append (follows .moving [move 1] 0 0 .up), last (follows .moving [dwell 7, move 5] 0 0 .none)],
      quiet s ∧ after .take s = s ∧ s.group.state = .moving ∧ s.segment.isSome = true ∧ s.plan.segMode.isSome = true ∧
      ∀ k, (s.jack k).record.state = .engaged →
        ∀ sign ∈ [(1 : Int), 0, -1], sign * errorAt s k ≤ 100 * (s.group.params.holdBand : Int)) ∧
    (chooseSpeed 100 300 0 100 : Int) = 100 ∧
    (append (follows .moving [move 1] 0 0 .up)).plan.pendingBank = [move 5] ∧
    (follows .moving [move 1, dwell 5] 0 0 .up).plan.activeBank[1]? = some (dwell 5) := by
  simp only [quiet, undetected_iff]
  decide +kernel

theorem witness_SetupDoneValidatesTheConfiguration_valid :
    let s := configured .setup
    asked s ∧ carsInOrder s ∧ thresholdsInOrder s ∧
      (s.group.params.deadband < s.group.params.holdBand ∧ s.group.params.holdBand < s.group.params.tripBand) ∧
      (0 < s.group.params.lMax ∧ ∀ k, (s.jack k).assigned = true → s.group.params.lMax ≤ (s.jack k).record.settings.hMax) ∧
      offsetFailure s.cars (fun k => (s.jack k).record.settings.offset) = none := by
  unfold asked carsInOrder thresholdsInOrder Waiting RoomFor
  decide +kernel

theorem witness_SetupDoneValidatesTheConfiguration_cars :
    let half : Car := { car 4 5 6 7 1000 false 0 with rl := none, rr := none }
    let s := { configured .setup with cars := [car 0 1 2 3 1000 true 300, half] }
    let t := { configured .setup with cars := [car 0 1 2 3 1000 true 300, car 4 5 1 6 1000 false 0] }
    let u := { configured .setup with cars := [car 0 1 2 3 1000 true 300] }
    (asked (part .setup) ∧ (part .setup).cars = []) ∧
    (asked s ∧ s.cars[1]? = some half ∧ ¬ (half.rl.isSome ∨ half.rr.isSome) ∧
      (∀ d ∈ s.cars[0]?, (d.fl.isSome ∨ d.fr.isSome) ∧ (d.rl.isSome ∨ d.rr.isSome))) ∧
    (asked t ∧ (∀ c ∈ t.cars, (c.fl.isSome ∨ c.fr.isSome) ∧ (c.rl.isSome ∨ c.rr.isSome)) ∧
      t.cars.flatMap (fun c => [c.fl, c.fr, c.rl, c.rr].filterMap id) = [0, 1, 2, 3, 4, 5] ++ 1 :: [6] ∧
      ([0, 1, 2, 3, 4, 5] : List Sta).Nodup ∧ (1 : Sta) ∈ ([0, 1, 2, 3, 4, 5] : List Sta)) ∧
    (asked u ∧ u.cars ≠ [] ∧ (u.cars.flatMap (fun c => [c.fl, c.fr, c.rl, c.rr].filterMap id)).Nodup ∧
      u.cars.getLast? = some (car 0 1 2 3 1000 true 300)) := by
  unfold asked Waiting RoomFor
  decide +kernel

theorem witness_SetupDoneValidatesTheConfiguration_limits :
    let loose := withSettings 2 (fun g => { g with overload := 500 }) (configured .setup)
    let wide := withParams (fun p => { p with deadband := 200 }) (configured .setup)
    let unset := withParams (fun p => { p with lMax := 0 }) (configured .setup)
    let short := withSettings 1 (fun g => { g with hMax := 999999 }) (withSettings 3 (fun g => { g with hMax := 999999 }) (configured .setup))
    let bent := withSettings 3 (fun g => { g with offset := 1001 }) (configured .setup)
    (∀ s ∈ [loose, wide, unset, short, bent], asked s ∧ carsInOrder s) ∧
    (∀ s ∈ [wide, unset, short, bent], thresholdsInOrder s) ∧
    ((loose.jack 2).assigned = true ∧
      ¬ (loose.jack 2).record.settings.tContact < (loose.jack 2).record.settings.overload ∧
      ∀ i ∈ ([0, 1] : List Sta), (loose.jack i).record.settings.tContact < (loose.jack i).record.settings.overload) ∧
    (¬ wide.group.params.deadband < wide.group.params.holdBand ∧ unset.group.params.lMax = 0) ∧
    ((short.jack 1).record.settings.hMax < short.group.params.lMax ∧ (short.jack 1).assigned = true ∧
      (∀ i, (short.jack 1).record.settings.hMax ≤ (short.jack i).record.settings.hMax) ∧
      (short.jack 1).record.settings.hMax < (short.jack 0).record.settings.hMax) ∧
    offsetFailure bent.cars (fun k => (bent.jack k).record.settings.offset) = some 1 := by
  unfold asked carsInOrder thresholdsInOrder Waiting RoomFor
  decide +kernel

theorem witness_ResetupReopensTheConfiguration :
    let s := waiting .resetup (configured .prepared)
    let t := waiting .resetup (configured .stopped)
    let u := waiting .resetup (engaged .stopped [])
    (Waiting .resetup 0x10 1 s ∧ BrakesSafe s ∧ s.group.state = .prepared ∧ ∀ k, (s.jack k).record.move = none) ∧
    (Waiting .resetup 0x10 1 t ∧ BrakesSafe t ∧ t.group.state = .stopped ∧ anyContact t = false ∧ ∀ k, (t.jack k).record.move = none) ∧
    (Waiting .resetup 0x10 1 u ∧ BrakesSafe u ∧ u.group.state = .stopped ∧ anyContact u = true) := by
  intro s t u
  and_intros <;> first
    | exact waiting_brakes _ _ | exact fun _ _ => waiting_brakes _ _ | exact fun _ => waiting_brakes _ _
    | decide +kernel +revert

theorem witness_EngageTakesEveryStationIntoSeeking :
    let s := waiting .engage (configured .prepared)
    let busy := station 2 .jogging none (configured .prepared)
    let unknown := (configured .prepared).updRec 2 (fun r => { r with datumKnown := false })
    let gate := (configured .prepared).updJack 2 (fun j => { j with mon := { j.mon with gateOpen := true } })
    (∀ t ∈ [s, waiting .engage busy, waiting .engage unknown, waiting .engage gate], Waiting .engage 0x10 1 t ∧
      t.group.state = .prepared ∧ t.group.permit = true) ∧
    (∀ t : State, BrakesSafe (waiting .engage t)) ∧
    ((∀ k, (s.jack k).assigned = true → (s.jack k).record.state = .idle) ∧
      (∀ k, (s.jack k).assigned = true → (s.jack k).record.datumKnown = true) ∧ ∀ k, (s.jack k).mon.gateOpen = false) ∧
    ((busy.jack 2).assigned = true ∧ (busy.jack 2).record.state ≠ .idle) ∧
    ((∀ k, (unknown.jack k).assigned = true → (unknown.jack k).record.state = .idle) ∧ (unknown.jack 2).record.datumKnown = false) ∧
    ((∀ k, (gate.jack k).assigned = true → (gate.jack k).record.state = .idle ∧ (gate.jack k).record.datumKnown = true) ∧
      (gate.jack 2).mon.gateOpen = true) := by
  intro s busy unknown gate
  and_intros <;> first
    | exact waiting_brakes _ _ | exact fun _ _ => waiting_brakes _ _ | exact fun _ => waiting_brakes _ _
    | decide +kernel +revert
    | (unfold Waiting RoomFor; decide +kernel +revert)

theorem witness_RunAndContinueStartTheSegment :
    (∀ p ∈ [(GroupCommand.run, GroupState.poised), (.continueRun, .holding)], ∀ l ∈ [[], [move 500, dwell 3]],
      (waiting p.1 (engaged p.2 l)).group.permit = true ∧
      Waiting p.1 0x10 2 (waiting p.1 (engaged p.2 l)) ∧ (waiting p.1 (engaged p.2 l)).group.state = p.2 ∧
      (waiting p.1 (engaged p.2 l)).sync.speed = 0) ∧
    (∀ c t, BrakesSafe (waiting c t)) ∧
    (waiting .run (engaged .poised [])).plan.activeBank.length ≤ (waiting .run (engaged .poised [])).sync.planPos ∧
    (waiting .run (engaged .poised [move 500, dwell 3])).plan.activeBank[0]? = some (move 500) := by
  and_intros <;> first
    | exact waiting_brakes _ _ | exact fun _ _ => waiting_brakes _ _ | exact fun _ => waiting_brakes _ _
    | decide +kernel +revert
    | (unfold Waiting RoomFor; decide +kernel +revert)

theorem witness_ResumeGoesOnFromTheReference :
    let s := waiting .resume (engaged .stopped [move 500, move 0])
    let t := waiting .resume (engaged .stopped [])
    let u := waiting .resume (station 3 .faulted (some 0) (engaged .stopped []))
    (∀ v ∈ [s, t, u], Waiting .resume 0x10 1 v ∧ v.group.state = .stopped ∧ v.group.permit = true) ∧
    (∀ v : State, BrakesSafe (waiting .resume v)) ∧
    (u.jack 3).record.state = .faulted ∧
    (∀ v ∈ [s, t], (∀ k, (v.jack k).record.state = .engaged ∨ (v.jack k).record.state = .unassigned) ∧
      ∀ k, (v.jack k).record.move = none) ∧
    (s.plan.activeBank[s.sync.planPos]? = some (move 500) ∧ s.sync.planPos + 1 < s.plan.activeBank.length ∧ (move 500).kind = .move) ∧
    t.plan.activeBank.length ≤ t.sync.planPos := by
  intro s t u
  and_intros <;> first
    | exact waiting_brakes _ _ | exact fun _ _ => waiting_brakes _ _ | exact fun _ => waiting_brakes _ _
    | decide +kernel +revert
    | (unfold Waiting RoomFor; decide +kernel +revert)

theorem witness_ResumeGoesOnFromTheReference_wide :
    let idle := waiting .resume (station 3 .idle none (engaged .stopped []))
    let trim := waiting .resume (moving .trim 2)
    let low := waiting .resume { engaged .stopped [move 500] with
      plan := { (engaged .stopped [move 500]).plan with mode := .chained } }
    let rest := waiting .resume (engaged .stopped [dwell 3])
    (∀ v ∈ [idle, trim, low, rest], Waiting .resume 0x10 1 v ∧ v.group.state = .stopped ∧ v.group.permit = true) ∧
    (∀ v : State, BrakesSafe (waiting .resume v)) ∧
    ((∀ k, (idle.jack k).record.state ≠ .faulted) ∧ (idle.jack 3).record.state = .idle) ∧
    (∀ v ∈ [trim, low, rest], ∀ k, (v.jack k).record.state = .engaged ∨ (v.jack k).record.state = .trimming ∨
      (v.jack k).record.state = .unassigned) ∧
    ((trim.jack 4).record.move = some { op := .trim, underFault := false, done := false } ∧ (trim.jack 4).gen.run = .counted) ∧
    (low.sync.planPos + 1 = low.plan.activeBank.length ∧ low.plan.mode = .chained ∧ low.plan.commit = none) ∧
    rest.plan.activeBank[rest.sync.planPos]? = some (dwell 3) := by
  intro idle trim low rest
  and_intros <;> first
    | exact waiting_brakes _ _ | exact fun _ _ => waiting_brakes _ _ | exact fun _ => waiting_brakes _ _
    | decide +kernel +revert
    | (unfold Waiting RoomFor; decide +kernel +revert)

theorem witness_CycleStartLatchesAndSendsBeacon_slot :
    let s := waiting .stop (engaged .moving [move 500])
    let t := waiting .run (part .lockedOut)
    (s.pins.resetAsserted = false ∧ s.group.slot = some { tag := 0x10, command := .stop } ∧
      (after .cycleStart s).group.state = .stopping) ∧
    (t.pins.resetAsserted = false ∧ t.group.slot = some { tag := 0x10, command := .run } ∧ t.group.state = .lockedOut) := by
  decide +kernel

/-- What TAKE and the execution leave are next states. -/
theorem witness_CycleStartLatchesAndSendsBeacon_answers (s : State) :
    exec .take s.opened = .next (after .take s.opened) ∧
      exec (.stop .execution) (after .take s.opened).watchedInLockout =
        .next (after (.stop .execution) (after .take s.opened).watchedInLockout) := ⟨rfl, rfl⟩

theorem witness_CycleStartLatchesAndSendsBeacon_stream :
    let notice : Machine.Frame := { cls := .snapshotNotice, kind := 0x71, tag := 0, body := [] }
    let reply : Machine.Frame := { cls := .reply, kind := 0x81, tag := 0, body := [] }
    (∀ q ∈ [[], [notice], [reply, notice], [reply], List.replicate 5 reply], (streaming q).pins.resetAsserted = false ∧
      (streaming q).line.streamPeriod ≠ 0 ∧ (streaming q).line.streamPeriod ≤ (streaming q).line.streamCount + 1 ∧
      (streaming q).line.queue = q) ∧
    (oneCycle.pins.resetAsserted = false ∧ oneCycle.line.streamPeriod = 0) := by
  decide +kernel

theorem witness_StopAndLandLeaveTheLift :
    (∀ c t, BrakesSafe (waiting c t)) ∧
    (∀ g ∈ [GroupState.poised, .moving, .holding], Waiting .stop 0x10 1 (waiting .stop (engaged g []))) ∧
    (∀ g ∈ [GroupState.poised, .holding], Waiting .land 0x10 1 (waiting .land (engaged g [])) ∧ (waiting .land (engaged g [])).group.permit = true ∧
      ((waiting .land (engaged g [])).jack 3).record.state ≠ .idle ∧
      ((waiting .land (engaged g [])).jack 3).record.state ≠ .unassigned) ∧
    Waiting .land 0x10 2 (waiting .land (configured .stopped)) ∧ (configured .stopped).group.permit = true ∧
      (configured .stopped).group.state = .stopped ∧
      (∀ k, ((configured .stopped).jack k).record.state = .idle ∨ ((configured .stopped).jack k).record.state = .unassigned) ∧
      ∀ k, ((configured .stopped).jack k).record.move = none := by
  and_intros <;> first
    | exact waiting_brakes _ _ | exact fun _ _ => waiting_brakes _ _ | exact fun _ => waiting_brakes _ _
    | decide +kernel +revert
    | (unfold Waiting RoomFor; decide +kernel +revert)

theorem witness_StopAndLandLeaveTheLift_stopped :
    let s := waiting .land (engaged .stopped [])
    let t := waiting .land (station 3 .faulted (some 0) (engaged .stopped []))
    (∀ u ∈ [s, t], Waiting .land 0x10 1 u ∧ u.group.permit = true ∧ u.group.state = .stopped) ∧
      ((s.jack 3).record.state = .engaged ∧ ∀ k, (s.jack k).record.state ≠ .faulted ∧ (s.jack k).record.move = none) ∧
      (t.jack 3).record.state = .faulted := by
  unfold Waiting RoomFor
  decide +kernel

theorem witness_StopAndLandLeaveTheLift_trim :
    let s := waiting .land (moving .trim 2)
    (Waiting .land 0x10 1 s ∧ BrakesSafe s ∧ s.group.permit = true ∧ s.group.state = .stopped) ∧
      (∀ k, (s.jack k).record.state ≠ .faulted) ∧ (s.jack 4).record.state ≠ .idle ∧ (s.jack 4).record.state ≠ .unassigned ∧
      (s.jack 4).record.move = some { op := .trim, underFault := false, done := false } ∧ (s.jack 4).gen.run = .counted := by
  intro s
  and_intros <;> first
    | exact waiting_brakes _ _ | exact fun _ _ => waiting_brakes _ _ | exact fun _ => waiting_brakes _ _
    | decide +kernel +revert

theorem witness_AckFaultsRemovesWhatNoLongerHolds :
    ∀ g ∈ [GroupState.stopped, .prepared],
      let s := waiting .ackFaults { part g with group := { (part g).group with
        faults := [{ kind := .syncTrip, subject := .station 3, cycle := 37 }] } }
      Waiting .ackFaults 0x10 0 s ∧ s.group.state = g := by
  unfold Waiting RoomFor
  decide +kernel

theorem witness_AckFaultsRemovesWhatNoLongerHolds_geometry :
    let s := waiting .ackFaults { twoCars with group := { twoCars.group with
      state := .stopped
      faults := [{ kind := .twist, subject := .car 1, cycle := 37 }, { kind := .coupling, subject := .coupling 1, cycle := 37 }] } }
    Waiting .ackFaults 0x10 0 s ∧ s.group.state = .stopped ∧ s.cars[0]? = some (car 0 1 2 3 1000 true 300) ∧
      s.cars[1]? = some (car 4 5 6 7 1000 false 0) ∧ (car 0 1 2 3 1000 true 300).coupled = true ∧ 1 - 1 = 0 := by
  unfold Waiting RoomFor
  decide +kernel

theorem witness_ClearLockoutNeedsStillness :
    let s := waiting .clearLockout (engaged .lockedOut [])
    let t := waiting .clearLockout ((engaged .lockedOut []).updJack 2 (fun j => { j with mon := { j.mon with runaway := 1 } }))
    (Waiting .clearLockout 0x10 1 s ∧ BrakesSafe s ∧ s.group.state = .lockedOut ∧ ∀ k, (s.jack k).mon.runaway = 0) ∧
    (Waiting .clearLockout 0x10 1 t ∧ BrakesSafe t ∧ t.group.state = .lockedOut ∧ 0 < (t.jack 2).mon.runaway ∧
      ∀ i : Sta, i < 2 → (t.jack i).mon.runaway = 0) := by
  intro s t
  and_intros <;> first
    | exact waiting_brakes _ _ | exact fun _ _ => waiting_brakes _ _ | exact fun _ => waiting_brakes _ _
    | decide +kernel +revert

/-- R141, R148, R16: of two stations beyond the window both are FAULTED with prior state IDLE, the higher from the IDLE that the stop of
the lower gave it (log 37), and a station below has engaged. -/
theorem test_judgement_of_a_moved_station :
    let t := after .cycleStart searchers
    ([2, 3, 5] : List Sta).map (fun k => (t.jack k).record.state) = [.engaged, .faulted, .faulted] ∧
      (t.jack 5).record.prior = some .idle ∧
      t.group.faults.map (fun e => (e.kind, e.subject)) = [(.noContact, .station 3), (.noContact, .station 5)] := by
  decide +kernel

/-- R154: LAND in STOPPED at L 0 begins the release at that cycle start, a twist still over its limit (log 41); at an L above 0 the
descent is checked and the twist stops it (R26). -/
theorem test_land_at_zero_with_a_twist :
    let s (ref : Int) : State := { count 3 2004 (waiting .land (engaged .stopped [])) with
      sync := { (part .stopped).sync with ref := ref } }
    let t := after .cycleStart (s 0)
    t.group.state = .landing ∧ t.sync.descent = false ∧ t.group.faults = [] ∧
      (∀ k : Sta, k < 4 → (t.jack k).record.state = .releasing) ∧
      (after .cycleStart (s 50000)).group.state = .stopping := by
  decide +kernel

/-- LAND executed at L 0 with a twist over the limit: nothing is found, and the descent ends. -/
theorem witness_CycleStartMovesTheReference_landAtZero :
    let s := count 3 2004 (follows .landing [] 0 0 .none)
    quiet s ∧ ¬ GeometryKept s ∧ s.group.state = .landing ∧ s.sync.descent = true ∧ s.sync.ref = 0 ∧
      (s.jack 3).record.state = .engaged := by
  simp only [quiet, undetected_iff, geometryKept_iff]
  decide +kernel

theorem witness_RatesFollowTheReferenceAndTheirDivisors_speeds :
    (0 < 1 ∧ 200 ≤ 300 ∧ 200 + stoppingDistance 100 200 ≤ 300) ∧ 100 + stoppingDistance 100 100 ≤ 100 ∧
      (¬ 300 + stoppingDistance 100 300 ≤ 300 ∧ 200 + stoppingDistance 100 200 ≤ 300 ∧ 0 < 200) ∧
      (¬ 300 + stoppingDistance 100 300 ≤ 250 ∧ ¬ 200 + stoppingDistance 100 200 ≤ 250 ∧ 0 < 200 - 100) ∧
      (¬ 200 + stoppingDistance 100 200 ≤ 50 ∧ ¬ 100 + stoppingDistance 100 100 ≤ 50 ∧ 100 - 100 = 0) := by
  decide +kernel

theorem witness_RatesFollowTheReferenceAndTheirDivisors :
    (0 < 20000 ∧ (divisorOf 20000 20000).length = 992 ∧ 992 < (divisorOf 2300 2000).length ∧ (divisorOf 2300 2000).length < 262143 ∧
      (divisorOf 1 100).length = 262143) ∧
    let j (err : Int) : Jack := { Jack.reset with err := err }
    correction .reset (j 15000) = 300 ∧ (0 ≤ 2000 + correction .reset (j 15000) ∧ 2000 + correction .reset (j 15000) ≤ 8000) ∧
      (-2000 + correction .reset (j 15000) ≤ 0 ∧ -8000 ≤ -2000 + correction .reset (j 15000)) ∧
      ((j 5000).err.natAbs ≤ 100 * GroupParams.reset.deadband) ∧
      (100 * GroupParams.reset.deadband < (j 5001).err.natAbs ∧ -8000 ≤ correction .reset (j 5001) ∧
        correction .reset (j 5001) ≤ 8000 ∧ 0 < (j 5001).err ∧ (j (-5001)).err < 0) := by
  decide +kernel

theorem witness_ConfigurationIsWrittenInSetupOnly :
    (∀ p, Instr.cycleStart ≠ .powerOn p) ∧ (part .moving).group.state ≠ .setup ∧
      exec .cycleStart (part .moving) = .next (after .cycleStart (part .moving)) :=
  ⟨nofun, by decide, rfl⟩

/-! The invariants, in a state that is moving, with a command waiting. -/

/-- The car of section 7.7 about to start a cycle. -/
def aboutToStart : State := { oneCycle with pending := [.cycleStart] }

theorem witness_EveryStep_answers : ∃ t, step aboutToStart = .next t := ⟨_, rfl⟩

theorem witness_EveryStepKeepsTheLine : QueueSafe aboutToStart ∧ PendingSafe aboutToStart := by
  unfold QueueSafe PendingSafe
  decide +kernel

theorem witness_EveryStepKeepsTheFaultList : FaultListSafe (after .waitTimeout aboutToTimeOut) := by
  unfold FaultListSafe
  decide +kernel

theorem witness_EveryStepKeepsTheGroupTogether : GroupSafe aboutToStart := by
  unfold GroupSafe StationsSafe RecordSafe
  decide +kernel

theorem aboutToStart_generators (k : Sta) :
    (aboutToStart.jack k).gen.divisor = (if (aboutToStart.jack k).gen.running then some { n := 125, m := 0 } else none) ∧
      (aboutToStart.jack k).gen.pending = none ∧ (aboutToStart.jack k).gen.remaining = 0 := by
  revert k; decide +kernel

theorem aboutToStart_counts (k : Sta) :
    (aboutToStart.jack k).mon.gate = none ∧ (aboutToStart.jack k).mon.slipRun = 0 ∧ (aboutToStart.jack k).mon.runaway = 0 ∧
      (aboutToStart.jack k).mon.openCycles = 0 ∧ (aboutToStart.jack k).link.miss = 0 ∧ (aboutToStart.jack k).link.held = 0 ∧
      (aboutToStart.jack k).link.lossRun = 0 := by
  revert k; decide +kernel

theorem witness_EveryStepKeepsGeneratorsAndCounts : GeneratorsSafe aboutToStart ∧ TalliesSafe aboutToStart := by
  refine ⟨fun k => ?_, fun k => ?_⟩
  · have h := aboutToStart_generators k
    generalize (aboutToStart.jack k).gen = g at h
    obtain ⟨hd, hp, hr⟩ := h
    refine ⟨by rw [hd]; cases g.running <;> rfl, fun d e => ?_, fun v e => (by rw [hp] at e; cases e), fun _ => hp, fun _ => hr⟩
    rw [hd] at e
    split at e
    · cases e; unfold DivisorSafe; decide
    · cases e
  · have h := aboutToStart_counts k
    generalize aboutToStart.jack k = j at h
    obtain ⟨h1, h2, h3, h4, h5, h6, h7⟩ := h
    exact ⟨by omega, by omega, by omega, by omega, by omega, by omega, fun g e => (by rw [h1] at e; cases e)⟩

theorem witness_EveryStepKeepsThePermitAndTheBrakes : PermitSafe aboutToStart ∧ BrakesSafe aboutToStart := by
  unfold BrakesSafe BrakeSafe PermitSafe
  decide +kernel

theorem witness_EveryStepKeepsThePlan : PlanSafe (queued .moving .append [move 5, dwell 60000] [move 9]) := by
  unfold PlanSafe SegmentSafe
  decide +kernel

end Sys2Proof.Tests
end

/-! PROOF. The statements of 01_jack_stations.md: STATION_SET (R4), and what POWER_ON sets (R19, R54). -/

namespace Sys2Proof.Machine

/-! ### What a request leaves (R175, R176) -/

/-- A refused request changes nothing but the queue, where its reply without content stands behind the frames held. -/
theorem takeKind_refuses {s : State} (h : Ready s) {kind tag : Byte} {serve : State → Answer} {o : ReplyOutcome}
    (hs : serve s = Answer.refused o s) : takeKind kind tag serve s = answered (replyKind kind) tag o [] s :=
  takeKind_answers h h.2.2 hs

/-- A request answered DONE that raises no event leaves its effect, with its reply behind the frames held. -/
theorem takeKind_done {s u : State} (h : Ready s) {kind tag : Byte} {serve : State → Answer} {c : List Byte}
    (hs : serve s = Answer.done u c) (hu : u.line.raised = s.line.raised) :
    takeKind kind tag serve s = answered (replyKind kind) tag .done c u :=
  takeKind_answers h (hu.trans h.2.2) hs

@[simp] theorem withStation_byteOf (k : Sta) (s : State) (f : Sta → Answer) : withStation (byteOf k.val) s f = f k := by
  simp only [withStation, stationIndex_byteOf]

theorem withStation_of_le {i : Byte} (h : 32 ≤ i.toNat) (s : State) (f : Sta → Answer) :
    withStation i s f = Answer.refused .badValue s := by
  simp only [withStation, stationIndex_of_le h]

/-! ### The tests of a value and of a state -/

@[simp] theorem inRange_eq_true {lo hi x : Nat} : inRange lo hi x = true ↔ lo ≤ x ∧ x ≤ hi := by
  simp [inRange]

@[simp] theorem withinMagnitude_eq_true {m : Nat} {x : Int} : withinMagnitude m x = true ↔ -(m : Int) ≤ x ∧ x ≤ m := by
  simp only [withinMagnitude, decide_eq_true_eq]
  omega

@[simp] theorem Jack.isIn_eq_true {j : Jack} {st : StationState} : j.isIn st = true ↔ j.record.state = st := by
  simp [Jack.isIn]

theorem half_toNat_le (x : Half) : x.toNat ≤ 65535 := by have := x.isLt; omega

/-! ### STATION_SET (R4) -/

/-- Every marked value of a STATION_SET lies in its range of R1's table. Any value of the loss threshold and of the home count is in
range, and any from 1 up of the contact and release thresholds. -/
def SettingsValid (m : Half) (v : RawSettings) : Prop :=
  (m[0] = true → 100 ≤ v.kStep.toNat ∧ v.kStep.toNat ≤ 20000) ∧ (m[1] = true → 50 ≤ v.encScale.toNat ∧ v.encScale.toNat ≤ 20000) ∧
  (m[2] = true → 1 ≤ v.rMax.toNat ∧ v.rMax.toNat ≤ 20000) ∧ (m[3] = true → 1 ≤ v.hMax.toNat ∧ v.hMax.toNat ≤ 2500000) ∧
  (m[4] = true → 1 ≤ v.tContact.toNat) ∧ (m[5] = true → 1 ≤ v.tRelease.toNat) ∧
  (m[6] = true → 1 ≤ v.overload.toNat ∧ v.overload.toNat ≤ 65534) ∧
  (m[9] = true → -50000 ≤ v.offset.toInt ∧ v.offset.toInt ≤ 50000)

/-- The part's ten tests, made where their value is marked, are R1's ranges. -/
theorem markedPass_settingsInRange_iff (m : Half) (v : RawSettings) :
    markedPass (fun i => m.getLsbD i) (settingsInRange v) = true ↔ SettingsValid m v := by
  simp [markedPass, settingsInRange, SettingsValid, half_toNat_le, BitVec.getLsbD_eq_getElem, imp_iff_not_or]

section
variable {s : State} {k : Sta} {m : Half} {v : RawSettings}

theorem serveStationSet_of_le {i : Byte} (h : 32 ≤ i.toNat) : serveStationSet i m v s = Answer.refused .badValue s :=
  withStation_of_le h s _

theorem serveStationSet_outside_setup (hg : s.group.state ≠ .setup) :
    serveStationSet (byteOf k.val) m v s = Answer.refused .wrongState s := by
  simp [serveStationSet, hg]

theorem serveStationSet_of_homing_or_jogging (hg : s.group.state = .setup)
    (hm : (s.jack k).record.state = .homing ∨ (s.jack k).record.state = .jogging) :
    serveStationSet (byteOf k.val) m v s = Answer.refused .wrongState s := by
  simp [serveStationSet, hg, hm]

theorem serveStationSet_of_not_valid (hg : s.group.state = .setup) (hh : (s.jack k).record.state ≠ .homing)
    (hj : (s.jack k).record.state ≠ .jogging) (hv : ¬ SettingsValid m v) :
    serveStationSet (byteOf k.val) m v s = Answer.refused .badValue s := by
  rw [← markedPass_settingsInRange_iff, Bool.not_eq_true] at hv
  simp [serveStationSet, hg, hh, hj, hv]

theorem serveStationSet_of_valid (hg : s.group.state = .setup) (hh : (s.jack k).record.state ≠ .homing)
    (hj : (s.jack k).record.state ≠ .jogging) (hv : SettingsValid m v) :
    serveStationSet (byteOf k.val) m v s = Answer.done (s.updRec k (fun r => r.write m v)) [] := by
  rw [← markedPass_settingsInRange_iff] at hv
  simp [serveStationSet, hg, hh, hj, hv]

end

/-- A refused STATION_SET is answered behind the frames held and changes nothing. -/
theorem exec_stationSet_refuses {s : State} (h : Ready s) {tag i : Byte} {m : Half} {v : RawSettings} {o : ReplyOutcome}
    (hs : serveStationSet i m v s = Answer.refused o s) :
    exec (.stationSet tag i m v) s = .next (answered 0x83 tag o [] s) :=
  congrArg Host.Outcome.next (takeKind_refuses h hs)

/-- An accepted STATION_SET leaves the written record, and is answered DONE behind the frames held. -/
theorem exec_stationSet_writes {s : State} (h : Ready s) {tag i : Byte} {k : Sta} {m : Half} {v : RawSettings}
    (hs : serveStationSet i m v s = Answer.done (s.updRec k (fun r => r.write m v)) []) :
    exec (.stationSet tag i m v) s = .next (answered 0x83 tag .done [] (s.updRec k (fun r => r.write m v))) :=
  congrArg Host.Outcome.next (takeKind_done h hs rfl)

/-- Settles O29: the part's checks stand in the order of the statement's cases, and the record it leaves, `StationRec.write`,
is the one the statement writes out. -/
theorem stationSetWritesMarkedSettings : Obligations.StationSetWritesMarkedSettings := by
  intro tag m v s h
  refine ⟨fun i hi => ?badIndex, fun k => ⟨fun hg => ?outsideSetup, fun hg hm => ?moving, fun hg hh hj =>
    ⟨fun hv => ?invalid, fun hv => ?valid⟩⟩⟩
  case badIndex => exact exec_stationSet_refuses h (serveStationSet_of_le hi)
  case outsideSetup => exact exec_stationSet_refuses h (serveStationSet_outside_setup hg)
  case moving => exact exec_stationSet_refuses h (serveStationSet_of_homing_or_jogging hg hm)
  case invalid => exact exec_stationSet_refuses h (serveStationSet_of_not_valid hg hh hj hv)
  case valid => exact exec_stationSet_writes h (serveStationSet_of_valid hg hh hj hv)

/-! ### POWER_ON (R19, R54) -/

theorem exec_powerOn (p : PowerPins) (s : State) : exec (.powerOn p) s = .next { State.powered p with pending := s.pending } := rfl

/-- Settles O4: the commands that stay are those of the queue (log 31), and the state under them is `State.powered`, whose every value
the statement writes out. -/
theorem powerOnSetsEveryValue : Obligations.PowerOnSetsEveryValue := by
  intro p s
  refine ⟨s.pending, ?_⟩
  rw [exec_powerOn]
  rfl

end Sys2Proof.Machine

/-! PROOF. The statements of 06_group_operation.md: a group command's arrival (R94), and FAULTS_READ (R108). -/

namespace Sys2Proof.Machine

/-! ### A request without a reply (R94, R176) -/

theorem finishRequest_of_no_reply {u : State} (hu : u.line.raised = []) (cls : FrameClass) (kind tag : Byte) :
    finishRequest cls kind tag { state := u, reply := none } = u :=
  handOver_of_none hu

/-- A request that is not answered at once and raises no event leaves its effect alone. -/
theorem takeKind_silent {s u : State} (h : Ready s) (hu : u.line.raised = []) {kind tag : Byte} {serve : State → Answer}
    (hs : serve s = { state := u, reply := none }) : takeKind kind tag serve s = u := by
  rw [takeKind_of_ready h, hs, finishRequest_of_no_reply hu]

/-! ### The codes of the group commands (R94) -/

/-- R94's table of codes, as the statement writes it out. -/
def commandTable : List (Byte × GroupCommand) :=
  [(0x01, .setupDone), (0x02, .resetup), (0x03, .engage), (0x04, .run), (0x05, .continueRun), (0x06, .stop), (0x07, .resume),
   (0x08, .land), (0x09, .ackFaults), (0x0A, .clearLockout)]

theorem mem_commandTable {code : Byte} {c : GroupCommand} : (code, c) ∈ commandTable ↔ code = commandCode c := by
  cases c <;> simp [commandTable, commandCode]

@[simp] theorem commandOf_commandCode (c : GroupCommand) : commandOf (commandCode c) = some c := by
  cases c <;> rfl

theorem commandCode_of_commandOf {code : Byte} {c : GroupCommand} (h : commandOf code = some c) : code = commandCode c := by
  unfold commandOf at h
  split at h <;> cases h <;> exact BitVec.eq_of_toNat_eq ‹_›

/-- A code that R94's table does not have names no command. -/
theorem commandOf_eq_none {code : Byte} (h : ∀ p ∈ commandTable, p.1 ≠ code) : commandOf code = none := by
  by_contra hn
  obtain ⟨c, hc⟩ := Option.ne_none_iff_exists'.mp hn
  exact h (code, c) (mem_commandTable.mpr (commandCode_of_commandOf hc)) rfl

/-! ### A group command arrives (R94) -/

theorem exec_row_arrival (c : GroupCommand) (tag : Byte) (s : State) :
    exec (c.row (.arrival tag)) s = .next (takeKind 0x40 tag (serveCommand tag c) s) := by
  cases c <;> rfl

theorem serveGroupCommand_commandCode (tag : Byte) (c : GroupCommand) :
    serveGroupCommand tag (commandCode c) = serveCommand tag c := by
  funext s
  rw [serveGroupCommand, commandOf_commandCode]

theorem serveGroupCommand_of_unknown {code : Byte} (h : commandOf code = none) (tag : Byte) (s : State) :
    serveGroupCommand tag code s = { state := s, reply := some (immediateReply .badValue code s) } := by
  rw [serveGroupCommand, h]

theorem serveCommand_of_empty {s : State} (h : s.group.slot = none) (tag : Byte) (c : GroupCommand) :
    serveCommand tag c s = { state := fillSlot { tag := tag, command := c } s, reply := none } := by
  rw [serveCommand, h]

theorem serveCommand_of_occupied {s : State} (h : s.group.slot.isSome = true) (tag : Byte) (c : GroupCommand) :
    serveCommand tag c s = { state := s, reply := some (immediateReply .busy (commandCode c) s) } := by
  obtain ⟨w, hw⟩ := Option.isSome_iff_exists.mp h
  rw [serveCommand, hw]

/-- A command that finds the slot empty is placed there with its tag, and is not answered. -/
theorem takeKind_places {s : State} (h : Ready s) (hs : s.group.slot = none) (tag : Byte) (c : GroupCommand) :
    takeKind 0x40 tag (serveCommand tag c) s = fillSlot { tag := tag, command := c } s :=
  takeKind_silent (u := fillSlot { tag := tag, command := c } s) h h.2.2 (serveCommand_of_empty hs tag c)

/-- A GROUP_COMMAND that is not placed changes nothing but the queue, where its reply names its code and the cycle. -/
theorem takeKind_immediateReply {s : State} (h : Ready s) {tag code : Byte} {serve : State → Answer} {o : ReplyOutcome}
    (hs : serve s = { state := s, reply := some (immediateReply o code s) }) :
    takeKind 0x40 tag serve s = answered 0xC0 tag o [0, 0, code, s.group.cycle] s :=
  takeKind_answers h h.2.2 hs

/-- Settles O41: the code decides between BAD_VALUE and the command it names, and the slot between placing that command and BUSY. -/
theorem groupCommandsWaitInTheSlot : Obligations.GroupCommandsWaitInTheSlot := by
  intro code tag s h
  refine ⟨fun hn => ?unknown, fun c hc => ?known⟩
  case unknown => exact takeKind_immediateReply h (serveGroupCommand_of_unknown (commandOf_eq_none hn) tag s)
  case known =>
    obtain rfl := mem_commandTable.mp hc
    rw [exec_row_arrival, takeRequest, serveGroupCommand_commandCode]
    refine ⟨rfl, fun hs => ?empty, fun hs => ?occupied⟩
    case empty => exact congrArg Host.Outcome.next (takeKind_places h hs tag c)
    case occupied => exact congrArg Host.Outcome.next (takeKind_immediateReply h (serveCommand_of_occupied hs tag c))

/-! ### FAULTS_READ (R108) -/

/-- The class byte of an entry by R107: lockout for RUNAWAY, conditional for the kinds whose condition can last, else latched. -/
theorem byteOf_classOf (k : FaultKind) :
    byteOf (classOf k) = if k = .runaway then 2
      else if k ∈ [.overload, .loadLoss, .loadSilent, .travelLimit, .twist, .coupling] then 1 else 0 := by
  cases k <;> rfl

theorem takeKind_faultsRead {s : State} (h : Ready s) (tag : Byte) :
    takeKind 0x11 tag serveFaultsRead s = answered 0x91 tag .done (faultsContent s) s :=
  takeKind_done h rfl rfl

/-- Settles O28: the reply is the list's content byte by byte, with `byteOf_classOf` for the class of each entry. -/
theorem faultsReadListsTheFaults : Obligations.FaultsReadListsTheFaults := by
  intro tag s h
  simp only [← byteOf_classOf]
  exact congrArg Host.Outcome.next (takeKind_faultsRead h tag)

end Sys2Proof.Machine

/-! PROOF. What every piece of work of the part keeps (the invariants of Safety.lean): its rules, and the line controller. -/

namespace Sys2Proof.Machine

-- One theorem after another, as in the tests: a thread each for this many proofs would pass the memory limit.
set_option Elab.async false

/-! ### What every piece of work keeps -/

/-- A generator at rest: IDLE, with nothing waiting to start it. -/
def Generator.AtRest (g : Generator) : Prop := g.run = .idle ∧ g.pending = none

/-- Every generator is at rest. -/
def GensAtRest (s : State) : Prop := ∀ k, (s.jack k).gen.AtRest

/-- Every brake is APPLIED. -/
def BrakesApplied (s : State) : Prop := ∀ k, (s.jack k).gen.brake = .applied

/-- What every piece of work of the part keeps, POWER_ON, a warm reset and a permit change apart: the queue of commands, the pins and the
permit level, each invariant of Safety.lean that one step keeps, the generators at rest where none may run (while RESET_N is high), the
brakes APPLIED where the permit is low, and, unless it may `edit` it, the configuration. -/
structure Kept (edit : Prop) (s t : State) : Prop where
  commands : t.pending = s.pending := by rfl
  pins : t.pins = s.pins := by rfl
  permit : t.group.permit = s.group.permit := by rfl
  queue : QueueSafe s → QueueSafe t := by exact id
  records : PendingSafe s → PendingSafe t := by exact id
  faults : FaultListSafe s → FaultListSafe t := by exact id
  plan : PlanSafe s → PlanSafe t := by exact id
  gens : GeneratorsSafe s → GeneratorsSafe t := by exact id
  tallies : TalliesSafe s → TalliesSafe t := by exact id
  rest : s.pins.resetAsserted = false → (generatorsHeld s = true → GensAtRest s) → generatorsHeld t = true → GensAtRest t := by
    exact fun _ h => h
  applied : s.group.permit = false → BrakesApplied s → BrakesApplied t := by exact fun _ h => h
  group : GroupSafe s → GroupSafe t := by exact id
  config : ¬ edit → configuration t = configuration s := by exact fun _ => rfl

variable {edit : Prop} {s t u : State}

theorem Kept.refl (s : State) : Kept edit s s := {}

theorem Kept.trans (h : Kept edit s t) (g : Kept edit t u) : Kept edit s u where
  commands := g.commands.trans h.commands
  pins := g.pins.trans h.pins
  permit := g.permit.trans h.permit
  queue := g.queue ∘ h.queue
  records := g.records ∘ h.records
  faults := g.faults ∘ h.faults
  plan := g.plan ∘ h.plan
  gens := g.gens ∘ h.gens
  tallies := g.tallies ∘ h.tallies
  rest := fun hr hs => g.rest (by rw [h.pins]; exact hr) (h.rest hr hs)
  applied := fun hp hs => g.applied (by rw [h.permit]; exact hp) (h.applied hp hs)
  group := g.group ∘ h.group
  config := fun hn => (g.config hn).trans (h.config hn)

/-- Work carried out for every station in turn keeps what it keeps for one. -/
theorem Kept.forStations {f : Sta → State → State} (h : ∀ k t, Kept edit t (f k t)) (s : State) :
    Kept edit s (forStations f s) :=
  forStations_keeps (P := fun t => Kept edit s t) (fun k t ht => ht.trans (h k t)) (.refl s)

/-- Work carried out for each element of a list in turn keeps what it keeps for one. -/
theorem Kept.foldl {α : Type} {f : State → α → State} (h : ∀ t x, Kept edit t (f t x)) (l : List α) (s : State) :
    Kept edit s (l.foldl f s) := by
  induction l generalizing s with
  | nil => exact .refl s
  | cons x l ih => exact (h s x).trans (ih _)

/-! ### The line controller -/

theorem Kept.raise (e : Event) (s : State) : Kept edit s (raise e s) := {}

/-- Work on the line controller alone keeps everything but the queue and the pending set, which it has to keep itself. -/
theorem Kept.of_line {l : Line} (hq : QueueSafe s → QueueSafe { s with line := l })
    (hp : PendingSafe s → PendingSafe { s with line := l }) : Kept edit s { s with line := l } where
  queue := hq
  records := hp

/-- A frame that is no snapshot notice, admitted while fewer than 7 are held, keeps the queue in form. -/
theorem QueueSafe.enqueue {f : Frame} (hf : f.cls ≠ .snapshotNotice) (hl : s.line.queue.length < 7) (h : QueueSafe s) :
    QueueSafe (enqueue f s) := by
  obtain ⟨-, -, hc⟩ := h
  refine ⟨?_, fun _ => ?_, ?_⟩
  · rw [enqueue_line_queue, List.length_append]; simp; omega
  · rw [enqueue_line_queue, List.length_append]; simp; omega
  · rw [enqueue_line_queue, List.countP_append]; simpa [Frame.isSnapshot, hf] using hc

theorem Kept.enqueue {f : Frame} (hf : f.cls ≠ .snapshotNotice) (hl : s.line.queue.length < 7) : Kept edit s (enqueue f s) :=
  .of_line (.enqueue hf hl) id

/-- The priorities of the pending set, which it stands in order of. -/
def priorities (l : List PendingEvent) : List Nat := l.map (fun p => p.raised.event.priority)

theorem mem_priorities_insertPending {p : PendingEvent} {n : Nat} {l : List PendingEvent} :
    n ∈ priorities (insertPending p l) ↔ n = p.raised.event.priority ∨ n ∈ priorities l := by
  induction l with
  | nil => simp [insertPending, priorities]
  | cons q l ih =>
    simp only [insertPending]
    split
    · simp [priorities]
    · simp only [priorities, List.map_cons, List.mem_cons] at ih ⊢
      rw [ih]
      tauto

/-- A record of a kind not pending, put in its place, leaves the set in order. -/
theorem pairwise_insertPending {p : PendingEvent} {l : List PendingEvent} (hl : (priorities l).Pairwise (· < ·))
    (hp : p.raised.event.priority ∉ priorities l) : (priorities (insertPending p l)).Pairwise (· < ·) := by
  induction l with
  | nil => simp [insertPending, priorities]
  | cons q l ih =>
    simp only [priorities, List.map_cons, List.pairwise_cons, List.mem_cons, not_or] at hl hp
    simp only [insertPending]
    split
    · rename_i h
      simp only [priorities, List.map_cons, List.pairwise_cons, List.mem_cons]
      refine ⟨fun n hn => ?_, hl⟩
      obtain rfl | hn := hn
      · exact h
      · exact h.trans (hl.1 n hn)
    · rename_i h
      have hr := ih hl.2 hp.2
      simp only [priorities, List.map_cons, List.pairwise_cons] at hr ⊢
      refine ⟨fun n hn => ?_, hr⟩
      obtain rfl | hn := mem_priorities_insertPending.mp hn
      · omega
      · exact hl.1 n hn

theorem not_mem_priorities {e : Event} {l : List PendingEvent} (h : l.any (fun p => sameKind p.raised.event e) = false) :
    e.priority ∉ priorities l := by
  simpa [priorities, sameKind] using h

theorem Kept.handEvent (r : Raised) (s : State) : Kept edit s (handEvent r s) := by
  obtain ⟨-, e⟩ | ⟨-, -, hq, e⟩ | ⟨hn, -, e⟩ := handEvent_cases r s
  · rw [e]
    refine .of_line id (fun h => ?_)
    have hmap : priorities (s.line.pending.map fun p => if sameKind p.raised.event r.event then { p with more := true } else p) =
        priorities s.line.pending := by
      simp only [priorities, List.map_map]
      exact List.map_congr_left fun p _ => by simp only [Function.comp]; split <;> rfl
    show (priorities _).Pairwise _
    rw [hmap]
    exact h
  · rw [e]
    exact .enqueue (by simp [eventFrame]) (by omega)
  · rw [e]
    exact .of_line id fun h => pairwise_insertPending h (not_mem_priorities hn)

theorem Kept.handOver (s : State) : Kept edit s (handOver s) :=
  (Kept.of_line (s := s) (l := { s.line with raised := [] }) id id).trans (Kept.foldl (fun t r => .handEvent r t) _ _)

theorem Kept.moveOne (s : State) : Kept edit s (moveOne s) := by
  unfold Machine.moveOne
  split_ifs with hq
  · split
    · exact .refl s
    · rename_i p _
      have hfilter : Kept edit s
          (setPendingEvents (s.line.pending.filter fun q => !sameKind q.raised.event p.raised.event) s) :=
        .of_line id fun h => h.sublist (List.filter_sublist.map _)
      exact hfilter.trans (.enqueue (by simp [eventFrame]) (by
        have : s.line.queue.length < 5 := hq
        simp only [setPendingEvents_line_queue]
        omega))
  · exact .refl s

theorem Kept.iterate {f : State → State} (h : ∀ t, Kept edit t (f t)) (n : Nat) (s : State) : Kept edit s (f^[n] s) := by
  induction n generalizing s with
  | zero => exact .refl s
  | succ n ih => exact (h s).trans (ih _)

theorem Kept.movePending (s : State) : Kept edit s (movePending s) := .iterate .moveOne _ s

theorem countP_map_snapshot (f : Frame) (l : List Frame) (hf : f.isSnapshot = true) :
    (l.map fun g => if g.cls == .snapshotNotice then f else g).countP Frame.isSnapshot = l.countP Frame.isSnapshot := by
  rw [List.countP_map]
  refine List.countP_congr fun g _ => ?_
  simp only [Function.comp]
  split
  · rename_i h; rw [hf, Frame.isSnapshot, h]
  · rfl

theorem Kept.placeSnapshot (s : State) : Kept edit s (placeSnapshot s) := by
  unfold Machine.placeSnapshot
  split
  · rename_i hq
    refine .of_line (fun _ => ?_) id
    simp [QueueSafe, hq, Frame.isSnapshot, snapshotFrame]
  · rename_i sending waiting hq
    split_ifs with hs hw hl
    · exact .refl s
    · refine .of_line (fun h => ?_) id
      obtain ⟨h1, h2, h3⟩ := h
      rw [hq] at h1 h2 h3
      refine ⟨by simpa using h1, fun hc => by simpa using h2 hc, ?_⟩
      show (sending :: waiting.map fun f => if f.cls == .snapshotNotice then snapshotFrame s else f).countP Frame.isSnapshot ≤ 1
      rw [List.countP_cons, countP_map_snapshot _ _ rfl, ← List.countP_cons]
      exact h3
    · refine .of_line (fun h => ?_) id
      have hl : s.line.queue.length < 5 := hl
      have hnone : s.line.queue.countP Frame.isSnapshot = 0 := by
        rw [hq, List.countP_eq_zero]
        intro f hf
        obtain rfl | hf := List.mem_cons.mp hf
        · simpa [Frame.isSnapshot] using hs
        · simp only [List.any_eq_true, not_exists, not_and] at hw
          exact hw f hf
      refine ⟨?_, fun _ => ?_, ?_⟩
      · rw [List.length_append]; simp; omega
      · rw [List.length_append]; simp; omega
      · rw [List.countP_append, hnone, List.countP_singleton]
        split <;> omega
    · exact .refl s

theorem Kept.setStreamCount (n : Nat) (s : State) : Kept edit s (setStreamCount n s) := .of_line id id

theorem Kept.streamSnapshot (s : State) : Kept edit s (streamSnapshot s) := (Kept.setStreamCount 0 s).trans (.placeSnapshot _)

theorem Kept.streamWork (s : State) : Kept edit s (streamWork s) := by
  unfold Machine.streamWork
  split_ifs
  · exact .streamSnapshot s
  · exact .refl s
  · exact .setStreamCount _ s

theorem Kept.setAssembler (a : Assembler) (s : State) : Kept edit s (setAssembler a s) := .of_line id id

end Sys2Proof.Machine

/-! PROOF. What every piece of work keeps: the stations, their records and their generators. -/

namespace Sys2Proof.Machine

-- One theorem after another, as in the tests: a thread each for this many proofs would pass the memory limit.
set_option Elab.async false

/-! ### The stations -/

/-- The station seeks or confirms contact. -/
def StationRec.Seeks (r : StationRec) : Prop := r.state = .seeking ∨ r.state = .confirming

/-- A change of a station record, made in group state `g`, that keeps the record in form: it begins to seek in ENGAGING alone, and takes a
contact height only from seeking or confirming. -/
structure RecordKept (g : GroupState) (r r' : StationRec) : Prop where
  safe : RecordSafe r → RecordSafe r' := by exact id
  seeks : r'.Seeks → r.Seeks ∨ g = .engaging := by exact .inl
  contact : r.contact = none → r'.contact = none ∨ r.Seeks := by exact .inl

/-- The settings that STATION_SET alone writes. -/
def StationRec.config (r : StationRec) : Settings := { r.settings with offset := 0 }

/-- A change of one station, made in state `s`, that keeps what `Kept` names. -/
structure JackKept (edit : Prop) (s : State) (j j' : Jack) : Prop where
  gen : GeneratorSafe j.gen → GeneratorSafe j'.gen := by exact id
  counts : CountsSafe j → CountsSafe j' := by exact id
  rest : s.pins.resetAsserted = false → generatorsHeld s = true → j.gen.AtRest → j'.gen.AtRest := by exact fun _ _ h => h
  brake : s.group.permit = false → j.gen.brake = .applied → j'.gen.brake = .applied := by exact fun _ h => h
  record : RecordKept s.group.state j.record j'.record := by exact {}
  config : ¬ edit → j'.record.config = j.record.config := by exact fun _ => rfl

variable {edit : Prop} {s t u : State} {j j' : Jack} {k : Sta}

theorem RecordKept.refl {g : GroupState} (r : StationRec) : RecordKept g r r := {}

theorem JackKept.refl (j : Jack) : JackKept edit s j j := {}

/-- Where every station is kept in form, the state is. -/
theorem Kept.of_jacks {js : PerStation Jack} (h : ∀ k, JackKept edit s (s.jack k) (js.get k)) :
    Kept edit s { s with jacks := js } where
  gens := fun hs k => (h k).gen (hs k)
  tallies := fun hs k => (h k).counts (hs k)
  rest := fun hr hs hh k => (h k).rest hr hh (hs hh k)
  applied := fun hp hs k => (h k).brake hp (hs k)
  group := by
    rintro ⟨hrec, hseek, hval, hcon, href⟩
    refine ⟨fun k => (h k).record.safe (hrec k), fun k hk => ?_, hval, fun hg k => ?_, href⟩
    · exact ((h k).record.seeks hk).elim (hseek k) id
    · refine ((h k).record.contact (hcon hg k)).resolve_right fun hk => ?_
      have he := hseek k hk
      rcases hg with hg | hg | hg
      · rw [he] at hg; cases hg
      · rw [he] at hg; cases hg
      · rcases hval hg with hg | hg <;> rw [he] at hg <;> cases hg
  config := fun hn => Prod.ext rfl (List.map_congr_left fun k _ => (h k).config hn)

theorem Kept.updAll {f : Sta → Jack → Jack} (h : ∀ k, JackKept edit s (s.jack k) (f k (s.jack k))) : Kept edit s (s.updAll f) :=
  .of_jacks fun k => by rw [PerStation.get_mapAll]; exact h k

theorem Kept.updJack {f : Jack → Jack} (h : JackKept edit s (s.jack k) (f (s.jack k))) : Kept edit s (s.updJack k f) :=
  .of_jacks fun i => by
    rw [PerStation.get_modify]
    split
    · rename_i e; subst e; exact h
    · exact .refl _

theorem Kept.updRec {f : StationRec → StationRec} (h : RecordKept s.group.state (s.jack k).record (f (s.jack k).record))
    (hc : ¬ edit → (f (s.jack k).record).config = (s.jack k).record.config) : Kept edit s (s.updRec k f) :=
  .updJack { record := h, config := hc }

/-! ### Generators -/

/-- A change of a generator that keeps its form, and keeps it at rest where it is. -/
structure GenKept (g g' : Generator) : Prop where
  safe : GeneratorSafe g → GeneratorSafe g'
  rest : g.AtRest → g'.AtRest
  brake : g'.brake = g.brake

theorem JackKept.of_gen {g : Generator} (h : GenKept j.gen g) : JackKept edit s j { j with gen := g } where
  gen := h.safe
  rest := fun _ _ => h.rest
  brake := fun _ hb => h.brake.trans hb

theorem Kept.updGen {f : Generator → Generator} (h : GenKept (s.jack k).gen (f (s.jack k).gen)) : Kept edit s (s.updGen k f) :=
  .updJack (.of_gen h)

theorem divisorSafe_divisorOf (mag kStep : Nat) : DivisorSafe (divisorOf mag kStep) := by
  unfold DivisorSafe divisorOf Divisor.length
  generalize rawDivisor mag kStep = x
  simp only
  omega

theorem pendingValueSafe_convertRate (r : Int) (kStep : Nat) : PendingValueSafe (convertRate r kStep) := by
  unfold convertRate
  split
  · trivial
  · exact divisorSafe_divisorOf _ _

/-- Neither of the two levels of STEP and DIR, nor the direction, nor the brake and the ceiling mark, bear on a generator's form. -/
theorem GeneratorSafe.congr {g g' : Generator} (h : GeneratorSafe g) (hr : g'.run = g.run) (hd : g'.divisor = g.divisor)
    (hp : g'.pending = g.pending) (hn : g'.remaining = g.remaining) : GeneratorSafe g' := by
  unfold GeneratorSafe Generator.running at *
  rw [hr, hd, hp, hn]
  exact h

theorem Generator.turn_remaining (g : Generator) (d : Dir) : (g.turn d).remaining = g.remaining := by
  unfold Generator.turn; split <;> rfl
theorem Generator.turn_brake (g : Generator) (d : Dir) : (g.turn d).brake = g.brake := by unfold Generator.turn; split <;> rfl

theorem Generator.startRate_brake (g : Generator) (d : Divisor) (dir : Dir) : (g.startRate d dir).brake = g.brake := g.turn_brake dir
theorem Generator.startMove_brake (g : Generator) (d : Divisor) (dir : Dir) (n : Nat) : (g.startMove d dir n).brake = g.brake :=
  g.turn_brake dir

theorem generatorSafe_startRate {g : Generator} {d : Divisor} (dir : Dir) (hd : DivisorSafe d) (hn : g.remaining = 0) :
    GeneratorSafe (g.startRate d dir) :=
  ⟨rfl, fun _ h => by cases h; exact hd, fun _ h => (by cases h), fun h => (by cases h), fun _ => (g.turn_remaining dir).trans hn⟩

theorem generatorSafe_startMove {d : Divisor} (g : Generator) (dir : Dir) (n : Nat) (hd : DivisorSafe d) :
    GeneratorSafe (g.startMove d dir n) :=
  ⟨rfl, fun _ h => by cases h; exact hd, fun _ h => (by cases h), fun h => (by cases h), fun h => absurd rfl h⟩

theorem generatorSafe_rest (g : Generator) : GeneratorSafe g.rest :=
  ⟨rfl, fun _ h => (by cases h), fun _ h => (by cases h), fun _ => rfl, fun _ => rfl⟩

theorem generatorSafe_hand {g : Generator} {v : PendingValue} (hg : GeneratorSafe g) (hv : PendingValueSafe v) :
    GeneratorSafe (g.hand v) := by
  obtain ⟨hdiv, hsafe, hpend, hidle, hrem⟩ := hg
  obtain e | ⟨w, hr, e, rfl⟩ | ⟨d, dir, hr, rfl, e⟩ | ⟨d, dir, n, hr, rfl, e⟩ := g.hand_cases v <;> rw [e]
  · exact ⟨hdiv, hsafe, hpend, hidle, hrem⟩
  · exact ⟨hdiv, hsafe, fun _ h => by cases h; exact hv, fun h => absurd h hr, hrem⟩
  · exact generatorSafe_startRate dir hv (hrem (by rw [hr]; decide))
  · exact generatorSafe_startMove g dir n hv

theorem not_atRest {g : Generator} {r : RunState} (hr : g.run = r) (h : r ≠ .idle) : ¬ g.AtRest := fun hg => h (hr ▸ hg.1)

theorem GenKept.complete (g : Generator) : GenKept g g.complete := by
  obtain ⟨hr, e⟩ | ⟨hr, hp, e⟩ | ⟨hr, hp, e⟩ | ⟨d, dir, hr, hp, e⟩ | ⟨d, dir, n, hr, hp, e⟩ | ⟨hr, hn, e⟩ | ⟨d, dir, n, hr, hn, hp, e⟩ |
    ⟨hr, hn, e⟩ := g.complete_cases <;> rw [e]
  · exact ⟨id, id, rfl⟩
  · exact ⟨id, id, rfl⟩
  · exact ⟨fun _ => generatorSafe_rest _, fun h => absurd h (not_atRest hr (by decide)), rfl⟩
  · exact ⟨fun h => generatorSafe_startRate dir (h.2.2.1 _ hp) (h.2.2.2.2 (by rw [hr]; decide)),
      fun h => absurd h (not_atRest hr (by decide)), Generator.startRate_brake _ _ _⟩
  · exact ⟨fun h => generatorSafe_startMove _ dir n (h.2.2.1 _ hp), fun h => absurd h (not_atRest hr (by decide)),
      Generator.startMove_brake _ _ _ _⟩
  · refine ⟨fun h => ?_, id, rfl⟩
    obtain ⟨h1, h2, h3, h4, -⟩ := h
    exact ⟨h1, h2, h3, h4, fun h => absurd hr h⟩
  · exact ⟨fun h => generatorSafe_startMove _ dir n (h.2.2.1 _ hp), fun h => absurd h (not_atRest hr (by decide)),
      Generator.startMove_brake _ _ _ _⟩
  · exact ⟨fun _ => generatorSafe_rest _, fun h => absurd h (not_atRest hr (by decide)), rfl⟩

/-- The stop form, case by case (R47): an IDLE generator is left alone, a move waiting in RATE becomes the stop value, the steps of a move
under way become 0. -/
theorem Generator.stopForm_cases (g : Generator) :
    (g.run ≠ .counted ∧ g.stopForm = g) ∨ (g.run = .rate ∧ g.stopForm = { g with pending := some .stop }) ∨
      (g.run = .counted ∧ g.stopForm = { g with remaining := 0, pending := none }) := by
  obtain ⟨run, divisor, dir, pending, remaining, ceiling, brake, stepHigh, dirHigh⟩ := g
  cases run
  · exact .inl ⟨by simp, rfl⟩
  · rcases pending with - | (_ | _ | _)
    · exact .inl ⟨by simp, rfl⟩
    · exact .inl ⟨by simp, rfl⟩
    · exact .inl ⟨by simp, rfl⟩
    · exact .inr (.inl ⟨rfl, rfl⟩)
  · exact .inr (.inr ⟨rfl, rfl⟩)

theorem GenKept.stopForm (g : Generator) : GenKept g g.stopForm := by
  obtain ⟨-, e⟩ | ⟨hr, e⟩ | ⟨hr, e⟩ := g.stopForm_cases <;> rw [e]
  · exact ⟨id, id, rfl⟩
  · refine ⟨fun ⟨h1, h2, h3, h4, h5⟩ => ⟨h1, h2, fun v hv => ?_, fun h => ?_, h5⟩, fun h => absurd h (not_atRest hr (by decide)), rfl⟩
    · cases hv; trivial
    · rw [hr] at h; cases h
  · exact ⟨fun ⟨h1, h2, _, _, _⟩ => ⟨h1, h2, fun _ hv => (by cases hv), fun _ => rfl, fun _ => rfl⟩,
      fun h => absurd h (not_atRest hr (by decide)), rfl⟩

/-- An abandoned generator is at rest (R48). -/
theorem Generator.abandon_atRest (g : Generator) : g.abandon.AtRest := by
  unfold Generator.abandon Generator.AtRest
  split
  · rename_i h; exact ⟨h, rfl⟩
  · exact ⟨rfl, rfl⟩

theorem Generator.abandon_brake (g : Generator) : g.abandon.brake = g.brake := by
  unfold Generator.abandon; split <;> rfl

theorem generatorSafe_abandon {g : Generator} (h : GeneratorSafe g) : GeneratorSafe g.abandon := by
  unfold Generator.abandon
  split
  · obtain ⟨h1, h2, -, -, h5⟩ := h
    exact ⟨h1, h2, fun _ hv => (by cases hv), fun _ => rfl, h5⟩
  · exact (generatorSafe_rest g).congr rfl rfl rfl rfl

theorem GenKept.abandon (g : Generator) : GenKept g g.abandon :=
  ⟨generatorSafe_abandon, fun _ => g.abandon_atRest, g.abandon_brake⟩

theorem GenKept.pulseEnd (g : Generator) : GenKept g g.pulseEnd := by
  unfold Generator.pulseEnd
  split
  · exact ⟨fun h => h.congr rfl rfl rfl rfl, id, rfl⟩
  · exact ⟨id, id, rfl⟩

theorem Generator.hand_brake (g : Generator) (v : PendingValue) : (g.hand v).brake = g.brake := by
  obtain e | ⟨w, -, e, -⟩ | ⟨d, dir, -, -, e⟩ | ⟨d, dir, n, -, -, e⟩ := g.hand_cases v <;> rw [e]
  · exact g.startRate_brake d dir
  · exact g.startMove_brake d dir n

/-- A value handed to a generator, unless generators are held (R48, R49), with the ceiling mark set. -/
theorem JackKept.hand (j : Jack) {r : Int} {c : Bool} {v : PendingValue} (hv : PendingValueSafe v) :
    JackKept edit s j { j with
      rate := r
      gen := if generatorsHeld s then { j.gen with ceiling := c } else { j.gen with ceiling := c }.hand v } where
  gen := fun h => by
    have hc : GeneratorSafe { j.gen with ceiling := c } := h.congr rfl rfl rfl rfl
    simp only
    split
    · exact hc
    · exact generatorSafe_hand hc hv
  rest := fun _ hh h => by simp only [hh, if_true]; exact h
  brake := fun _ h => by
    simp only
    split
    · exact h
    · exact (Generator.hand_brake _ _).trans h

theorem Kept.handRate (k : Sta) (r : Int) (s : State) : Kept edit s (handRate k r s) :=
  .updJack (.hand _ (pendingValueSafe_convertRate r _))

theorem Kept.orderMove (k : Sta) (rate : Nat) (dir : Dir) (n : Nat) (s : State) : Kept edit s (orderMove k rate dir n s) :=
  .updJack (.hand (r := (s.jack k).rate) _ (divisorSafe_divisorOf _ _))

theorem Kept.clearRates (s : State) : Kept edit s (clearRates s) :=
  .updAll fun _ => { gen := fun h => h.congr rfl rfl rfl rfl }

theorem Kept.recordRate (k : Sta) (r : Int) (s : State) : Kept edit s (recordRate k r s) := .updJack {}

theorem Kept.formErrors (s : State) : Kept edit s (formErrors s) := .updAll fun _ => {}

theorem Kept.settleBrakes (s : State) : Kept edit s (settleBrakes s) :=
  .updAll fun _ => { gen := fun h => h.congr rfl rfl rfl rfl, brake := fun hp _ => by simp [settledBrake, hp] }

/-- The start of a calibration, of a slip gate and of a rest count bear on no saturating count. -/
theorem Kept.abandonAll (s : State) : Kept edit s (abandonAll s) :=
  .updAll fun k => by
    by_cases h : (s.jack k).gen.running = true
    · simp only [h, if_true]
      exact { gen := generatorSafe_abandon, rest := fun _ _ _ => Generator.abandon_atRest _,
              brake := fun _ hb => (Generator.abandon_brake _).trans hb }
    · simp only [h]
      exact .of_gen (.abandon _)

theorem Kept.latchAllRest (s : State) : Kept edit s (latchAllRest s) := .updAll fun _ => {}

end Sys2Proof.Machine

/-! PROOF. What every piece of work keeps: the group controller, the reference and the end of counted moves. -/

namespace Sys2Proof.Machine

-- One theorem after another, as in the tests: a thread each for this many proofs would pass the memory limit.
set_option Elab.async false

variable {edit : Prop} {s t u : State} {k : Sta}

/-! ### Group, reference, plan and cars -/

/-- An update of the group that leaves its state, its permit, its slot, its faults and its parameters keeps everything. -/
theorem Kept.of_group {g : Group} (hstate : g.state = s.group.state := by rfl) (hvalidated : g.validated = s.group.validated := by rfl)
    (hpermit : g.permit = s.group.permit := by rfl) (hslot : g.slot = s.group.slot := by rfl)
    (hfaults : g.faults = s.group.faults := by rfl) (hoverflow : g.overflow = s.group.overflow := by rfl)
    (hparams : g.params = s.group.params := by rfl) : Kept edit s { s with group := g } where
  permit := hpermit
  queue := fun h => by unfold QueueSafe at *; simpa only [hslot] using h
  faults := fun h => by unfold FaultListSafe at *; simpa only [hfaults, hoverflow] using h
  rest := fun _ h => by unfold generatorsHeld at *; simp only [hpermit, hstate]; exact h
  group := fun h => by unfold GroupSafe at *; simp only [hstate, hvalidated, hparams]; exact h

theorem Kept.setCause (c : StopCause) (s : State) : Kept edit s (setCause c s) := .of_group

theorem Kept.clearWait (s : State) : Kept edit s (clearWait s) := .of_group

theorem Kept.advanceCycle (s : State) : Kept edit s (advanceCycle s) := .of_group

/-- The reference stands where the group's state lets it. -/
def RefSafe (g : Group) (ref : Int) : Prop :=
  (g.state = .setup ∨ g.state = .prepared → ref = 0) ∧ 0 ≤ ref ∧ ref ≤ 100 * (g.params.lMax : Int)

/-- An update of the synchronisation unit that keeps the plan position and leaves the reference where it may stand. -/
theorem Kept.of_sync {y : Sync} (hp : y.planPos = s.sync.planPos := by rfl)
    (hr : GroupSafe s → RefSafe s.group y.ref := by exact fun h => h.2.2.2.2) : Kept edit s { s with sync := y } where
  plan := fun h => by unfold PlanSafe at *; simpa only [Plan.activeBank, hp] using h
  group := fun h => by
    have hr := hr h
    obtain ⟨h1, h2, h3, h4, -⟩ := h
    exact ⟨h1, h2, h3, h4, hr⟩

theorem Kept.clearReference (s : State) : Kept edit s (clearReference s) :=
  .of_sync rfl fun h => ⟨fun _ => rfl, le_refl _, by simp⟩

theorem Kept.freezeReference (s : State) : Kept edit s (freezeReference s) := .of_sync

theorem Kept.endDescent (s : State) : Kept edit s (endDescent s) := .of_sync

theorem Kept.haltReference (s : State) : Kept edit s (haltReference s) :=
  ((Kept.freezeReference s).trans (.clearWait _)).trans (.endDescent _)

theorem Kept.setWait (n : Nat) (w : Bool) (s : State) : Kept edit s (setWait n w s) :=
  (Kept.of_sync (s := s) (y := { s.sync with waiting := w })).trans
    (.of_group (g := { s.group with waitCount := n }))

theorem Kept.forceReference (s : State) : Kept edit s (forceReference s) := .of_sync

theorem Kept.beginDescent (s : State) : Kept edit s (beginDescent s) := .of_sync

/-- An update of the plan store and of the plan's items of the synchronisation unit, the reference kept. -/
theorem Kept.of_plan {p : Plan} {y : Sync} (hr : y.ref = s.sync.ref)
    (hp : PlanSafe s → PlanSafe { s with plan := p, sync := y }) : Kept edit s { s with plan := p, sync := y } where
  plan := hp
  group := fun h => by
    obtain ⟨h1, h2, h3, h4, h5⟩ := h
    refine ⟨h1, h2, h3, h4, ?_⟩
    rw [← hr] at h5
    exact h5

/-- An update of the cars' marks. -/
theorem Kept.of_cars {l : List Car} (h : l.map Car.config = s.cars.map Car.config) : Kept edit s { s with cars := l } where
  config := fun _ => Prod.ext h rfl

theorem map_config_modify {f : Car → Car} (h : ∀ c, (f c).config = c.config) (i : Nat) (l : List Car) :
    (l.modify i f).map Car.config = l.map Car.config := by
  induction l generalizing i with
  | nil => simp
  | cons c l ih => cases i with
    | zero => simp [h]
    | succ i => simp [ih]

theorem Kept.updCar (i : Nat) {f : Car → Car} (h : ∀ c, (f c).config = c.config) (s : State) : Kept edit s (s.updCar i f) :=
  .of_cars (map_config_modify h i s.cars)

theorem Kept.armWarnings (s : State) : Kept edit s (armWarnings s) :=
  .of_cars (by rw [List.map_map]; rfl)

/-! ### The group's passages -/

theorem GroupSafe.validated (h : GroupSafe s) (hs : s.group.state ≠ .setup) (hl : s.group.state ≠ .lockedOut) :
    s.group.validated = true := by
  by_contra hv
  obtain ⟨-, -, hval, -⟩ := h
  exact (hval (by simpa using hv)).elim hs hl

theorem GroupSafe.not_seeks (h : GroupSafe s) (hs : s.group.state ≠ .engaging) (k : Sta) : ¬ (s.jack k).record.Seeks :=
  fun hk => hs (h.2.1 k hk)

theorem GroupSafe.record (h : GroupSafe s) (k : Sta) : RecordSafe (s.jack k).record := h.1 k

theorem GroupSafe.refSafe (h : GroupSafe s) : RefSafe s.group s.sync.ref := h.2.2.2.2

/-- A station that is idle or unassigned holds no contact height. -/
theorem RecordSafe.contact_none {r : StationRec} (h : RecordSafe r) (hr : holdsContact r = false) : r.contact = none := by
  simpa [hr] using h.2.2

/-- What a passage of the group to `g` asks for. -/
structure MayEnter (g : GroupState) (s : State) : Prop where
  seeks : g = .engaging ∨ ∀ k, ¬ (s.jack k).record.Seeks
  validated : g = .setup ∨ g = .lockedOut ∨ s.group.validated = true
  contact : g = .setup ∨ g = .prepared → ∀ k, (s.jack k).record.contact = none

theorem GroupSafe.enterGroup {g : GroupState} (h : GroupSafe s) (hg : MayEnter g s) : GroupSafe (enterGroup g s) := by
  obtain ⟨hrec, -, -, hcon, -, href⟩ := h
  unfold GroupSafe StationsSafe
  simp only [enterGroup_jack, enterGroup_group, enterGroup_sync]
  refine ⟨hrec, fun k hk => ?_, fun hv => ?_, fun hc => ?_, fun hc => ?_, ?_⟩
  · exact hg.seeks.resolve_right fun hn => hn k hk
  · obtain e | e | e := hg.validated
    · exact .inl e
    · exact .inr e
    · rw [e] at hv; cases hv
  · rcases hc with e | e | hv
    · exact hg.contact (.inl e)
    · exact hg.contact (.inr e)
    · exact hcon (.inr (.inr hv))
  · rw [if_pos hc]
  · split
    · simp
    · exact href

theorem Kept.enterGroup {g : GroupState} (hlock : g = .lockedOut → GensAtRest s) (hg : GroupSafe s → MayEnter g s) :
    Kept edit s (enterGroup g s) where
  commands := enterGroup_pending g s
  pins := enterGroup_pins g s
  permit := by rw [enterGroup_group]
  queue := fun h => by
    unfold QueueSafe at *
    have : (Machine.enterGroup g s).line.queue = s.line.queue := by unfold Machine.enterGroup; simp only; split <;> rfl
    simpa only [this, enterGroup_group] using h
  records := fun h => by
    have : (Machine.enterGroup g s).line.pending = s.line.pending := by unfold Machine.enterGroup; simp only; split <;> rfl
    unfold PendingSafe at *
    rw [this]
    exact h
  faults := fun h => by unfold FaultListSafe at *; simpa only [enterGroup_group] using h
  plan := fun h => by
    unfold PlanSafe at *
    have : (Machine.enterGroup g s).sync.planPos = s.sync.planPos := by rw [enterGroup_sync]; split <;> rfl
    simpa only [enterGroup_plan, this] using h
  gens := fun h k => by rw [enterGroup_jack]; exact h k
  tallies := fun h k => by rw [enterGroup_jack]; exact h k
  rest := fun _ h hh k => by
    rw [enterGroup_jack]
    by_cases hl : g = .lockedOut
    · exact hlock hl k
    · refine h ?_ k
      simp only [generatorsHeld, enterGroup_group, Bool.or_eq_true, beq_iff_eq, hl, or_false] at hh ⊢
      exact .inl hh
  applied := fun _ h k => by rw [enterGroup_jack]; exact h k
  group := fun h => h.enterGroup (hg h)
  config := fun _ => by
    unfold configuration
    simp only [enterGroup_cars, enterGroup_jack]

/-- The states in which a lift is under way or stands stopped: validated, and without a station that seeks. -/
def GroupState.lifting (g : GroupState) : Prop := g ≠ .setup ∧ g ≠ .lockedOut ∧ g ≠ .engaging

/-- A passage between two such states, neither of them PREPARED at its end. -/
theorem MayEnter.of_lifting {g : GroupState} (h : GroupSafe s) (hs : s.group.state.lifting) (hg : g ≠ .setup) (hp : g ≠ .prepared) :
    MayEnter g s where
  seeks := .inr (h.not_seeks hs.2.2)
  validated := .inr (.inr (h.validated hs.1 hs.2.1))
  contact := fun hc => hc.elim (absurd · hg) (absurd · hp)

theorem Kept.enterGroup_of_lifting {g : GroupState} (hs : s.group.state.lifting) (hg : g ≠ .setup) (hp : g ≠ .prepared)
    (hl : g ≠ .lockedOut) : Kept edit s (Machine.enterGroup g s) :=
  .enterGroup (fun h => absurd h hl) fun h => .of_lifting h hs hg hp

/-- A validated group with nothing to seek and no contact height may pass to PREPARED. -/
theorem MayEnter.prepared (h : ∀ k, (s.jack k).record.contact = none) (hk : ∀ k, ¬ (s.jack k).record.Seeks)
    (hv : s.group.validated = true) : MayEnter .prepared s where
  seeks := .inr hk
  validated := .inr (.inr hv)
  contact := fun _ => h

theorem allAssigned_iff {p : Jack → Bool} : allAssigned s p = true ↔ ∀ k, (s.jack k).record.state ≠ .unassigned → p (s.jack k) = true := by
  simp [allAssigned, Jack.assigned, or_iff_not_imp_left]

/-- Where every assigned station is IDLE, none holds a contact height or seeks one. -/
theorem contact_none_of_allIdle (h : GroupSafe s) (hi : allAssigned s (fun j => j.isIn .idle) = true) (k : Sta) :
    (s.jack k).record.contact = none ∧ ¬ (s.jack k).record.Seeks := by
  have hk := allAssigned_iff.mp hi k
  simp only [Jack.isIn_eq_true] at hk
  by_cases hu : (s.jack k).record.state = .unassigned
  · exact ⟨(h.record k).contact_none (by simp [holdsContact, hu]), by simp [StationRec.Seeks, hu]⟩
  · have := hk hu
    exact ⟨(h.record k).contact_none (by simp [holdsContact, this]), by simp [StationRec.Seeks, this]⟩

/-! ### Moves of one station -/

theorem moveEndState_seeks {r : StationRec} (h : r.endMove.Seeks) : r.Seeks := by
  obtain ⟨state, _⟩ := r
  cases state <;> simp_all [StationRec.Seeks, StationRec.endMove, moveEndState]

theorem RecordKept.endMove {g : GroupState} (r : StationRec) : RecordKept g r r.endMove where
  safe := fun h => by
    obtain ⟨state, _⟩ := r
    cases state <;> exact h
  seeks := fun h => .inl (moveEndState_seeks h)

theorem Kept.endMove (k : Sta) (s : State) : Kept edit s (s.updRec k StationRec.endMove) := .updRec (.endMove _) fun _ => rfl

theorem Kept.finishMove (k : Sta) (s : State) : Kept edit s (finishMove k s) := by
  unfold Machine.finishMove
  split
  · exact .refl s
  · split_ifs
    · exact .endMove k s
    · exact (Kept.endMove k s).trans (.raise _ _)
    · exact (Kept.endMove k s).trans (.raise _ _)

theorem Kept.abandonMove (k : Sta) (s : State) : Kept edit s (abandonMove k s) := by
  unfold Machine.abandonMove
  split
  · exact .refl s
  · split_ifs
    · exact .endMove k s
    · exact (Kept.endMove k s).trans (.raise _ _)

theorem Kept.stopMove (k : Sta) (r : OpResult) (s : State) : Kept edit s (stopMove k r s) := by
  unfold Machine.stopMove
  split
  · exact .refl s
  · split_ifs
    · exact .refl s
    · exact ((Kept.updGen (.stopForm _)).trans (.updRec {} fun _ => rfl)).trans (.raise _ _)

theorem Kept.endTrims (s : State) : Kept edit s (endTrims s) :=
  .forStations (fun k t => by
    split
    · split_ifs
      · exact .stopMove k _ t
      · exact .refl t
    · exact .refl t) s

theorem Kept.landedCheck (s : State) : Kept edit s (landedCheck s) := by
  unfold Machine.landedCheck
  split_ifs with h
  · refine .enterGroup (by simp) fun hs => ?_
    have hn := contact_none_of_allIdle hs h.2
    exact .prepared (fun k => (hn k).1) (fun k => (hn k).2) (hs.validated (by simp [h.1]) (by simp [h.1]))
  · exact .refl s

/-- A station that is RELEASING leaves its contact height (R153). -/
theorem RecordKept.released {g : GroupState} (r : StationRec) (hr : r.state = .releasing) :
    RecordKept g r { r with state := .idle, contact := none, start := none, confirm := 0 } where
  safe := fun ⟨h1, h2, _⟩ => ⟨h1.trans (by rw [hr]; rfl), h2.trans (by rw [hr]; rfl), rfl⟩
  seeks := fun h => by simp [StationRec.Seeks] at h
  contact := fun _ => .inl rfl

theorem Kept.finishRelease (h : (s.jack k).record.state = .releasing) : Kept edit s (finishRelease k s) :=
  ((Kept.updRec (.released _ h) fun _ => rfl).trans (.raise _ _)).trans (.landedCheck _)

theorem Kept.idleEvent (k : Sta) (s : State) : Kept edit s (idleEvent k s) := by
  unfold Machine.idleEvent
  have hrest : Kept edit s (s.updJack k Jack.latchRest) := .updJack {}
  simp only
  split_ifs with h
  · refine hrest.trans (.finishRelease ?_)
    simp only [clearing, Bool.and_eq_true, Jack.isIn_eq_true] at h
    exact h.1
  · exact hrest.trans (.finishMove k _)

/-! ### FAULTED (R16, R17) -/

theorem RecordKept.toFaulted {g : GroupState} (r : StationRec) (f : FaultKind) (hf : r.state ≠ .faulted) :
    RecordKept g r (r.toFaulted f) where
  safe := fun ⟨_, _, h3⟩ => by
    refine ⟨by simp [StationRec.toFaulted], by simp [StationRec.toFaulted], ?_⟩
    unfold holdsContact StationRec.toFaulted at *
    cases hs : r.state <;> simp_all [priorOf]
  seeks := fun h => by simp [StationRec.Seeks, StationRec.toFaulted] at h
  contact := fun h => .inl (by simp [StationRec.toFaulted, h])

/-- Ending a move in the stop form writes nothing of a record but the move itself. -/
theorem stopMove_record (r : OpResult) (s : State) (k i : Sta) :
    ∃ m, ((stopMove k r s).jack i).record = { (s.jack i).record with move := m } := by
  by_cases h : i = k
  · subst h
    unfold Machine.stopMove
    split
    · exact ⟨_, rfl⟩
    · split_ifs
      · exact ⟨_, rfl⟩
      · rw [raise_jack, updRec_jack_self, updGen_jack_self]
        exact ⟨_, rfl⟩
  · rw [stopMove_jack_ne r s h]
    exact ⟨_, rfl⟩

theorem stopMove_state (r : OpResult) (s : State) (k i : Sta) :
    ((stopMove k r s).jack i).record.state = (s.jack i).record.state := by
  obtain ⟨m, e⟩ := stopMove_record r s k i
  rw [e]

theorem stopMove_contact (r : OpResult) (s : State) (k i : Sta) :
    ((stopMove k r s).jack i).record.contact = (s.jack i).record.contact := by
  obtain ⟨m, e⟩ := stopMove_record r s k i
  rw [e]

theorem Kept.faultStation (f : FaultKind) (k : Sta) (s : State) : Kept edit s (faultStation f k s) := by
  unfold Machine.faultStation
  split
  · exact .refl s
  · split_ifs
    · exact .refl s
    · exact .stopMove k _ s
  · rename_i hu hf
    refine ((Kept.stopMove k _ s).trans (.updGen (.stopForm _))).trans (.updRec (.toFaulted _ f ?_) fun _ => rfl)
    simpa [stopMove_state] using hf

/-- The test of R17, case by case: a station that is not FAULTED is left alone, an entry that names it gives its kind, and without one it
returns, with its prior state, to one of two states. -/
theorem StationRec.retest_cases (r : StationRec) (o : Option FaultKind) :
    (r.state ≠ .faulted ∧ r.retest o = r) ∨ (∃ f, r.state = .faulted ∧ r.retest o = { r with faultKind := some f }) ∨
      ∃ st m, r.state = .faulted ∧ r.retest o = { r with state := st, faultKind := none, prior := none, move := m } ∧
        ((r.prior = some .engaged ∧ (st = .engaged ∨ st = .trimming)) ∨ (r.prior ≠ some .engaged ∧ (st = .idle ∨ st = .jogging))) := by
  unfold StationRec.retest
  by_cases hs : r.state = .faulted
  · rw [if_pos hs]
    rcases o with - | f
    · refine .inr (.inr ⟨_, _, hs, rfl, ?_⟩)
      generalize (match r.move with | some m => m.underFault | none => false) = moving
      rcases r.prior with - | (_ | _) <;> cases moving <;> simp
    · exact .inr (.inl ⟨f, hs, rfl⟩)
  · exact .inl ⟨hs, if_neg hs⟩

theorem RecordKept.retest {g : GroupState} (r : StationRec) (o : Option FaultKind) : RecordKept g r (r.retest o) := by
  obtain ⟨-, e⟩ | ⟨f, hs, e⟩ | ⟨st, m, hs, e, hst⟩ := r.retest_cases o <;> rw [e]
  · exact .refl r
  · exact { safe := fun ⟨_, h2, h3⟩ => ⟨by simp [hs], h2, h3⟩ }
  · refine { safe := fun ⟨_, _, h3⟩ => ?_, seeks := fun h => ?_ }
    · have hc : r.contact.isSome = (r.prior == some .engaged) := h3.trans (by rw [holdsContact, hs]; rfl)
      rcases hst with ⟨hp, rfl | rfl⟩ | ⟨hp, rfl | rfl⟩
      · exact ⟨rfl, rfl, hc.trans (beq_iff_eq.mpr hp)⟩
      · exact ⟨rfl, rfl, hc.trans (beq_iff_eq.mpr hp)⟩
      · exact ⟨rfl, rfl, hc.trans (beq_eq_false_iff_ne.mpr hp)⟩
      · exact ⟨rfl, rfl, hc.trans (beq_eq_false_iff_ne.mpr hp)⟩
    · rcases hst with ⟨hp, rfl | rfl⟩ | ⟨hp, rfl | rfl⟩ <;> simp [StationRec.Seeks] at h

theorem StationRec.retest_settings (r : StationRec) (o : Option FaultKind) : (r.retest o).settings = r.settings := by
  unfold StationRec.retest
  split_ifs
  · rcases o with - | f <;> rfl
  · rfl

theorem Kept.returnFaulted (s : State) : Kept edit s (returnFaulted s) :=
  .updAll fun _ => { record := .retest _ _, config := fun _ => by simp [StationRec.config, StationRec.retest_settings] }

/-- Entries removed from the fault list leave it in form. -/
theorem Kept.setFaults {l : List FaultEntry} (h : l.Sublist s.group.faults) : Kept edit s (setFaults l s) where
  faults := fun ⟨h1, h2, _⟩ => ⟨h.length_le.trans h1, h2.sublist (h.map _), fun ho => by
    have hl := (Bool.and_eq_true_iff.mp ho).2
    have : 16 ≤ l.length := of_decide_eq_true hl
    show l.length = 16
    have := h.length_le
    omega⟩

end Sys2Proof.Machine

/-! PROOF. What every piece of work keeps: assignment, faults and stops, geometry, the load link. -/

namespace Sys2Proof.Machine

-- One theorem after another, as in the tests: a thread each for this many proofs would pass the memory limit.
set_option Elab.async false

variable {edit : Prop} {s t u : State} {k : Sta}

/-! ### Assignment (R2) -/

theorem RecordKept.unassigned {g : GroupState} (r : StationRec) : RecordKept g r { r with
    state := .unassigned, faultKind := none, prior := none, contact := none, start := none, pendingOffset := none,
    attempts := 0, confirm := 0, move := none } where
  safe := fun _ => ⟨rfl, rfl, rfl⟩
  seeks := fun h => by simp [StationRec.Seeks] at h
  contact := fun _ => .inl rfl

theorem RecordKept.assigned {g : GroupState} (r : StationRec) (hr : r.state = .unassigned) :
    RecordKept g r { r with state := .idle } where
  safe := fun ⟨h1, h2, h3⟩ => ⟨h1.trans (by rw [hr]; rfl), h2.trans (by rw [hr]; rfl), h3.trans (by rw [holdsContact, hr]; rfl)⟩
  seeks := fun h => by simp [StationRec.Seeks] at h

/-- A monitor without a gate, its open cycles 0, keeps the counts of a station in form. -/
theorem CountsSafe.of_mon {j : Jack} {m : Monitor} (h : CountsSafe j) (hs : m.slipRun ≤ 15) (hr : m.runaway ≤ 15)
    (ho : m.openCycles ≤ 65535) (hg : m.gate = none) : CountsSafe { j with mon := m } := by
  obtain ⟨-, -, -, hmiss, hheld, hloss, -⟩ := h
  exact ⟨hs, hr, ho, hmiss, hheld, hloss, fun g h => by rw [hg] at h; cases h⟩

theorem Kept.unassign (k : Sta) (s : State) : Kept edit s (unassign k s) := by
  refine (Kept.stopMove k _ s).trans (.updJack { record := .unassigned _, counts := fun h => ?_ })
  dsimp only
  split
  · exact CountsSafe.of_mon (j := { Machine.stopMove k .aborted s |>.jack k with record := _ }) h h.1 h.2.1 (Nat.zero_le _) rfl
  · exact h

theorem Kept.applyAssignment (s : State) : Kept edit s (applyAssignment s) := by
  unfold Machine.applyAssignment
  extract_lets dropped t u kept
  have ht : Kept edit s t := .foldl (fun t k => .unassign k t) _ _
  have hu : Kept edit t u := .updAll fun k => by
    split
    · rename_i h
      simp only [Bool.and_eq_true, Jack.isIn_eq_true] at h
      exact { record := .assigned _ h.1 }
    · exact .refl _
  split_ifs
  · exact ht.trans hu
  · exact (ht.trans hu).trans ((Kept.setFaults List.filter_sublist).trans (.returnFaulted _))

/-! ### Detections (R103 to R105, R109) -/

theorem StationRec.moveByStop_not_seeks (r : StationRec) : ¬ r.moveByStop.Seeks := by
  obtain ⟨state, _⟩ := r
  cases state <;> simp [StationRec.Seeks, StationRec.moveByStop]

theorem RecordKept.moveByStop {g : GroupState} (r : StationRec) : RecordKept g r r.moveByStop where
  safe := fun h => by
    obtain ⟨state, _⟩ := r
    cases state <;> exact h
  seeks := fun h => absurd h r.moveByStop_not_seeks
  contact := fun h => .inl (by rw [(StationRec.moveByStop_same r).2.2.2]; exact h)

theorem Kept.moveStations (s : State) : Kept edit s (moveStations s) :=
  .updAll fun k => by
    have hc : ¬ edit → (s.jack k).record.moveByStop.config = (s.jack k).record.config := fun _ => by
      simp only [StationRec.config, (StationRec.moveByStop_same _).1]
    split
    · obtain ⟨h1, h2, h3⟩ := GenKept.stopForm (s.jack k).gen
      exact { gen := h1, rest := fun _ _ => h2, brake := fun _ hb => h3.trans hb, record := .moveByStop _, config := hc }
    · exact { record := .moveByStop _, config := hc }

theorem Kept.enterStopping (hs : s.group.state ≠ .setup) (hl : s.group.state ≠ .lockedOut)
    (hk : ∀ k, ¬ (s.jack k).record.Seeks) : Kept edit s (enterStopping s) := by
  unfold Machine.enterStopping
  split_ifs
  · exact .refl s
  · refine (Kept.of_group (s := s)).trans (.enterGroup (by simp) fun h => ⟨.inr hk, .inr (.inr ?_), by simp⟩)
    exact h.validated hs hl

/-- The states in which a detection begins a fault stop are those of a validated group. -/
theorem faultStops_states (h : faultStops s = true) : s.group.state ≠ .setup ∧ s.group.state ≠ .lockedOut := by
  refine ⟨fun hs => ?_, fun hs => ?_⟩ <;> simp [faultStops, hs] at h

theorem Kept.beginFaultStop (f : FaultKind) (x : Subject) (h : faultStops s = true) : Kept edit s (beginFaultStop f x s) := by
  refine ((((Kept.setCause _ s).trans (.raise _ _)).trans (.haltReference _)).trans (.moveStations _)).trans (.enterStopping ?_ ?_ ?_)
  · exact (faultStops_states h).1
  · exact (faultStops_states h).2
  · intro k
    rw [moveStations_jack]
    exact StationRec.moveByStop_not_seeks _

theorem abandonAll_atRest (s : State) : GensAtRest (abandonAll s) := fun k => by
  rw [abandonAll_jack]
  exact Generator.abandon_atRest _

theorem abandonMove_gen (k : Sta) (s : State) (i : Sta) : ((abandonMove k s).jack i).gen = (s.jack i).gen := by
  by_cases h : i = k
  · subst h
    unfold Machine.abandonMove
    split
    · rfl
    · split_ifs <;> simp
  · rw [abandonMove_jack_ne s h]

theorem forStations_abandonMove_atRest (h : GensAtRest s) : GensAtRest (forStations abandonMove s) :=
  forStations_keeps (P := GensAtRest) (fun k t ht i => by rw [abandonMove_gen]; exact ht i) h

theorem Generator.AtRest.stopForm {g : Generator} (h : g.AtRest) : g.stopForm.AtRest := (GenKept.stopForm g).rest h

theorem Kept.enterLockout (k : Sta) (s : State) : Kept edit s (enterLockout k s) := by
  refine (((((((Kept.abandonAll s).trans (.forStations (fun k t => .abandonMove k t) _)).trans (.moveStations _)).trans
    (.latchAllRest _)).trans (.haltReference _)).trans (.setCause _ _)).trans (.raise _ _)).trans
    (.enterGroup (fun _ i => ?_) fun _ => ⟨.inr fun i => ?_, .inr (.inl rfl), by simp⟩)
  · simp only [raise_jack, setCause_jack, haltReference_jack, latchAllRest_jack, moveStations_jack, Jack.latchRest]
    have h := forStations_abandonMove_atRest (abandonAll_atRest s) i
    split
    · exact h.stopForm
    · exact h
  · simp only [raise_jack, setCause_jack, haltReference_jack, latchAllRest_jack, moveStations_jack, Jack.latchRest]
    exact StationRec.moveByStop_not_seeks _

theorem Kept.listFault (f : FaultKind) (x : Subject) (s : State) : Kept edit s (listFault f x s) := by
  unfold Machine.listFault
  split_ifs with hany hlen
  · exact .refl s
  · refine Kept.trans (t := { s with group := { s.group with
      faults := s.group.faults ++ [{ kind := f, subject := x, cycle := s.group.cycle }] } }) { faults := ?_ } (.raise _ _)
    rintro ⟨h1, h2, h3⟩
    have hlen : s.group.faults.length < 16 := hlen
    refine ⟨by simp; omega, ?_, fun ho => absurd (h3 ho) (by omega)⟩
    simp only [List.map_append, List.map_cons, List.map_nil]
    refine List.nodup_append.mpr ⟨h2, List.nodup_singleton _, fun a ha b hb => ?_⟩
    simp only [List.mem_singleton] at hb
    obtain ⟨e, he, rfl⟩ := List.mem_map.mp ha
    subst hb
    simp only [List.any_eq_true, not_exists, not_and, Bool.and_eq_true, beq_iff_eq] at hany
    exact fun h => hany e he (congrArg Prod.fst h) (congrArg Prod.snd h)
  · refine Kept.trans (t := { s with group := { s.group with overflow := true } }) { faults := ?_ } (.raise _ _)
    rintro ⟨h1, h2, -⟩
    have hlen : ¬ s.group.faults.length < 16 := hlen
    exact ⟨h1, h2, fun _ => by show s.group.faults.length = 16; omega⟩

theorem Kept.actOnStations (f : FaultKind) (x : Subject) (s : State) : Kept edit s (actOnStations f x s) := by
  unfold Machine.actOnStations
  split
  · exact .faultStation f _ s
  · exact .endTrims s
  · exact .endTrims s
  · exact .refl s

theorem Kept.actOnGroup (f : FaultKind) (x : Subject) (s : State) : Kept edit s (actOnGroup f x s) := by
  unfold Machine.actOnGroup
  split <;> split_ifs with h
  · exact .refl s
  · exact .enterLockout _ s
  · exact .beginFaultStop f x h
  · exact .refl s

theorem Kept.takeDetection (f : FaultKind) (x : Subject) (s : State) : Kept edit s (takeDetection f x s) :=
  (((Kept.listFault f x s).trans (.actOnStations f x _)).trans (.actOnGroup f x _)).trans (.handOver _)

theorem Kept.takeDetections (l : List Detection) (s : State) : Kept edit s (takeDetections l s) :=
  .foldl (fun t d => .takeDetection d.kind d.subject t) l s

/-! ### The motion-engine reset (R113) -/

/-- Without a contact height the re-based reference is 0; it lies in the range of the lift always. -/
theorem rebasedReference_bounds (b : Bool) (s : State) :
    0 ≤ rebasedReference b s ∧ rebasedReference b s ≤ 100 * (s.group.params.lMax : Int) := by
  unfold rebasedReference clampInt
  simp only
  split <;> omega

theorem rebasedReference_of_no_contact (b : Bool) (h : ∀ k, (s.jack k).record.contact = none) : rebasedReference b s = 0 := by
  have : Sta.all.filterMap (fun k => (s.jack k).rebaseValue b) = [] := by
    rw [List.filterMap_eq_nil_iff]
    intro k _
    simp [Jack.rebaseValue, h k]
  simp [rebasedReference, this]

theorem Kept.motionReset (b : Bool) (s : State) : Kept edit s (motionReset b s) := by
  refine ((Kept.of_sync (y := { s.sync with ref := rebasedReference b s, speed := 0, dir := .none }) rfl fun h => ?_).trans
    (.clearWait _)).trans (.latchAllRest _)
  refine ⟨fun hs => rebasedReference_of_no_contact b (h.2.2.2.1 ?_), rebasedReference_bounds b s⟩
  exact hs.imp id .inl

/-! ### The geometry checker -/

theorem Kept.checkTwist (i : Nat) (s : State) : Kept edit s (checkTwist i s) := by
  unfold Machine.checkTwist
  split
  · exact .refl s
  · rename_i c _
    extract_lets twist warn t u
    have ht : Kept edit s t := .updCar i (by intro; rfl) s
    have hu : Kept edit t u := by
      show Kept edit t (if _ then _ else _)
      split_ifs
      · exact .raise _ t
      · exact .refl t
    split_ifs
    · exact (ht.trans hu).trans (.takeDetection _ _ _)
    · exact ht.trans hu

theorem Kept.checkCoupling (i : Nat) (s : State) : Kept edit s (checkCoupling i s) := by
  unfold Machine.checkCoupling
  split
  · extract_lets step past t
    have ht : Kept edit s t := .updCar i (by intro; rfl) s
    split_ifs
    · exact ht.trans (.takeDetection _ _ _)
    · exact ht
  · exact .refl s

theorem Kept.geometryChecks (s : State) : Kept edit s (geometryChecks s) :=
  .foldl (fun t i => (Kept.checkTwist i t).trans (.checkCoupling i _)) _ s

theorem Kept.imbalanceWork (s : State) : Kept edit s (imbalanceWork s) :=
  (Kept.foldl (fun t x => by
    split_ifs
    · exact .raise _ t
    · exact .refl t) _ s).trans (.updAll fun _ => {})

theorem Kept.geometryWork (found s : State) : Kept edit s (geometryWork found s) := by
  unfold Machine.geometryWork
  split_ifs
  · exact (Kept.geometryChecks s).trans (.imbalanceWork _)
  · exact (Kept.armWarnings s).trans (.imbalanceWork _)

theorem Kept.refreshTwist (i : Nat) (s : State) : Kept edit s (refreshTwist i s) := by
  unfold Machine.refreshTwist
  split
  · exact .refl s
  · exact .updCar i (by intro; rfl) s

theorem Kept.refreshStep (i : Nat) (s : State) : Kept edit s (refreshStep i s) := by
  unfold Machine.refreshStep
  split
  · exact .updCar i (by intro; rfl) s
  · exact .refl s

/-! ### The load link -/

theorem Kept.setLink (l : LinkLine) (s : State) : Kept edit s { s with link := l } := {}

theorem Kept.beaconWork (s : State) : Kept edit s (beaconWork s) :=
  (Kept.setLink { lde := true, ltx := beaconBytes s.group.cycle, started := true } s).trans
    (.updAll (f := fun _ j => { j with link := { j.link with slotOpen := true, bytes := [] } }) fun _ => {})

/-- The load link's counts of a station in form, whatever else its values are. -/
theorem CountsSafe.of_link {j : Jack} {l : LinkSlot} (h : CountsSafe j) (hm : l.miss ≤ 15) (hh : l.held ≤ 65535) (hl : l.lossRun ≤ 60) :
    CountsSafe { j with link := l } := by
  obtain ⟨h1, h2, h3, -, -, -, h7⟩ := h
  exact ⟨h1, h2, h3, hm, hh, hl, h7⟩

theorem LinkSlot.record_counts (l : LinkSlot) (o : SlotOutcome) (load : Nat) (hload : load ≤ 65535) (hm : l.miss ≤ 15)
    (hh : l.held ≤ 65535) : (l.record o load).miss ≤ 15 ∧ (l.record o load).held ≤ 65535 ∧ (l.record o load).lossRun = l.lossRun := by
  cases o <;> simp [LinkSlot.record, saturateNat, hload, hm, hh]

theorem Kept.closeSlot (k : Sta) (b : Bool) (s : State) : Kept edit s (closeSlot k b s) := by
  unfold Machine.closeSlot
  extract_lets j o load t u
  have hload (h : CountsSafe (s.jack k)) :=
    (s.jack k).link.record_counts o load (half_toNat_le _) h.2.2.2.1 h.2.2.2.2.1
  have ht : Kept edit s t := .updJack {
    counts := fun h => h.of_link (hload h).1 (hload h).2.1 ((hload h).2.2.trans_le h.2.2.2.2.2.1) }
  have hu : Kept edit s u := .updJack { counts := fun h => h.of_link (Nat.zero_le _) h.2.2.2.2.1 h.2.2.2.2.2.1 }
  split_ifs
  · exact .refl s
  · exact ht.trans (.raise _ _)
  · exact ht
  · exact hu.trans (.raise _ _)
  · exact hu

theorem Kept.receiveLinkByte (w : LinkWindow) (b : LinkByte) (s : State) : Kept edit s (receiveLinkByte w b s) := by
  unfold Machine.receiveLinkByte
  split_ifs
  · exact .refl s
  · split
    · split_ifs
      · exact .updJack {}
      · exact .refl s
    · exact .raise _ s
    · exact .raise _ s

theorem lossAfter_le (g : GroupState) (j : Jack) : lossAfter g j ≤ 60 := by
  unfold lossAfter saturateNat
  split_ifs <;> omega

theorem Kept.linkWork (found s : State) : Kept edit s (linkWork found s) :=
  (Kept.updAll (f := fun k j => { j with link := { j.link with
      silent := j.link.silent || silentNow found.group.params (found.jack k)
      lossRun := lossAfter found.group.state (found.jack k) } })
    fun _ => { counts := fun h => h.of_link h.2.2.2.1 h.2.2.2.2.1 (lossAfter_le _ _) }).trans (.takeDetections _ _)

end Sys2Proof.Machine

/-! PROOF. What every piece of work keeps: the contact sequencer, the plan store, the synchronisation unit. -/

namespace Sys2Proof.Machine

-- One theorem after another, as in the tests: a thread each for this many proofs would pass the memory limit.
set_option Elab.async false

variable {edit : Prop} {s t u : State} {k : Sta}

/-! ### The contact sequencer -/

theorem Kept.handJudged (f : FaultKind) (k : Sta) (s : State) : Kept edit s (handJudged f k s) := .takeDetection f _ s

/-- Work done only while the station stands as it was found may rely on that. -/
theorem Kept.whileFound {st : StationState} {f : State → State} (h : (s.jack k).record.state = st → Kept edit s (f s)) :
    Kept edit s (whileFound k st f s) := by
  unfold Machine.whileFound
  split_ifs with hi
  · exact h (Jack.isIn_eq_true.mp hi)
  · exact .refl s

/-- A station that seeks or confirms holds neither fault kind nor prior state nor contact height. -/
theorem RecordSafe.of_seeks {r : StationRec} (h : RecordSafe r) (hr : r.Seeks) :
    r.faultKind = none ∧ r.prior = none ∧ r.contact = none := by
  obtain ⟨h1, h2, h3⟩ := h
  rcases hr with hr | hr <;> rw [hr] at h1 h2 <;> rw [holdsContact, hr] at h3
  · exact ⟨Option.isSome_eq_false_iff.mp h1 |> Option.isNone_iff_eq_none.mp, Option.isSome_eq_false_iff.mp h2 |> Option.isNone_iff_eq_none.mp,
      Option.isSome_eq_false_iff.mp h3 |> Option.isNone_iff_eq_none.mp⟩
  · exact ⟨Option.isSome_eq_false_iff.mp h1 |> Option.isNone_iff_eq_none.mp, Option.isSome_eq_false_iff.mp h2 |> Option.isNone_iff_eq_none.mp,
      Option.isSome_eq_false_iff.mp h3 |> Option.isNone_iff_eq_none.mp⟩

theorem RecordKept.toEngaged {g : GroupState} (r : StationRec) (h : Int) (hr : r.Seeks) : RecordKept g r (r.toEngaged h) where
  safe := fun hs => by
    obtain ⟨h1, h2, -⟩ := hs.of_seeks hr
    exact ⟨by simp [StationRec.toEngaged, h1], by simp [StationRec.toEngaged, h2], rfl⟩
  seeks := fun h => by simp [StationRec.Seeks, StationRec.toEngaged] at h
  contact := fun _ => .inr hr

/-- A record that goes on seeking or confirming, its contact height and its fault untouched. -/
theorem RecordKept.of_seeks {g : GroupState} {r r' : StationRec} (hr : r.Seeks) (hr' : r'.Seeks) (hf : r'.faultKind = r.faultKind := by rfl)
    (hp : r'.prior = r.prior := by rfl) (hc : r'.contact = r.contact := by rfl) : RecordKept g r r' where
  safe := fun hs => by
    obtain ⟨h1, h2, h3⟩ := hs.of_seeks hr
    unfold RecordSafe
    rw [hf, hp, hc, h1, h2, h3]
    rcases hr' with e | e <;> rw [holdsContact, e] <;> exact ⟨rfl, rfl, rfl⟩
  seeks := fun _ => .inl hr
  contact := fun h => .inl (hc.trans h)

theorem Kept.engageStation (h : (s.jack k).record.Seeks) : Kept edit s (engageStation k s) :=
  ((Kept.updRec (.toEngaged _ _ h) fun _ => rfl).trans (.handRate k 0 _)).trans (.raise _ _)

theorem Kept.beginConfirm (h : (s.jack k).record.state = .seeking) : Kept edit s (beginConfirm k s) := by
  unfold Machine.beginConfirm
  split_ifs
  · exact .engageStation (.inl h)
  · exact (Kept.updRec (.of_seeks (.inl h) (.inr rfl)) fun _ => rfl).trans (.handRate k 0 _)

theorem Kept.countContact (h : (s.jack k).record.state = .confirming) : Kept edit s (countContact k s) := by
  unfold Machine.countContact
  simp only
  split_ifs
  · exact .engageStation (.inr h)
  · exact (Kept.updRec {} fun _ => rfl).trans (.handRate k 0 _)

theorem Kept.seekAgain (n : Nat) (h : (s.jack k).record.state = .confirming) : Kept edit s (seekAgain k n s) :=
  (Kept.updRec (.of_seeks (.inr h) (.inl rfl)) fun _ => rfl).trans (.handRate k _ _)

theorem Kept.judgeSeeking (found : State) (k : Sta) (s : State) : Kept edit s (judgeSeeking found k s) := by
  unfold Machine.judgeSeeking
  simp only
  split_ifs
  · exact .whileFound .beginConfirm
  · exact .handJudged _ k s
  · exact .whileFound fun _ => .handRate k _ s

theorem Kept.judgeConfirming (found : State) (k : Sta) (s : State) : Kept edit s (judgeConfirming found k s) := by
  unfold Machine.judgeConfirming
  simp only
  split_ifs
  · exact .whileFound .countContact
  · exact .handJudged _ k s
  · exact .whileFound (.seekAgain _)
  · exact .whileFound fun _ => .handRate k _ s

theorem Kept.judgeEngaging (found : State) (k : Sta) (s : State) : Kept edit s (judgeEngaging found k s) := by
  unfold Machine.judgeEngaging
  split
  · exact .judgeSeeking found k s
  · exact .judgeConfirming found k s
  · exact .whileFound fun _ => .handRate k _ s
  all_goals exact .refl s

/-- Where every assigned station is ENGAGED, none seeks. -/
theorem not_seeks_of_allEngaged (h : allAssigned s (fun j => j.isIn .engaged) = true) (k : Sta) : ¬ (s.jack k).record.Seeks := by
  intro hk
  have hu : (s.jack k).record.state ≠ .unassigned := by rcases hk with e | e <;> rw [e] <;> simp
  have he := Jack.isIn_eq_true.mp (allAssigned_iff.mp h k hu)
  rcases hk with e | e <;> rw [e] at he <;> cases he

theorem Kept.poisedTest (s : State) : Kept edit s (poisedTest s) := by
  unfold Machine.poisedTest
  split_ifs with h
  · refine (Kept.clearReference s).trans (.enterGroup (by simp) fun hs => ⟨.inr (not_seeks_of_allEngaged h.2), .inr (.inr ?_), by simp⟩)
    exact hs.validated (by simp [h.1]) (by simp [h.1])
  · exact .refl s

theorem RecordKept.toReleasing {g : GroupState} (r : StationRec) (h : Int) (hr : r.state = .engaged) : RecordKept g r (r.toReleasing h) where
  safe := fun ⟨h1, h2, h3⟩ => ⟨h1.trans (by rw [hr]; rfl), h2.trans (by rw [hr]; rfl), h3.trans (by rw [holdsContact, hr]; rfl)⟩
  seeks := fun h => by simp [StationRec.Seeks, StationRec.toReleasing] at h

theorem Kept.startRelease (h : (s.jack k).record.state = .engaged) : Kept edit s (startRelease k s) :=
  (Kept.updRec (.toReleasing _ _ h) fun _ => rfl).trans (.handRate k _ _)

theorem Kept.releaseAll (s : State) : Kept edit s (releaseAll s) :=
  .forStations (fun _ _ => .whileFound .startRelease) s

/-- A rate handed leaves every record alone. -/
@[simp] theorem handRate_record (k : Sta) (r : Int) (s : State) (i : Sta) : ((handRate k r s).jack i).record = (s.jack i).record := by
  by_cases h : i = k
  · subst h; simp [Machine.handRate]
  · rw [handRate_ne r s h]

theorem Kept.confirmRelease (h : (s.jack k).record.state = .releasing) : Kept edit s (confirmRelease k s) := by
  unfold Machine.confirmRelease
  extract_lets p j t
  have ht : Kept edit s t := .updRec {} fun _ => rfl
  split_ifs
  · exact ht.trans ((Kept.handRate k 0 t).trans (.finishRelease (by simpa [t] using h)))
  · exact ht.trans ((Kept.recordRate k _ t).trans (.orderMove k _ _ _ _))

theorem Kept.lowerOn (k : Sta) (n : Nat) (s : State) : Kept edit s (lowerOn k n s) :=
  (Kept.updRec {} fun _ => rfl).trans (.handRate k _ _)

theorem Kept.judgeReleasing (found : State) (k : Sta) (s : State) : Kept edit s (judgeReleasing found k s) := by
  unfold Machine.judgeReleasing
  simp only
  split_ifs
  · exact .whileFound fun _ => .recordRate k _ s
  · exact .whileFound .confirmRelease
  · exact .handJudged _ k s
  · exact .whileFound fun _ => .lowerOn k _ s

theorem Kept.judgeLanding (found : State) (k : Sta) (s : State) : Kept edit s (judgeLanding found k s) := by
  unfold Machine.judgeLanding
  split
  · exact .judgeReleasing found k s
  · exact .whileFound .startRelease
  all_goals exact .refl s

theorem Kept.sequencerWork (found s : State) : Kept edit s (sequencerWork found s) := by
  unfold Machine.sequencerWork
  split
  · exact (Kept.forStations (fun k t => .judgeEngaging found k t) s).trans (.poisedTest _)
  · split_ifs
    · exact .refl s
    · exact .forStations (fun k t => .judgeLanding found k t) s
  all_goals exact .refl s

/-! ### The plan store -/

theorem startedSync_ref (p : GroupParams) (g : Segment) (y : Sync) : (startedSync p g y).ref = y.ref := by
  unfold startedSync; split <;> (try split) <;> rfl
theorem startedSync_planPos (p : GroupParams) (g : Segment) (y : Sync) : (startedSync p g y).planPos = y.planPos := by
  unfold startedSync; split <;> (try split) <;> rfl

theorem Kept.startSegment (s : State) : Kept edit s (startSegment s) := by
  unfold Machine.startSegment
  split
  · exact .refl s
  · rename_i g _
    have ht : Kept edit s { s with plan := { s.plan with segMode := some s.plan.mode }, sync := startedSync s.group.params g s.sync } :=
      .of_plan (startedSync_ref _ _ _) fun h => by
        unfold PlanSafe at *
        rw [startedSync_planPos]
        exact h
    simp only
    split_ifs
    · exact ht.trans (.raise _ _)
    · exact ht

theorem Plan.swapped_cases (p : Plan) :
    p.swapped.commit = none ∧ ((p.swapped.bankA = [] ∧ p.swapped.bankB = p.bankB) ∨ (p.swapped.bankB = [] ∧ p.swapped.bankA = p.bankA)) := by
  unfold Plan.swapped
  split
  · exact ⟨rfl, .inl ⟨rfl, rfl⟩⟩
  · exact ⟨rfl, .inr ⟨rfl, rfl⟩⟩

theorem Kept.takePlan (c : CommitKind) (b : Bool) (s : State) : Kept edit s (takePlan c b s) := by
  refine Kept.trans (t := { s with plan := s.plan.swapped, sync := { s.sync with planPos := 0, dwell := none } })
    (.of_plan rfl fun h => ?_) (.raise _ _)
  obtain ⟨hA, hB, hsA, hsB, -, -⟩ := h
  obtain ⟨hc, ⟨h1, h2⟩ | ⟨h1, h2⟩⟩ := s.plan.swapped_cases
  · exact ⟨by simp [h1], by simpa [h2] using hB, by simp [h1], by simpa [h2] using hsB, fun h => by simp [hc] at h, Nat.zero_le _⟩
  · exact ⟨by simpa [h2] using hA, by simp [h1], by simpa [h2] using hsA, by simp [h1], fun h => by simp [hc] at h, Nat.zero_le _⟩

theorem Kept.takeAtCycleStart (s : State) : Kept edit s (takeAtCycleStart s) := by
  unfold Machine.takeAtCycleStart
  split
  · split_ifs
    · exact (Kept.takePlan _ _ s).trans (.startSegment _)
    · exact .takePlan _ _ s
  · split_ifs
    · exact .takePlan _ _ s
    · exact .refl s
  · exact .refl s

theorem Kept.enterHolding (hs : s.group.state.lifting) : Kept edit s (enterHolding s) :=
  (Kept.of_sync (y := { s.sync with speed := 0, dir := .none })).trans (.enterGroup_of_lifting hs (by simp) (by simp) (by simp))

/-- The completion of the segment at the plan position, in MOVING. -/
theorem Kept.completeSegment {g : Segment} (hg : s.segment = some g) (hs : s.group.state = .moving) :
    Kept edit s (completeSegment g s) := by
  unfold Machine.completeSegment
  extract_lets k last holds appendQueued rests y p t u w
  have hk : k < s.plan.activeBank.length := by
    obtain ⟨h, -⟩ := List.getElem?_eq_some_iff.mp hg
    exact h
  have ht : Kept edit s t := .of_plan rfl fun ⟨h1, h2, h3, h4, h5, _⟩ => ⟨h1, h2, h3, h4, h5, hk⟩
  have hu : Kept edit t u ∧ u.group = t.group := by
    show Kept edit t (if _ then _ else _) ∧ (if _ then _ else _ : State).group = _
    split_ifs
    · exact ⟨.raise _ t, rfl⟩
    · exact ⟨.refl t, rfl⟩
  have hw : Kept edit u w ∧ w.group = u.group := by
    show Kept edit u (if _ then _ else _) ∧ (if _ then _ else _ : State).group = _
    split_ifs
    · exact ⟨.takePlan _ _ u, rfl⟩
    · exact ⟨.refl u, rfl⟩
  have hsw : Kept edit s w := (ht.trans hu.1).trans hw.1
  have hstate : w.group.state = .moving := by rw [hw.2, hu.2]; exact hs
  split_ifs
  · exact hsw.trans (.enterHolding (by simp [GroupState.lifting, hstate]))
  · exact hsw.trans (.startSegment w)

/-! ### The synchronisation unit -/

theorem chooseSpeed_le (a cruise v d : Nat) : chooseSpeed a cruise v d ≤ d := min_le_right _ _

theorem moveBounded_bounds {top : Int} (h : 0 ≤ top) (l : Int) (d : RefDir) (v : Nat) :
    0 ≤ (moveBounded top l d v).lift ∧ (moveBounded top l d v).lift ≤ top := by
  unfold moveBounded
  simp only
  split_ifs <;> simp only <;> omega

/-- A reference step toward a target in range stays in range. -/
theorem refStep_bounds {top target : Int} {r : Ref} (cruise a : Nat) (ht : 0 ≤ target ∧ target ≤ top) (hr : 0 ≤ r.lift ∧ r.lift ≤ top) :
    0 ≤ (refStep top target cruise a r).lift ∧ (refStep top target cruise a r).lift ≤ top := by
  unfold refStep
  simp only
  split_ifs with h1 h2 h3
  · have hv := chooseSpeed_le a cruise r.speed (r.dir.sign * (target - r.lift)).toNat
    generalize chooseSpeed a cruise r.speed (r.dir.sign * (target - r.lift)).toNat = v at hv ⊢
    cases hd : r.dir <;> simp only [hd, RefDir.sign] at h1 hv ⊢ <;> omega
  · exact moveBounded_bounds (by omega) _ _ _
  · have hv := chooseSpeed_le a cruise 0 (-(r.dir.sign * (target - r.lift))).toNat
    generalize chooseSpeed a cruise 0 (-(r.dir.sign * (target - r.lift))).toNat = v at hv ⊢
    cases hd : r.dir <;> simp only [hd, RefDir.sign, RefDir.reverse] at h2 hv ⊢ <;> omega
  · exact hr

theorem effectiveTarget_bounds (p : GroupParams) (g : Segment) : 0 ≤ effectiveTarget p g ∧ effectiveTarget p g ≤ refTop p := by
  unfold effectiveTarget refTop
  omega

theorem Kept.setRef {r : Ref} (hs : s.group.state ≠ .setup ∧ s.group.state ≠ .prepared)
    (hr : GroupSafe s → 0 ≤ r.lift ∧ r.lift ≤ refTop s.group.params) : Kept edit s (setRef r s) :=
  .of_sync rfl fun h => ⟨fun hg => by rcases hg with hg | hg; exacts [absurd hg hs.1, absurd hg hs.2], hr h⟩

theorem Kept.moveStep {g : Segment} (hg : s.segment = some g) (hs : s.group.state = .moving) : Kept edit s (moveStep g s).state := by
  have ht : Kept edit s (Machine.setRef (refStep (refTop s.group.params) (effectiveTarget s.group.params g)
      (effectiveCruise s.group.params g) g.accel s.sync.toRef) s) :=
    .setRef (by simp [hs]) fun h => refStep_bounds _ _ (effectiveTarget_bounds _ _) h.refSafe.2
  unfold Machine.moveStep
  simp only
  split_ifs
  · exact ht.trans (.completeSegment hg hs)
  · exact ht

theorem Kept.dwellStep {g : Segment} (hg : s.segment = some g) (hs : s.group.state = .moving) : Kept edit s (dwellStep g s).state := by
  have ht : Kept edit s { s with sync := { s.sync with dwell := some ((s.sync.dwell.getD 0) - 1) } } := .of_sync
  unfold Machine.dwellStep
  simp only
  split_ifs
  · exact ht.trans (.completeSegment hg hs)
  · exact ht

theorem Kept.rampStep (hs : s.group.state = .stopping) : Kept edit s (rampStep s).state :=
  .setRef (by simp [hs]) fun _ => moveBounded_bounds (by unfold refTop; omega) _ _ _

theorem Kept.descentStep (hs : s.group.state = .landing) : Kept edit s (descentStep s).state := by
  unfold Machine.descentStep
  simp only
  split_ifs
  · exact (Kept.setRef (by simp [hs]) fun _ => ⟨le_refl _, by unfold refTop; simp⟩).trans (.endDescent _)
  · exact .setRef (by simp [hs]) fun h => refStep_bounds _ _ ⟨le_refl _, by unfold refTop; omega⟩ h.refSafe.2

theorem Kept.referenceStage (s : State) : Kept edit s (referenceStage s).state := by
  unfold Machine.referenceStage
  split
  · rename_i hs
    split
    · rename_i g hg
      split
      · exact .moveStep hg hs
      · exact .dwellStep hg hs
    · exact .refl s
  · rename_i hs
    split_ifs
    · exact .rampStep hs
    · exact .refl s
  · rename_i hs
    split_ifs
    · exact .descentStep hs
    · exact .refl s
  · exact .refl s

theorem Kept.handRates (v : Nat) (s : State) : Kept edit s (handRates v s) := by
  unfold Machine.handRates
  split_ifs
  · exact .forStations (fun k t => by
      split_ifs
      · exact .handRate k _ t
      · exact .refl t) s
  · exact .refl s

theorem Kept.handStops (s : State) : Kept edit s (handStops s) := by
  unfold Machine.handStops
  extract_lets t
  have ht : Kept edit s t := .forStations (fun k t => by
    split_ifs
    · exact .handRate k _ t
    · exact .refl t) s
  clear_value t
  exact ht.trans .of_group

theorem Kept.finishComputation (a b : Bool) (s : State) : Kept edit s (finishComputation a b s) := by
  unfold Machine.finishComputation
  split_ifs
  · exact (Kept.forceReference s).trans (.handStops _)
  · exact .handRates 0 s
  · exact (Kept.referenceStage s).trans (.handRates _ _)

theorem Kept.waitCycle (s : State) : Kept edit s (waitCycle s) := by
  have ht := (Kept.freezeReference s).trans (.setWait (edit := edit) (s.group.waitCount + 1) true _)
  unfold Machine.waitCycle
  simp only
  split_ifs
  · exact ht.trans (.takeDetection _ _ _)
  · exact ht

theorem Kept.computation (s : State) : Kept edit s (computation s) := by
  unfold Machine.computation
  extract_lets detections t forced
  have ht : Kept edit s t := (Kept.formErrors s).trans (.takeDetections _ _)
  split_ifs
  · exact ht.trans (((Kept.setWait 0 false t).trans (.finishComputation _ _ _)).trans (.handOver _))
  · exact ht.trans (((Kept.waitCycle t).trans (.finishComputation _ _ _)).trans (.handOver _))
  · exact ht.trans (((Kept.setWait 0 false t).trans (.finishComputation _ _ _)).trans (.handOver _))

end Sys2Proof.Machine

/-! PROOF. What every piece of work keeps: the tracking monitor and the group commands. -/

namespace Sys2Proof.Machine

-- One theorem after another, as in the tests: a thread each for this many proofs would pass the memory limit.
set_option Elab.async false

variable {edit : Prop} {s t u : State} {k : Sta}

/-! ### Position counters and the tracking monitor -/

/-- A change of the monitor that leaves its counts and its gate in form. -/
structure MonKept (m m' : Monitor) : Prop where
  slipRun : m.slipRun ≤ 15 → m'.slipRun ≤ 15 := by exact id
  runaway : m.runaway ≤ 15 → m'.runaway ≤ 15 := by exact id
  openCycles : m.openCycles ≤ 65535 → m'.openCycles ≤ 65535 := by exact id
  gate : (∀ g, m.gate = some g → -8388608 ≤ g.steps ∧ g.steps ≤ 8388607 ∧ -8388608 ≤ g.edges ∧ g.edges ≤ 8388607) →
    ∀ g, m'.gate = some g → -8388608 ≤ g.steps ∧ g.steps ≤ 8388607 ∧ -8388608 ≤ g.edges ∧ g.edges ≤ 8388607 := by exact id

theorem CountsSafe.mon {j j' : Jack} (h : CountsSafe j) (hm : MonKept j.mon j'.mon) (hl : j'.link = j.link := by rfl) : CountsSafe j' := by
  obtain ⟨h1, h2, h3, h4, h5, h6, h7⟩ := h
  unfold CountsSafe
  rw [hl]
  exact ⟨hm.slipRun h1, hm.runaway h2, hm.openCycles h3, h4, h5, h6, hm.gate h7⟩

theorem tally_bounds (x : Int) : -8388608 ≤ tally x ∧ tally x ≤ 8388607 := by
  unfold tally clampInt
  omega

theorem MonKept.pulse (m : Monitor) (d : Dir) : MonKept m (m.pulse d) where
  gate := fun h g hg => by
    obtain ⟨g', hg', rfl⟩ := Option.map_eq_some_iff.mp hg
    exact ⟨(tally_bounds _).1, (tally_bounds _).2, (h g' hg').2.2⟩

theorem MonKept.edge (m : Monitor) (d : Dir) : MonKept m (m.edge d) where
  gate := fun h g hg => by
    obtain ⟨g', hg', rfl⟩ := Option.map_eq_some_iff.mp hg
    exact ⟨(h g' hg').1, (h g' hg').2.1, tally_bounds _⟩

theorem Kept.edge (k : Sta) (l : EncLine) (s : State) : Kept edit s (s.updJack k (fun j => j.edge l)) :=
  .updJack { counts := fun h => h.mon (.edge _ _) }

theorem Kept.bothChange (k : Sta) (s : State) : Kept edit s (s.updJack k Jack.bothChange) := .updJack {}

theorem Kept.latchWork (s : State) : Kept edit s (latchWork s) := .updAll fun _ => {}

theorem Kept.preset (k : Sta) (s : State) : Kept edit s (s.updJack k Jack.preset) :=
  .updJack (by
    unfold Jack.preset
    simp only
    split_ifs <;> exact {})

theorem Kept.takeActivation (k : Sta) (s : State) : Kept edit s (takeActivation k s) := by
  unfold Machine.takeActivation
  split_ifs
  · exact (Kept.preset k s).trans (.stopMove k _ _)
  · exact .refl s

theorem slipRunAfter_le (p : GroupParams) (j : Jack) (g : SlipGate) (h : j.mon.slipRun ≤ 15) : slipRunAfter p j g ≤ 15 := by
  unfold slipRunAfter saturateNat
  split_ifs <;> omega

theorem MonKept.closedGate (p : GroupParams) (j : Jack) (g : SlipGate) (n : Nat) :
    MonKept j.mon (closedGate p j g (SlipGate.opened n)) where
  slipRun := slipRunAfter_le p j g
  gate := fun _ g' hg' => by cases hg'; simp [SlipGate.opened]

theorem MonKept.gateStep (p : GroupParams) (j : Jack) : MonKept j.mon (gateStep p j) := by
  unfold Machine.gateStep
  split
  · exact { openCycles := fun _ => min_le_left _ _ }
  · split
    · exact { gate := fun _ g' hg' => by cases hg'; simp [SlipGate.opened] }
    · split
      · exact .closedGate p j _ _
      · rename_i g hg _
        exact { gate := fun h g' hg' => by cases hg'; exact h g hg }

theorem runawayAfter_le (p : GroupParams) (j : Jack) : runawayAfter p j ≤ 15 := by
  unfold runawayAfter saturateNat
  split_ifs <;> omega

theorem MonKept.monitorStep (g : GroupState) (p : GroupParams) (j : Jack) : MonKept j.mon (monitorStep g p j) := by
  obtain ⟨h1, h2, h3, h4⟩ := MonKept.gateStep p j
  unfold Machine.monitorStep
  simp only
  split_ifs
  · exact ⟨h1, h2, h3, h4⟩
  · exact { slipRun := h1, runaway := fun _ => runawayAfter_le p j, openCycles := h3, gate := h4 }

theorem Kept.lockoutWatch (s : State) : Kept edit s (lockoutWatch s) := by
  unfold Machine.lockoutWatch
  split_ifs
  · refine .updAll fun k => { counts := fun h => h.mon { runaway := fun hr => ?_ } }
    unfold runawayInLockout saturateNat
    split_ifs <;> simp only <;> omega
  · exact .refl s

theorem Kept.raiseSlip (k : Sta) (p : GroupParams) (j : Jack) (g : SlipGate) (s : State) : Kept edit s (raiseSlip k p j g s) := by
  unfold Machine.raiseSlip
  split_ifs
  · exact .raise _ s
  · exact .refl s

theorem Kept.slipEvent (found : State) (k : Sta) (s : State) : Kept edit s (slipEvent found k s) := by
  unfold Machine.slipEvent
  split
  · exact .raiseSlip k _ _ _ s
  · exact .refl s

/-- The monitor's work writes what it makes of the monitors that were found. -/
theorem Kept.monitorWork (found s : State) (h : ∀ k, (found.jack k).mon = (s.jack k).mon) : Kept edit s (monitorWork found s) := by
  refine ((Kept.updAll (f := fun k j => { j with mon := Machine.monitorStep found.group.state found.group.params (found.jack k) })
    fun k => { counts := fun hs => hs.mon ?_ }).trans (.forStations (fun k t => .slipEvent found k t) _)).trans
    ((Kept.handOver _).trans (.takeDetections _ _))
  rw [← h k]
  exact .monitorStep _ _ _

theorem Kept.closeSlipGate (k : Sta) (s : State) : Kept edit s (closeSlipGate k s) := by
  unfold Machine.closeSlipGate
  simp only
  split
  · exact .refl s
  · rename_i g _
    have ht : Kept edit s (s.updJack k fun j => { j with
        mon := Machine.closedGate s.group.params j g (SlipGate.opened (s.group.params.gateLength + 1)) }) :=
      .updJack { counts := fun h => h.mon (.closedGate _ _ _ _) }
    have hu := (ht.trans (.raiseSlip k s.group.params (s.jack k) g _)).trans (.handOver _)
    split_ifs
    · exact hu.trans (.takeDetection _ _ _)
    · exact hu

/-! ### The group commands -/

theorem runSetupDone_cases (s : State) : (∃ f, configFailure s = some f ∧ runSetupDone s =
      { Executed.refused .badConfig s with check := f.1, index := f.2 }) ∨
    (configFailure s = none ∧ runSetupDone s =
      Executed.done (enterGroup .prepared { s with group := { s.group with validated := true } })) := by
  unfold runSetupDone
  split
  · rename_i f h; exact .inl ⟨f, h, rfl⟩
  · rename_i h; exact .inr ⟨h, rfl⟩

theorem Kept.runSetupDone (hs : s.group.state = .setup) : Kept edit s (runSetupDone s).state := by
  obtain ⟨f, -, e⟩ | ⟨-, e⟩ := runSetupDone_cases s <;> rw [e]
  · exact .refl s
  · have hv : Kept edit s { s with group := { s.group with validated := true } } := {
      group := fun ⟨h1, h2, _, h4, h5⟩ => ⟨h1, h2, fun hv => (by cases hv), fun _ => h4 (.inl hs), h5⟩ }
    refine hv.trans (.enterGroup (g := .prepared) (by simp) fun h => ?_)
    have hn : s.group.state ≠ .engaging := by simp [hs]
    exact .prepared (h.2.2.2.1 (.inl hs)) (h.not_seeks hn) rfl

theorem Kept.leaveStopped (s : State) : Kept edit s (leaveStopped s) := by
  unfold Machine.leaveStopped
  split_ifs
  · exact .endTrims s
  · exact .refl s

@[simp] theorem leaveStopped_group (s : State) : (leaveStopped s).group = s.group := by
  unfold Machine.leaveStopped
  split_ifs <;> simp

theorem anyContact_eq_false : anyContact s = false ↔ ∀ k, (s.jack k).record.contact = none := by
  simp [anyContact, anyJack]

theorem endTrims_contact (s : State) (i : Sta) : ((endTrims s).jack i).record.contact = (s.jack i).record.contact := by
  unfold Machine.endTrims
  refine forStations_keeps (P := fun t => (t.jack i).record.contact = (s.jack i).record.contact) (fun k t ht => by
    split
    · split_ifs
      · exact (stopMove_contact _ t k i).trans ht
      · exact ht
    · exact ht) ?_
  rfl

theorem leaveStopped_contact (s : State) (i : Sta) : ((leaveStopped s).jack i).record.contact = (s.jack i).record.contact := by
  unfold Machine.leaveStopped
  split_ifs
  · exact endTrims_contact s i
  · rfl

/-- A group without a contact height becomes unvalidated and passes to SETUP (R97). -/
theorem Kept.toSetup (hc : GroupSafe s → ∀ k, (s.jack k).record.contact = none) (hs : s.group.state ≠ .engaging) :
    Kept edit s (Machine.enterGroup .setup { s with group := { s.group with validated := false } }) := by
  have he := Kept.enterGroup (edit := edit) (g := .setup) (s := s) (by simp) fun h =>
    ⟨.inr (h.not_seeks hs), .inl rfl, fun _ => hc h⟩
  refine Kept.trans (t := { Machine.enterGroup .setup s with
    group := { (Machine.enterGroup .setup s).group with validated := false } }) (he.trans { group := fun h => ?_ }) ?_
  · have hst := enterGroup_state .setup s
    obtain ⟨h1, h2, h3, h4, h5⟩ := h
    exact ⟨h1, h2, fun _ => .inl hst, fun _ => h4 (.inl hst), h5⟩
  · have : Machine.enterGroup .setup { s with group := { s.group with validated := false } } =
        { Machine.enterGroup .setup s with group := { (Machine.enterGroup .setup s).group with validated := false } } := rfl
    rw [this]
    exact .refl _

theorem Kept.runResetup (ht : takenIn .resetup s.group.state = true) : Kept edit s (runResetup s).state := by
  unfold Machine.runResetup
  have hstate : s.group.state = .prepared ∨ s.group.state = .stopped := by simpa [takenIn] using ht
  split_ifs with h
  · exact .refl s
  · refine ((Kept.leaveStopped s).trans (.setCause .none _)).trans (.toSetup (fun hs k => ?_) ?_)
    · have hc : ∀ k, (s.jack k).record.contact = none := by
        rcases hstate with e | e
        · intro k
          have h4 := hs.2.2.2.1 (.inr (.inl (by simpa using e))) k
          rwa [setCause_jack, leaveStopped_contact] at h4
        · exact anyContact_eq_false.mp (by simpa [e] using h)
      rw [setCause_jack, leaveStopped_contact]
      exact hc k
    · rw [setCause_group_state, leaveStopped_group]
      rcases hstate with e | e <;> rw [e] <;> simp

theorem RecordKept.toSeeking (r : StationRec) (h : Int) (hr : r.state = .idle) : RecordKept .engaging r (r.toSeeking h) where
  safe := fun ⟨h1, h2, _⟩ => ⟨h1.trans (by rw [hr]; rfl), h2.trans (by rw [hr]; rfl), rfl⟩
  seeks := fun _ => .inr rfl
  contact := fun _ => .inl rfl

theorem Kept.seekAll (hs : s.group.state = .engaging) : Kept edit s (seekAll s) :=
  .updAll fun k => by
    split
    · rename_i h
      exact { record := hs ▸ .toSeeking _ _ (Jack.isIn_eq_true.mp h) }
    · exact .refl _

theorem Kept.runEngage (ht : takenIn .engage s.group.state = true) : Kept edit s (runEngage s).state := by
  unfold Machine.runEngage
  have hstate : s.group.state = .prepared := by simpa [takenIn] using ht
  split_ifs
  · exact .refl s
  · exact .refl s
  · exact .refl s
  · refine (((Kept.setCause .none s).trans (.clearWait _)).trans (.enterGroup (by simp) fun h => ⟨.inl rfl, .inr (.inr ?_), by simp⟩)).trans
      (.seekAll (enterGroup_state _ _))
    exact h.validated (by simp [hstate]) (by simp [hstate])

theorem Kept.enterMoving (hs : s.group.state.lifting) : Kept edit s (enterMoving s) :=
  ((Kept.setCause .none s).trans (.enterGroup_of_lifting hs (by simp) (by simp) (by simp))).trans (.startSegment _)

theorem Kept.runRun (ht : takenIn .run s.group.state = true) : Kept edit s (runRun s).state := by
  unfold Machine.runRun
  have hstate : s.group.state = .poised := by simpa [takenIn] using ht
  split_ifs
  · exact .refl s
  · exact (Kept.clearWait s).trans (.enterMoving (by simp [GroupState.lifting, hstate]))

theorem Kept.runContinue (ht : takenIn .continueRun s.group.state = true) : Kept edit s (runContinue s).state := by
  unfold Machine.runContinue
  have hstate : s.group.state = .holding := by simpa [takenIn] using ht
  split_ifs
  · exact .refl s
  · exact .enterMoving (by simp [GroupState.lifting, hstate])

theorem Kept.runResume (ht : takenIn .resume s.group.state = true) : Kept edit s (runResume s).state := by
  unfold Machine.runResume
  have hstate : s.group.state = .stopped := by simpa [takenIn] using ht
  simp only
  split_ifs
  · exact .refl s
  · exact .refl s
  · exact ((Kept.leaveStopped s).trans (.freezeReference _)).trans (.enterMoving (by simp [GroupState.lifting, hstate]))
  · exact ((Kept.leaveStopped s).trans (.setCause _ _)).trans (.enterHolding (by simp [GroupState.lifting, hstate]))

theorem Kept.runStop (ht : takenIn .stop s.group.state = true) : Kept edit s (runStop s).state := by
  have hstate : s.group.state = .poised ∨ s.group.state = .moving ∨ s.group.state = .holding := by simpa [takenIn, or_assoc] using ht
  have hl : s.group.state.lifting := by rcases hstate with e | e | e <;> simp [GroupState.lifting, e]
  refine (Kept.setCause .command s).trans ?_
  show Kept edit _ (Machine.enterStopping _)
  unfold Machine.enterStopping
  split_ifs
  · exact .refl _
  · exact (Kept.of_group).trans (.enterGroup_of_lifting hl (by simp) (by simp) (by simp))

theorem Kept.runLand (ht : takenIn .land s.group.state = true) : Kept edit s (runLand s).state := by
  unfold Machine.runLand
  have hstate : s.group.state = .poised ∨ s.group.state = .holding ∨ s.group.state = .stopped := by simpa [takenIn, or_assoc] using ht
  have hl : s.group.state.lifting := by rcases hstate with e | e | e <;> simp [GroupState.lifting, e]
  extract_lets t
  have hland : Kept edit s t := (((Kept.leaveStopped s).trans (.setCause .none _)).trans
    (.enterGroup_of_lifting (by simpa using hl) (by simp) (by simp) (by simp))).trans (.beginDescent _)
  have htstate : t.group.state = .landing := enterGroup_state _ _
  split_ifs with _ hidle
  · exact .refl s
  · refine hland.trans ((Kept.endDescent t).trans (.enterGroup (g := .prepared) (by simp) fun h => ?_))
    have hn := contact_none_of_allIdle h hidle
    exact .prepared (fun k => (hn k).1) (fun k => (hn k).2) (h.validated (by simp [htstate]) (by simp [htstate]))
  · exact hland

theorem Kept.refreshGeometry (s : State) : Kept edit s (refreshGeometry s) :=
  .foldl (fun t e => by
    split
    · exact .refreshTwist _ t
    · exact .refreshStep _ t
    · exact .refl t) _ s

theorem refreshTwist_group (i : Nat) (s : State) : (refreshTwist i s).group = s.group := by unfold Machine.refreshTwist; split <;> rfl
theorem refreshStep_group (i : Nat) (s : State) : (refreshStep i s).group = s.group := by unfold Machine.refreshStep; split <;> rfl

theorem refreshGeometry_group (s : State) : (refreshGeometry s).group = s.group := by
  unfold Machine.refreshGeometry
  generalize s.group.faults = l
  induction l generalizing s with
  | nil => rfl
  | cons e l ih =>
    rw [List.foldl_cons, ih]
    split
    · exact refreshTwist_group _ s
    · exact refreshStep_group _ s
    · rfl

theorem Kept.runAckFaults (s : State) : Kept edit s (runAckFaults s).state :=
  ((Kept.refreshGeometry s).trans (.setFaults (by rw [refreshGeometry_group]; exact List.filter_sublist))).trans (.returnFaulted _)

/-- The state the group comes up in is one it may enter from LOCKED_OUT. -/
theorem MayEnter.stateAfterLockout (h : GroupSafe s) (hs : s.group.state = .lockedOut) : MayEnter (stateAfterLockout s) s := by
  have hn := h.not_seeks (by simp [hs])
  unfold Machine.stateAfterLockout
  split_ifs with hc hv
  · refine ⟨.inr hn, .inr (.inr ?_), by simp⟩
    by_contra hv
    exact absurd hc (by rw [anyContact_eq_false.mpr (h.2.2.2.1 (.inr (.inr (by simpa using hv))))]; simp)
  · exact .prepared (anyContact_eq_false.mp (by simpa using hc)) hn hv
  · exact ⟨.inr hn, .inl rfl, fun _ => anyContact_eq_false.mp (by simpa using hc)⟩

theorem Kept.runClearLockout (ht : takenIn .clearLockout s.group.state = true) : Kept edit s (runClearLockout s).state := by
  have hstate : s.group.state = .lockedOut := by simpa [takenIn] using ht
  unfold Machine.runClearLockout
  split
  · exact .refl s
  · refine (((Kept.setFaults List.filter_sublist).trans (.returnFaulted _)).trans (.motionReset true _)).trans
      (.enterGroup (fun h => ?_) fun h => .stateAfterLockout h (by simpa using hstate))
    revert h
    unfold stateAfterLockout
    split_ifs <;> simp

theorem Kept.runChecked (c : GroupCommand) (ht : takenIn c s.group.state = true) : Kept edit s (runChecked c s).state := by
  cases c with
  | setupDone => exact .runSetupDone (by simpa [takenIn] using ht)
  | resetup => exact .runResetup ht
  | engage => exact .runEngage ht
  | run => exact .runRun ht
  | continueRun => exact .runContinue ht
  | stop => exact .runStop ht
  | resume => exact .runResume ht
  | land => exact .runLand ht
  | ackFaults => exact .runAckFaults s
  | clearLockout => exact .runClearLockout ht

theorem Kept.runCommand (c : GroupCommand) (s : State) : Kept edit s (runCommand c s).state := by
  unfold Machine.runCommand
  split_ifs with h1 h2
  · exact .refl s
  · exact .refl s
  · exact .runChecked c (by simpa using h1)

end Sys2Proof.Machine

/-! PROOF. What every piece of work keeps: the cycle start. -/

namespace Sys2Proof.Machine

-- One theorem after another, as in the tests: a thread each for this many proofs would pass the memory limit.
set_option Elab.async false

variable {edit : Prop} {s t u : State} {k : Sta}

/-! ### What raises events and writes nothing else of the line controller (R181) -/

/-- From `s` to `t` the line controller is left alone but for events raised, and so is the command slot. -/
def Quiet (s t : State) : Prop := t.line = { s.line with raised := t.line.raised } ∧ t.group.slot = s.group.slot

theorem Quiet.refl (s : State) : Quiet s s := ⟨rfl, rfl⟩

theorem Quiet.trans (h : Quiet s t) (g : Quiet t u) : Quiet s u := ⟨by rw [g.1, h.1], g.2.trans h.2⟩

theorem Quiet.queue (h : Quiet s t) : t.line.queue = s.line.queue := by rw [h.1]

theorem Quiet.raise (e : Event) (s : State) : Quiet s (raise e s) := ⟨rfl, rfl⟩

theorem Quiet.forStations {f : Sta → State → State} (h : ∀ k t, Quiet t (f k t)) (s : State) : Quiet s (forStations f s) :=
  forStations_keeps (P := fun t => Quiet s t) (fun k t ht => ht.trans (h k t)) (.refl s)

theorem Quiet.foldl {α : Type} {f : State → α → State} (h : ∀ t x, Quiet t (f t x)) (l : List α) (s : State) : Quiet s (l.foldl f s) := by
  induction l generalizing s with
  | nil => exact .refl s
  | cons x l ih => exact (h s x).trans (ih _)

theorem Quiet.enterGroup (g : GroupState) (s : State) : Quiet s (enterGroup g s) := by
  unfold Machine.enterGroup
  simp only
  split_ifs <;> exact ⟨rfl, rfl⟩

theorem Quiet.stopMove (k : Sta) (r : OpResult) (s : State) : Quiet s (stopMove k r s) := by
  unfold Machine.stopMove
  split
  · exact .refl s
  · split_ifs <;> exact ⟨rfl, rfl⟩

theorem Quiet.endTrims (s : State) : Quiet s (endTrims s) :=
  .forStations (fun k t => by
    split
    · split_ifs
      · exact .stopMove k _ t
      · exact .refl t
    · exact .refl t) s

theorem Quiet.leaveStopped (s : State) : Quiet s (leaveStopped s) := by
  unfold Machine.leaveStopped
  split_ifs
  · exact .endTrims s
  · exact .refl s

theorem Quiet.startSegment (s : State) : Quiet s (startSegment s) := by
  unfold Machine.startSegment
  split
  · exact .refl s
  · simp only
    split_ifs <;> exact ⟨rfl, rfl⟩

theorem Quiet.enterMoving (s : State) : Quiet s (enterMoving s) :=
  (Quiet.enterGroup .moving (Machine.setCause .none s)).trans (.startSegment _)

theorem Quiet.enterStopping (s : State) : Quiet s (enterStopping s) := by
  unfold Machine.enterStopping
  split_ifs
  · exact .refl s
  · exact .enterGroup .stopping _

theorem Quiet.refreshGeometry (s : State) : Quiet s (refreshGeometry s) :=
  .foldl (fun t e => by
    split
    · unfold Machine.refreshTwist; split <;> exact ⟨rfl, rfl⟩
    · unfold Machine.refreshStep; split <;> exact ⟨rfl, rfl⟩
    · exact .refl t) _ s

/-- A command's run raises events, and writes nothing else of the line controller, nor of the slot. -/
theorem Quiet.runChecked (c : GroupCommand) (s : State) : Quiet s (runChecked c s).state := by
  cases c with
  | setupDone =>
    obtain ⟨f, -, e⟩ | ⟨-, e⟩ := runSetupDone_cases s <;> rw [Machine.runChecked, e]
    · exact .refl s
    · exact .enterGroup .prepared _
  | resetup =>
    unfold Machine.runChecked runResetup
    split_ifs
    · exact .refl s
    · exact (Quiet.leaveStopped s).trans (.enterGroup .setup _)
  | engage =>
    unfold Machine.runChecked runEngage
    split_ifs
    · exact .refl s
    · exact .refl s
    · exact .refl s
    · exact .enterGroup .engaging _
  | run =>
    unfold Machine.runChecked runRun
    split_ifs
    · exact .refl s
    · exact .enterMoving _
  | continueRun =>
    unfold Machine.runChecked runContinue
    split_ifs
    · exact .refl s
    · exact .enterMoving _
  | stop => exact .enterStopping (Machine.setCause .command s)
  | resume =>
    unfold Machine.runChecked runResume
    simp only
    split_ifs
    · exact .refl s
    · exact .refl s
    · exact (Quiet.leaveStopped s).trans (.enterMoving _)
    · exact (Quiet.leaveStopped s).trans (.enterGroup .holding _)
  | land =>
    unfold Machine.runChecked runLand
    simp only
    split_ifs
    · exact .refl s
    · exact ((Quiet.leaveStopped s).trans (.enterGroup .landing _)).trans (.enterGroup .prepared _)
    · exact (Quiet.leaveStopped s).trans (.enterGroup .landing _)
  | ackFaults => exact .refreshGeometry s
  | clearLockout =>
    show Quiet s (runClearLockout s).state
    unfold runClearLockout
    split
    · exact .refl s
    · exact .enterGroup _ (Machine.motionReset true _)

theorem Quiet.runCommand (c : GroupCommand) (s : State) : Quiet s (runCommand c s).state := by
  unfold Machine.runCommand
  split_ifs
  · exact .refl s
  · exact .refl s
  · exact .runChecked c s

/-! ### The execution of a waiting command -/

theorem Kept.clearSlot (s : State) : Kept edit s (clearSlot s) where
  queue := fun ⟨h1, _, h3⟩ => ⟨h1, fun h => (by cases h), h3⟩

/-- A reply admitted after the work that made it. -/
theorem Kept.then_enqueue {f : Frame} (h : Kept edit s u) (hq : QueueSafe s → QueueSafe (Machine.enqueue f u)) :
    Kept edit s (Machine.enqueue f u) where
  commands := h.commands
  pins := h.pins
  permit := h.permit
  queue := hq
  records := h.records
  faults := h.faults
  plan := h.plan
  gens := h.gens
  tallies := h.tallies
  rest := h.rest
  applied := h.applied
  group := h.group
  config := h.config

/-- The reply of a waiting command has its place, kept free while it waited (R180). -/
theorem Kept.executeCommand {c : SlotCommand} (h : s.group.slot.isSome = true) : Kept edit s (executeCommand c s) := by
  unfold Machine.executeCommand
  refine Kept.trans (.then_enqueue ((Kept.clearSlot s).trans (.runCommand _ _)) fun hs => ?_) (.handOver _)
  obtain ⟨-, h2, h3⟩ := hs
  have hr := Quiet.runCommand c.command (Machine.clearSlot s)
  have hq : (Machine.runCommand c.command (Machine.clearSlot s)).state.line.queue = s.line.queue := hr.queue
  have hl := h2 h
  refine ⟨?_, fun hslot => ?_, ?_⟩
  · rw [enqueue_line_queue, hq, List.length_append]; simp; omega
  · rw [enqueue_group, hr.2] at hslot
    cases hslot
  · rw [enqueue_line_queue, hq, List.countP_append]
    simpa [Frame.isSnapshot, executedReply, replyFrame] using h3

theorem Kept.executeSlot (s : State) : Kept edit s (executeSlot s) := by
  unfold Machine.executeSlot
  split
  · exact .refl s
  · rename_i c h
    exact .executeCommand (by simp [h])

/-! ### The cycle start and its parts -/

theorem RecordKept.takeOffset {g : GroupState} (r : StationRec) : RecordKept g r r.takeOffset := by
  unfold StationRec.takeOffset
  split <;> exact {}

theorem StationRec.takeOffset_config (r : StationRec) : r.takeOffset.config = r.config := by
  unfold StationRec.takeOffset
  split <;> rfl

theorem Kept.takeOffsets (s : State) : Kept edit s (takeOffsets s) :=
  .updAll fun _ => { record := .takeOffset _, config := fun _ => StationRec.takeOffset_config _ }

theorem Kept.openCycle (s : State) : Kept edit s (openCycle s) :=
  (((((((Kept.advanceCycle s).trans (.beaconWork _)).trans (.latchWork _)).trans (.takeOffsets _)).trans (.takeAtCycleStart _)).trans
    (.handOver _)).trans (.lockoutWatch _)).trans (.executeSlot _)

theorem Kept.blockWork (s : State) : Kept edit s (blockWork s) :=
  ((((((Kept.clearRates s).trans (.monitorWork s _ fun _ => by rw [clearRates_jack])).trans (.linkWork s _)).trans
    (.sequencerWork s _)).trans (.handOver _)).trans (.geometryWork s _)).trans (.handOver _)

theorem Kept.computeCycle (s : State) : Kept edit s (computeCycle s) := by
  unfold Machine.computeCycle
  simp only
  split_ifs
  · exact (Kept.computation s).trans (.releaseAll _)
  · exact .computation s

theorem Kept.stopTest (b : Bool) (s : State) : Kept edit s (stopTest b s) := by
  obtain ⟨⟨hs, -⟩, e⟩ | ⟨-, e⟩ := stopTest_cases b s <;> rw [e]
  · exact ((Kept.clearWait s).trans
      (.enterGroup_of_lifting (by simp [GroupState.lifting, hs]) (by simp) (by simp) (by simp))).trans (.handOver _)
  · exact .refl s

theorem Kept.closeCycle (s : State) : Kept edit s (closeCycle s) :=
  (((Kept.computeCycle s).trans (.stopTest _ _)).trans (.streamWork _)).trans (.settleBrakes _)

theorem Kept.cycleWork (s : State) : Kept edit s (cycleWork s) :=
  ((Kept.openCycle s).trans (.blockWork _)).trans (.closeCycle _)

theorem Kept.unlessReset {f : State → State} (h : s.pins.resetAsserted = false → Kept edit s (f s)) : Kept edit s (unlessReset f s) := by
  unfold Machine.unlessReset
  split_ifs with hr
  · exact .refl s
  · exact h (by simpa using hr)

theorem Kept.timeoutWork (s : State) : Kept edit s (timeoutWork s) := by
  unfold Machine.timeoutWork
  split_ifs
  · exact (((Kept.waitCycle s).trans (.finishComputation _ _ _)).trans (.handOver _)).trans (.settleBrakes _)
  · exact .refl s

/-- A DWELL that ends at its next computation is under way in MOVING, at the plan position. -/
theorem endingDwell_eq_some {g : Segment} (h : endingDwell s = some g) : s.segment = some g ∧ s.group.state = .moving := by
  unfold endingDwell at h
  split at h
  · rename_i g' hs hg _
    split_ifs at h
    cases h
    exact ⟨hg, hs⟩
  · cases h

theorem Kept.dwellWork (s : State) : Kept edit s (dwellWork s) := by
  unfold Machine.dwellWork
  split
  · rename_i g h
    obtain ⟨hg, hs⟩ := endingDwell_eq_some h
    exact ((Kept.dwellStep hg hs).trans (.handOver _)).trans (.settleBrakes _)
  · exact .refl s

theorem Kept.snapshotWork (s : State) : Kept edit s (snapshotWork s) := by
  unfold Machine.snapshotWork
  split_ifs
  · exact .streamSnapshot s
  · exact .refl s

theorem Kept.completePeriod (k : Sta) (s : State) : Kept edit s (s.updJack k Jack.completePeriod) :=
  .updJack {
    gen := (GenKept.complete _).safe
    counts := fun h => h.mon (.pulse _ _)
    rest := fun _ _ => (GenKept.complete _).rest
    brake := fun _ hb => (GenKept.complete _).brake.trans hb }

theorem Kept.periodWork (k : Sta) (s : State) : Kept edit s (periodWork k s) := by
  unfold Machine.periodWork
  split_ifs
  · exact .refl s
  · refine (((Kept.completePeriod k s).trans ?_).trans (.settleBrakes _)).trans (.handOver _)
    unfold Machine.idleIfResting
    split_ifs
    · exact .refl _
    · exact .idleEvent k _

theorem Kept.setHome (k : Sta) (b : Bool) (s : State) : Kept edit s (setHome k b s) := .updJack {}

theorem Kept.homeFall (k : Sta) (s : State) : Kept edit s (homeFall k s) := by
  unfold Machine.homeFall
  split_ifs
  · exact .refl s
  · exact (Kept.setHome k true s).trans (.unlessReset fun _ => (Kept.takeActivation k _).trans (.handOver _))

end Sys2Proof.Machine

/-! PROOF. What every piece of work keeps: the requests. -/

namespace Sys2Proof.Machine

-- One theorem after another, as in the tests: a thread each for this many proofs would pass the memory limit.
set_option Elab.async false

variable {edit : Prop} {s t u : State} {k : Sta}

/-! ### Brakes left as called for (R50 to R52) -/

/-- A station's brake output, its level called for and its generator's run state are the same. -/
def Jack.SameBrake (j i : Jack) : Prop :=
  (∀ g, brakeCalled g i = brakeCalled g j) ∧ i.gen.run = j.gen.run ∧ i.gen.brake = j.gen.brake

/-- Brakes as called for are left as called for. -/
def Braked (s t : State) : Prop := (∀ k, BrakeSafe s (s.jack k)) → ∀ k, BrakeSafe t (t.jack k)

theorem Jack.SameBrake.refl (j : Jack) : j.SameBrake j := ⟨fun _ => rfl, rfl, rfl⟩

theorem Braked.of_same (hj : ∀ k, (s.jack k).SameBrake (t.jack k)) (hp : t.group.permit = s.group.permit := by rfl)
    (hg : t.group.state = s.group.state := by rfl) : Braked s t := fun h k => by
  obtain ⟨hcall, hrun, hbrake⟩ := hj k
  unfold BrakeSafe
  rw [hp, hg, hcall, hrun, hbrake]
  exact h k

/-- Work that leaves the stations and the group state alone. -/
theorem Braked.of_jacks (hj : t.jacks = s.jacks := by rfl) (hp : t.group.permit = s.group.permit := by rfl)
    (hg : t.group.state = s.group.state := by rfl) : Braked s t :=
  .of_same (fun k => by unfold State.jack; rw [hj]; exact .refl _) hp hg

theorem Braked.refl (s : State) : Braked s s := id

theorem Braked.trans (h : Braked s t) (g : Braked t u) : Braked s u := g ∘ h

/-- Work that ends by re-evaluating every brake. -/
theorem Braked.settled (s t : State) : Braked s (settleBrakes t) := fun _ k => settleBrakes_brakeSafe t k

theorem Braked.handOver (s : State) : Braked s (handOver s) := .of_jacks (handOver_jacks s) (by simp) (by simp)

theorem Braked.updJack {f : Jack → Jack} (h : (s.jack k).SameBrake (f (s.jack k))) : Braked s (s.updJack k f) :=
  .of_same fun i => by
    rw [updJack_jack]
    split_ifs with e
    · rw [e]; exact h
    · exact .refl _

theorem Jack.SameBrake.preset (j : Jack) : j.SameBrake j.preset := by
  unfold Jack.preset
  simp only
  split_ifs <;> exact ⟨fun _ => rfl, rfl, rfl⟩

/-- The stop form leaves a generator running or at rest, and the station in its state. -/
theorem Jack.SameBrake.stopForm (j : Jack) {m : Move} (hm : j.record.move = some m) :
    j.SameBrake { j with gen := j.gen.stopForm, record := { j.record with move := some { m with done := true } } } := by
  have hg : j.gen.stopForm.run = j.gen.run ∧ j.gen.stopForm.brake = j.gen.brake := by
    unfold Generator.stopForm
    split
    · exact ⟨rfl, rfl⟩
    · split <;> exact ⟨rfl, rfl⟩
    · exact ⟨rfl, rfl⟩
  refine ⟨fun g => ?_, hg⟩
  simp only [brakeCalled, Jack.movesWhileFaulted, Jack.isIn, Generator.running, hm, hg.1]

theorem Braked.stopMove (k : Sta) (r : OpResult) (s : State) : Braked s (stopMove k r s) := by
  unfold Machine.stopMove
  split
  · exact .refl s
  · rename_i m hm
    split_ifs
    · exact .refl s
    · refine .of_same (fun i => ?_)
      rw [raise_jack]
      unfold State.updRec State.updGen
      by_cases e : i = k
      · rw [e, updJack_jack_self, updJack_jack_self]
        exact .stopForm _ hm
      · rw [updJack_jack_ne _ _ e, updJack_jack_ne _ _ e]
        exact .refl _

theorem Braked.takeActivation (k : Sta) (s : State) : Braked s (takeActivation k s) := by
  unfold Machine.takeActivation
  split_ifs
  · exact (Braked.updJack (.preset _)).trans (.stopMove k .ok _)
  · exact .refl s

/-! ### Requests -/

/-- What a request does before it is answered: it keeps what `Kept` names, leaves the queue to its reply and the brakes as called for. -/
structure Served (edit : Prop) (s : State) (a : Answer) : Prop where
  kept : Kept edit s a.state
  queue : a.state.line.queue = s.line.queue := by rfl
  brakes : Braked s a.state := by exact .of_jacks

/-- Work before the reply that leaves the queue alone. -/
theorem Served.of {a : Answer} (kept : Kept edit s a.state) (brakes : Braked s a.state := by exact .of_jacks)
    (queue : a.state.line.queue = s.line.queue := by rfl) : Served edit s a := ⟨kept, queue, brakes⟩

theorem Served.refused (o : ReplyOutcome) (s : State) : Served edit s (Answer.refused o s) := .of (.refl s)

theorem Served.withStation {i : Byte} {f : Sta → Answer} (h : ∀ k, Served edit s (f k)) : Served edit s (withStation i s f) := by
  unfold Machine.withStation
  split
  · exact .refused _ s
  · exact h _

theorem replyFrame_ne_snapshot {cls : FrameClass} {kind tag : Byte} {r : Reply} (h : cls ≠ .snapshotNotice) (s : State) :
    (replyFrame cls kind tag r s).cls ≠ .snapshotNotice := h

theorem Kept.finishRequest {cls : FrameClass} {kind tag : Byte} {a : Answer} (hc : cls ≠ .snapshotNotice)
    (hl : s.line.queue.length < 7) (h : Served edit s a) : Kept edit s (finishRequest cls kind tag a) := by
  unfold Machine.finishRequest
  refine h.kept.trans (Kept.trans ?_ (.handOver _))
  split
  · exact .enqueue (replyFrame_ne_snapshot hc _) (by rw [h.queue]; exact hl)
  · exact .refl _

theorem Braked.finishRequest {cls : FrameClass} {kind tag : Byte} {a : Answer} (h : Served edit s a) :
    Braked s (finishRequest cls kind tag a) := by
  unfold Machine.finishRequest
  refine h.brakes.trans (Braked.trans ?_ (.handOver _))
  split <;> exact .of_jacks

theorem Braked.whenRoom {f : State → State} (h : s.line.queue.length < 7 → Braked s (f s)) : Braked s (whenRoom f s) := by
  unfold Machine.whenRoom
  split_ifs with h1 h2
  · exact .refl s
  · exact .refl s
  · exact h (Nat.not_le.mp h2)

theorem Kept.whenRoom {f : State → State} (h : s.line.queue.length < 7 → Kept edit s (f s)) : Kept edit s (whenRoom f s) := by
  unfold Machine.whenRoom
  split_ifs with h1 h2
  · exact .refl s
  · exact .refl s
  · exact h (Nat.not_le.mp h2)

theorem Kept.takeKind {kind tag : Byte} {serve : State → Answer} (h : s.line.queue.length < 7 → Served edit s (serve s)) :
    Kept edit s (takeKind kind tag serve s) :=
  .whenRoom fun hl => .finishRequest (by simp) hl (h hl)

theorem takeKind_keeps {kind tag : Byte} {serve : State → Answer} (h : s.line.queue.length < 7 → Served edit s (serve s)) :
    Kept edit s (takeKind kind tag serve s) ∧ Braked s (takeKind kind tag serve s) :=
  ⟨.takeKind h, .whenRoom fun hl => .finishRequest (h hl)⟩

theorem Served.status (c : Byte) (s : State) : Served edit s (serveStatus c s) := by
  unfold serveStatus
  split_ifs
  · exact .of (.refl s)
  · exact .of (.of_line id id)
  · exact .refused _ s

theorem Served.stationGet (i : Byte) (s : State) : Served edit s (serveStationGet i s) :=
  .withStation fun _ => .of (.updJack {}) (.updJack ⟨fun _ => rfl, rfl, rfl⟩)

theorem Served.carGet (n : Byte) (s : State) : Served edit s (serveCarGet n s) := by
  unfold serveCarGet
  split_ifs
  · exact .of (.refl s)
  · exact .refused _ s

theorem Served.planRead (r i : Byte) (s : State) : Served edit s (servePlanRead r i s) := by
  unfold servePlanRead
  split_ifs
  · exact .of (.refl s)
  · exact .refused _ s

theorem Served.stationSet (hedit : s.group.state = .setup → edit) (i : Byte) (m : Half) (v : RawSettings) :
    Served edit s (serveStationSet i m v s) :=
  .withStation fun k => by
    split_ifs with hs
    · exact .refused _ s
    · exact .refused _ s
    · exact .refused _ s
    · exact .of (.updRec (f := fun r => r.write m v) {} fun hn => absurd (hedit (by simpa using hs)) hn) (.updJack ⟨fun _ => rfl, rfl, rfl⟩)

theorem Kept.editCars (hedit : edit) (l : List Car) (s : State) : Kept edit s { s with cars := l } where
  config := fun hn => absurd hedit hn

theorem Kept.armImbalance (c : Car) (s : State) : Kept edit s (armImbalance c s) :=
  .updAll fun _ => by split <;> exact {}

theorem Quiet.stopMoveUpdJack (k : Sta) (r : OpResult) (f : Jack → Jack) (s : State) : Quiet s ((Machine.stopMove k r s).updJack k f) :=
  (Quiet.stopMove k r s).trans ⟨rfl, rfl⟩

theorem Quiet.applyAssignment (s : State) : Quiet s (applyAssignment s) := by
  unfold Machine.applyAssignment
  extract_lets dropped t u kept
  have ht : Quiet s t := .foldl (fun t k => .stopMoveUpdJack k .aborted _ t) _ _
  split_ifs <;> exact ht

theorem Served.carSet (hedit : s.group.state = .setup → edit) (n : Byte) (r : RawCar) : Served edit s (serveCarSet n r s) := by
  unfold serveCarSet
  simp only
  split_ifs with _ hs
  all_goals try exact .refused _ s
  have he : edit := hedit (by simpa using hs)
  refine ⟨?_, ?_, .settled _ _⟩
  · refine Kept.trans ?_ ((Kept.applyAssignment _).trans (.settleBrakes _))
    refine Kept.trans ?_ (.armImbalance _ _)
    split
    · exact (Kept.armImbalance _ s).trans (.editCars he _ _)
    · exact .editCars he _ s
  · refine (Quiet.applyAssignment _).queue.trans ?_
    split <;> rfl

theorem Served.carDelete (hedit : s.group.state = .setup → edit) (n : Byte) : Served edit s (serveCarDelete n s) := by
  unfold serveCarDelete
  simp only
  split_ifs with _ hs
  all_goals try exact .refused _ s
  have he : edit := hedit (by simpa using hs)
  refine ⟨?_, ?_, .settled _ _⟩
  · refine Kept.trans ?_ ((Kept.applyAssignment _).trans (.settleBrakes _))
    split
    · exact (Kept.armImbalance _ s).trans (.editCars he _ _)
    · exact .editCars he _ s
  · refine (Quiet.applyAssignment _).queue.trans ?_
    split <;> rfl

/-- Parameters written with the lift limit kept, or in SETUP, where the reference is 0. -/
theorem Kept.setParams {p : GroupParams} (h : s.group.state = .setup ∨ p.lMax = s.group.params.lMax) :
    Kept edit s { s with group := { s.group with params := p } } where
  group := fun hs => by
    obtain ⟨h1, h2, h3, h4, h5, h6, h7⟩ := hs
    refine ⟨h1, h2, h3, h4, h5, h6, ?_⟩
    show s.sync.ref ≤ 100 * (p.lMax : Int)
    rcases h with e | e
    · rw [h5 (.inl e)]; omega
    · rw [e]; exact h7

theorem lMax_write_of_not_setupOnly {m : Word} (h : marksSetupOnly m = false) (p : GroupParams) (v : Nat → Nat) :
    (p.write m v).lMax = p.lMax := by
  have h0 : m.getLsbD 0 = false := by
    have := List.any_eq_false.mp h 0 (by decide)
    simpa [writableAnywhere] using this
  show pick (m.getLsbD 0) _ _ = _
  rw [h0]
  rfl

theorem Served.groupSet (m : Word) (vs : List Word) (s : State) : Served edit s (serveGroupSet m vs s) := by
  unfold serveGroupSet
  simp only
  split_ifs with _ hs
  all_goals try exact .refused _ s
  refine .of (.setParams ?_)
  by_cases e : s.group.state = .setup
  · exact .inl e
  · exact .inr (lMax_write_of_not_setupOnly (by simpa [e] using hs) _ _)

theorem Served.stream (p : Half) (s : State) : Served edit s (serveStream p s) := by
  unfold serveStream
  simp only
  split_ifs
  · exact .of (.of_line id id)
  · exact .refused _ s

/-! ### Plans -/

theorem storeSegment_safe {p : GroupParams} {r : RawSegment} {g : Segment} {b : Bool} (h : storeSegment p r = some (g, b)) :
    SegmentSafe g := by
  unfold storeSegment at h
  split_ifs at h with h1 h2 h3 h4 h5 <;> cases h
  · exact ⟨by simp only; omega, by simp only; omega, by simp⟩
  · exact ⟨by simp only; omega, by simp only; omega, fun _ => ⟨by simp only; omega, by simp only; omega⟩⟩

theorem writeSegment_length {l : List Segment} {i : Nat} (g : Segment) (hi : i < 16) (hl : l.length ≤ 16) (h : ¬ l.length < i) :
    (writeSegment l i g).length ≤ 16 := by
  unfold writeSegment
  split_ifs
  · simpa using hl
  · simp; omega

theorem mem_writeSegment {l : List Segment} {i : Nat} {g x : Segment} (h : x ∈ writeSegment l i g) : x = g ∨ x ∈ l := by
  unfold writeSegment at h
  split_ifs at h
  · exact (List.mem_or_eq_of_mem_set h).symm
  · simpa [or_comm] using h

/-- The pending bank replaced by a list of at most 16 valid segments, where it is EDITABLE. -/
theorem Kept.setPendingBank {l : List Segment} (hc : s.plan.commit = none)
    (h : s.plan.pendingBank.length ≤ 16 → (∀ g ∈ s.plan.pendingBank, SegmentSafe g) → l.length ≤ 16 ∧ ∀ g ∈ l, SegmentSafe g) :
    Kept edit s { s with plan := s.plan.setPending l } where
  plan := by
    rintro ⟨hA, hB, hsA, hsB, -, hpos⟩
    unfold Plan.setPending
    unfold Plan.pendingBank at h
    unfold Plan.activeBank at hpos
    cases ha : s.plan.active <;> rw [ha] at h hpos
    · obtain ⟨h1, h2⟩ := h hB hsB
      exact ⟨hA, h1, hsA, h2, fun hn => by simp [hc] at hn, by simpa [Plan.activeBank, ha] using hpos⟩
    · obtain ⟨h1, h2⟩ := h hA hsA
      exact ⟨h1, hB, h2, hsB, fun hn => by simp [hc] at hn, by simpa [Plan.activeBank, ha] using hpos⟩

theorem Served.planWrite (i : Byte) (r : RawSegment) (s : State) : Served edit s (servePlanWrite i r s) := by
  unfold servePlanWrite
  simp only
  split_ifs with h1 h2 h3
  all_goals try exact .refused _ s
  split
  · exact .refused _ s
  · rename_i g b hg
    refine .of (.setPendingBank (by simpa using h2) fun hl hsafe => ⟨writeSegment_length g (Nat.not_le.mp h1) hl h3, fun x hx => ?_⟩)
    obtain rfl | hx := mem_writeSegment hx
    · exact storeSegment_safe hg
    · exact hsafe x hx

theorem Served.planClear (s : State) : Served edit s (servePlanClear s) := by
  unfold servePlanClear
  split_ifs with h
  · exact .refused _ s
  · exact .of (.setPendingBank (by simpa using h) fun _ _ => ⟨by simp, by simp⟩)

/-- An update of the plan store that leaves the banks and their roles, a QUEUED bank not empty. -/
theorem Kept.setPlan {p : Plan} (hA : p.bankA = s.plan.bankA := by rfl) (hB : p.bankB = s.plan.bankB := by rfl)
    (ha : p.active = s.plan.active := by rfl)
    (hc : p.commit.isSome = true → s.plan.pendingBank ≠ [] ∨ s.plan.commit.isSome = true := by exact .inr) :
    Kept edit s { s with plan := p } where
  plan := fun ⟨h1, h2, h3, h4, h5, h6⟩ => by
    unfold PlanSafe
    unfold Plan.pendingBank Plan.activeBank at *
    simp only [hA, hB, ha]
    exact ⟨h1, h2, h3, h4, fun h => (hc h).elim id h5, h6⟩

theorem Served.commit (c : CommitKind) (s : State) : Served edit s (serveCommit c s) := by
  unfold serveCommit
  split_ifs with h1 h2
  · exact .refused _ s
  · exact .refused _ s
  · exact .of (.setPlan rfl rfl rfl fun _ => .inl (by simpa using h2))

theorem Served.commitByte (c : Byte) (s : State) : Served edit s (serveCommitByte c s) := by
  unfold serveCommitByte
  split_ifs
  · exact .commit _ s
  · exact .commit _ s
  · exact .refused _ s

theorem Served.withdraw (s : State) : Served edit s (serveWithdraw s) := by
  unfold serveWithdraw
  split_ifs
  · exact .of (.setPlan rfl rfl rfl fun h => (by cases h))
  · exact .refused _ s
  · exact .refused _ s

theorem Served.planMode (m : Byte) (s : State) : Served edit s (servePlanMode m s) := by
  unfold servePlanMode
  split_ifs
  · exact .of .setPlan
  · exact .of .setPlan
  · exact .refused _ s

/-! ### Station operations -/

theorem operationFailure_none {op : Operation} {d : Int} (h : operationFailure op k d s = none) :
    operationState op (s.jack k).record = true := by
  unfold operationFailure at h
  split_ifs at h with h1 h2 h3
  simpa using h3

theorem RecordKept.startMove {g : GroupState} (r : StationRec) (op : Operation) (h : operationState op r = true) :
    RecordKept g r (r.startMove op) := by
  have hr : r.state = .faulted ∨ (op ≠ .trim ∧ r.state = .idle) ∨ (op = .trim ∧ r.state = .engaged) := by
    cases op <;> simp [operationState, recoverable] at h <;> tauto
  obtain ⟨state, _⟩ := r
  obtain rfl | ⟨ho, rfl⟩ | ⟨rfl, rfl⟩ := hr
  · exact { seeks := fun hk => by simp [StationRec.Seeks, StationRec.startMove] at hk }
  · cases op with
    | home => exact { seeks := fun hk => by simp [StationRec.Seeks, StationRec.startMove, operatingState] at hk }
    | jog => exact { seeks := fun hk => by simp [StationRec.Seeks, StationRec.startMove, operatingState] at hk }
    | trim => exact absurd rfl ho
  · exact { seeks := fun hk => by simp [StationRec.Seeks, StationRec.startMove, operatingState] at hk }

theorem Kept.startOperation {op : Operation} (h : operationState op (s.jack k).record = true) (rate : Nat) (dir : Dir) (n : Nat) :
    Kept edit s (startOperation op k rate dir n s) :=
  (Kept.updRec (.startMove _ op h) fun _ => rfl).trans (.orderMove k _ _ _ _)

theorem Served.moveStation {op : Operation} (h : operationState op (s.jack k).record = true) (d : Int) :
    Served edit s (moveStation op k d s) := by
  unfold Machine.moveStation
  simp only [Answer.clamped]
  by_cases hn : stepsOf (clampedDistance (s.jack k) d).natAbs (s.jack k).record.settings.kStep = 0
  · rw [if_pos hn]
    exact .of (.raise _ s)
  · rw [if_neg hn]
    exact .of ((Kept.startOperation h _ _ _).trans (.settleBrakes _)) (.settled s _)

theorem Served.jog (i : Byte) (d : Word) (s : State) : Served edit s (serveJog i d s) :=
  .withStation fun k => by
    split
    · exact .refused _ s
    · rename_i h; exact .moveStation (operationFailure_none h) _

theorem Served.trim (i : Byte) (d : Word) (s : State) : Served edit s (serveTrim i d s) :=
  .withStation fun k => by
    split
    · exact .refused _ s
    · rename_i h; exact .moveStation (operationFailure_none h) _

theorem Served.home (i : Byte) (s : State) : Served edit s (serveHome i s) :=
  .withStation fun k => by
    split
    · exact .refused _ s
    · rename_i h
      have hs := operationFailure_none h
      unfold homeStation
      extract_lets t j steps
      have hd : Kept edit s (loseDatum k s) := .updRec {} fun _ => rfl
      have ho : operationState .home ((loseDatum k s).jack k).record = true := by simpa [loseDatum, operationState] using hs
      have hb : Braked s (loseDatum k s) := .updJack ⟨fun _ => rfl, rfl, rfl⟩
      split_ifs
      · exact .of ((hd.trans (.preset k _)).trans (.raise _ _)) (hb.trans (Braked.updJack (k := k) (.preset _)))
      · exact .of (hd.trans (.raise _ _)) (hb.trans .of_jacks)
      · exact .of ((hd.trans (.startOperation ho _ _ _)).trans (.settleBrakes _)) (.settled s _)

theorem Served.setOffset (i : Byte) (o : Word) (s : State) : Served edit s (serveSetOffset i o s) :=
  .withStation fun k => by
    split_ifs
    · exact .refused _ s
    · exact .refused _ s
    · exact .refused _ s
    · exact .refused _ s
    · exact .of (.updRec (f := fun r => { r with pendingOffset := some o.toInt }) {} fun _ => rfl) (.updJack ⟨fun _ => rfl, rfl, rfl⟩)

theorem Served.openGate (i : Byte) (s : State) : Served edit s (serveOpenGate i s) :=
  .withStation fun k => by
    simp only
    split_ifs
    · exact .refused _ s
    · exact .refused _ s
    · exact .refused _ s
    · exact .refused _ s
    · exact .of (.updJack { counts := fun h => h.mon { openCycles := fun _ => Nat.zero_le _, gate := fun _ _ hg => (by cases hg) } })
        (.updJack ⟨fun _ => rfl, rfl, rfl⟩)

theorem Served.closeGate (i : Byte) (s : State) : Served edit s (serveCloseGate i s) :=
  .withStation fun k => by
    simp only
    split_ifs
    · exact .refused _ s
    · exact .of (.updJack { counts := fun h => h.mon { openCycles := fun _ => Nat.zero_le _, gate := fun _ _ hg => (by cases hg) } })
        (.updJack ⟨fun _ => rfl, rfl, rfl⟩)

theorem Kept.fillSlot (c : SlotCommand) (h : s.line.queue.length < 7) : Kept edit s (fillSlot c s) where
  queue := fun ⟨h1, _, h3⟩ => ⟨h1, fun _ => Nat.le_of_lt h, h3⟩

theorem Served.command (tag : Byte) (c : GroupCommand) (h : s.line.queue.length < 7) : Served edit s (serveCommand tag c s) := by
  unfold serveCommand
  split
  · exact .of (.fillSlot _ h)
  · exact .of (.refl s)

theorem Served.groupCommand (tag code : Byte) (h : s.line.queue.length < 7) : Served edit s (serveGroupCommand tag code s) := by
  unfold serveGroupCommand
  split
  · exact .of (.refl s)
  · exact .command tag _ h

theorem Kept.takeEventMask (tag : Byte) (m : Half) (s : State) : Kept edit s (takeEventMask tag m s) :=
  .whenRoom fun hl => (Kept.finishRequest (by simp) hl (.of (a := serveEventMask m s) (.of_line (l := { s.line with mask := m &&& 0x7FFF }) id id))).trans (.movePending _)

theorem Kept.takeRestart (tag : Byte) (s : State) : Kept edit s (takeRestart tag s) :=
  .whenRoom fun hl => .finishRequest (by simp) hl (.of (.refl s))

theorem Braked.takeEventMask (tag : Byte) (m : Half) (s : State) : Braked s (takeEventMask tag m s) :=
  .whenRoom fun _ => (Braked.finishRequest (edit := True) (a := serveEventMask m s)
    (.of (.of_line (l := { s.line with mask := m &&& 0x7FFF }) id id))).trans (.of_jacks (movePending_jacks _) (by simp) (by simp))

/-- A request of any kind keeps what every piece of work keeps, and leaves the brakes as called for; the configuration it may edit in
SETUP alone. -/
theorem takeRequest_keeps (hedit : s.group.state = .setup → edit) (tag : Byte) (r : Request) :
    Kept edit s (takeRequest tag r s) ∧ Braked s (takeRequest tag r s) := by
  cases r with
  | status c => exact takeKind_keeps fun _ => .status c s
  | stationGet i => exact takeKind_keeps fun _ => .stationGet i s
  | stationSet i m v => exact takeKind_keeps fun _ => .stationSet hedit i m v
  | carGet n => exact takeKind_keeps fun _ => .carGet n s
  | carSet n c => exact takeKind_keeps fun _ => .carSet hedit n c
  | carDelete n => exact takeKind_keeps fun _ => .carDelete hedit n
  | carBadForm n f => exact takeKind_keeps fun _ => .refused _ s
  | groupGet => exact takeKind_keeps fun _ => .of (.refl s)
  | groupSet m vs => exact takeKind_keeps fun _ => .groupSet m vs s
  | snapshot => exact takeKind_keeps fun _ => .of (.refl s)
  | faultsRead => exact takeKind_keeps fun _ => .of (.refl s)
  | eventMask m => exact ⟨.takeEventMask tag m s, .takeEventMask tag m s⟩
  | stream p => exact takeKind_keeps fun _ => .stream p s
  | planWrite k g => exact takeKind_keeps fun _ => .planWrite k g s
  | planRead r k => exact takeKind_keeps fun _ => .planRead r k s
  | planClear => exact takeKind_keeps fun _ => .planClear s
  | commit k => exact takeKind_keeps fun _ => .commitByte k s
  | withdraw => exact takeKind_keeps fun _ => .withdraw s
  | planMode m => exact takeKind_keeps fun _ => .planMode m s
  | jog i d => exact takeKind_keeps fun _ => .jog i d s
  | home i => exact takeKind_keeps fun _ => .home i s
  | trim i d => exact takeKind_keeps fun _ => .trim i d s
  | openGate i => exact takeKind_keeps fun _ => .openGate i s
  | closeGate i => exact takeKind_keeps fun _ => .closeGate i s
  | setOffset i o => exact takeKind_keeps fun _ => .setOffset i o s
  | groupCommand c => exact takeKind_keeps fun hl => .groupCommand tag c hl
  | restart => exact ⟨.takeRestart tag s, .whenRoom fun _ => .finishRequest (edit := edit) (.of (.refl s))⟩

theorem Kept.takeRequest (hedit : s.group.state = .setup → edit) (tag : Byte) (r : Request) : Kept edit s (takeRequest tag r s) :=
  (takeRequest_keeps hedit tag r).1

theorem Braked.takeRequest (tag : Byte) (r : Request) (s : State) : Braked s (takeRequest tag r s) :=
  (takeRequest_keeps (edit := True) (fun _ => trivial) tag r).2

theorem Kept.executeWaiting (c : GroupCommand) (s : State) : Kept edit s (executeWaiting c s) := by
  unfold Machine.executeWaiting
  split
  · rename_i w h
    split_ifs
    · exact (Kept.executeCommand (by simp [h])).trans (.settleBrakes _)
    · exact .refl s
  · exact .refl s

/-! ### Bytes -/

theorem Braked.setAssembler (a : Assembler) (s : State) : Braked s (setAssembler a s) := .of_jacks

theorem Braked.enqueue (f : Frame) (s : State) : Braked s (enqueue f s) := .of_jacks

/-- A frame's end keeps what a request keeps. -/
theorem frameCheck_keeps (hedit : s.group.state = .setup → edit) (len : Half) (l : List Byte) :
    Kept edit s (frameCheck len l s) ∧ Braked s (frameCheck len l s) := by
  unfold frameCheck
  simp only
  split_ifs
  · exact ⟨.refl s, .refl s⟩
  · refine ⟨.whenRoom fun hl => ?_, .whenRoom fun _ => ?_⟩ <;> unfold dispatchFrame <;> split
    · exact .enqueue (by simp [replyFrame]) hl
    · split_ifs
      · exact .enqueue (by simp [replyFrame]) hl
      · exact .takeRequest hedit _ _
    · exact .enqueue _ s
    · split_ifs
      · exact .enqueue _ s
      · exact .takeRequest _ _ s

theorem receiveByte_keeps (hedit : s.group.state = .setup → edit) (b : Byte) (f : Bool) :
    Kept edit s (receiveByte b f s) ∧ Braked s (receiveByte b f s) := by
  have hset (a : Assembler) : Kept edit s (Machine.setAssembler a s) ∧ Braked s (Machine.setAssembler a s) :=
    ⟨.setAssembler a s, .setAssembler a s⟩
  unfold Machine.receiveByte collectByte
  split
  · split_ifs
    · exact hset _
    · exact ⟨.refl s, .refl s⟩
  · split_ifs
    · exact hset _
    · split <;> exact hset _
  · split_ifs
    · exact hset _
    · simp only
      split_ifs
      · exact hset _
      · obtain ⟨hk, hb⟩ := frameCheck_keeps (s := Machine.setAssembler .hunting s) hedit _ _
        exact ⟨(Kept.setAssembler .hunting s).trans hk, (Braked.setAssembler .hunting s).trans hb⟩

/-! ### Every command -/

/-- The rows that change the pins, and TRANSMIT_COMPLETION, which a RESTART makes a warm reset: their effect is more than what `Kept` says. -/
def changesPins (i : Instr) : Bool :=
  match i with
  | .powerOn _ | .warmResetBegin | .warmResetEnd _ _ | .permitFall | .permitRise | .transmitCompletion _ _ => true
  | _ => false

end Sys2Proof.Machine

/-! PROOF. What every command keeps. -/

namespace Sys2Proof.Machine

-- One theorem after another, as in the tests: a thread each for this many proofs would pass the memory limit.
set_option Elab.async false

variable {edit : Prop} {s t u : State} {k : Sta}

theorem Kept.dropBeacon (s : State) : Kept edit s (dropBeacon s) := .setLink _ s

/-- A row that is a completed frame does what its request does. -/
theorem exec_row {i : Instr} {tag : Byte} {r : Request} (h : requestRow i = some (tag, r)) (s : State) :
    exec i s = .next (takeRequest tag r s) := by
  have arrival (c : GroupCommand) (p : CommandPhase) (h : arrivalOf c p = some (tag, r)) :
      commandPhase c p s = takeRequest tag r s := by
    cases p with
    | arrival tag' =>
      cases h
      exact congrArg (fun serve => takeKind 0x40 tag serve s) (serveGroupCommand_commandCode tag c).symm
    | execution => cases h
  cases i with
  | setupDone p | resetup p | engage p | run p | continueRun p | stop p | resume p | land p | ackFaults p | clearLockout p =>
    exact congrArg Host.Outcome.next (arrival _ p h)
  | _ => cases h <;> rfl

theorem unlessReset_keeps {f : State → State} (h : s.pins.resetAsserted = false → Kept edit s (f s) ∧ Braked s (f s)) :
    Kept edit s (unlessReset f s) ∧ Braked s (unlessReset f s) := by
  refine ⟨.unlessReset fun hr => (h hr).1, ?_⟩
  unfold unlessReset
  split_ifs with hr
  · exact .refl s
  · exact (h (by simpa using hr)).2

theorem Braked.raise (e : Event) (s : State) : Braked s (raise e s) := .of_jacks

theorem Braked.takeOffsets (s : State) : Braked s (takeOffsets s) :=
  .of_same fun k => by
    rw [Machine.takeOffsets, updAll_jack]
    obtain ⟨r, _⟩ := s.jack k
    unfold StationRec.takeOffset
    simp only
    split <;> exact .refl _

theorem startSegment_jacks (s : State) : (startSegment s).jacks = s.jacks := by
  unfold startSegment
  split
  · rfl
  · simp only
    split_ifs <;> rfl

theorem startSegment_group (s : State) : (startSegment s).group = s.group := by
  unfold startSegment
  split
  · rfl
  · simp only
    split_ifs <;> rfl

theorem takeAtCycleStart_jacks (s : State) : (takeAtCycleStart s).jacks = s.jacks := by
  unfold takeAtCycleStart
  split
  · split_ifs
    · exact startSegment_jacks _
    · rfl
  · split_ifs <;> rfl
  · rfl

theorem takeAtCycleStart_group (s : State) : (takeAtCycleStart s).group = s.group := by
  unfold takeAtCycleStart
  split
  · split_ifs
    · exact startSegment_group _
    · rfl
  · split_ifs <;> rfl
  · rfl

theorem Braked.takeAtCycleStart (s : State) : Braked s (takeAtCycleStart s) :=
  .of_jacks (takeAtCycleStart_jacks s) (by rw [takeAtCycleStart_group]) (by rw [takeAtCycleStart_group])

theorem Braked.receiveLinkByte (w : LinkWindow) (b : LinkByte) (s : State) : Braked s (receiveLinkByte w b s) := by
  unfold Machine.receiveLinkByte
  split_ifs
  · exact .refl s
  · split
    · split_ifs
      · exact .updJack ⟨fun _ => rfl, rfl, rfl⟩
      · exact .refl s
    · exact .raise _ s
    · exact .raise _ s

theorem Braked.closeSlot (k : Sta) (b : Bool) (s : State) : Braked s (closeSlot k b s) := by
  unfold Machine.closeSlot
  simp only
  split_ifs
  · exact .refl s
  all_goals exact Braked.updJack (k := k) ⟨fun _ => rfl, rfl, rfl⟩

theorem Braked.setHome (k : Sta) (b : Bool) (s : State) : Braked s (setHome k b s) := .updJack ⟨fun _ => rfl, rfl, rfl⟩

/-- Every command but those that change the pins, and TRANSMIT_COMPLETION, completes, keeps what `Kept` names and leaves the brakes as
called for. -/
theorem exec_kept (i : Instr) (s : State) (hi : changesPins i = false) :
    ∃ t, exec i s = .next t ∧ Kept (s.group.state = .setup) s t ∧ Braked s t := by
  by_cases hr : requestRow i = none
  case neg =>
    obtain ⟨⟨tag, r⟩, hr⟩ := Option.ne_none_iff_exists'.mp hr
    exact ⟨_, exec_row hr s, .takeRequest id tag r, .takeRequest tag r s⟩
  have command (c : GroupCommand) (p : CommandPhase) (hp : arrivalOf c p = none) :
      Kept (s.group.state = .setup) s (commandPhase c p s) ∧ Braked s (commandPhase c p s) := by
    cases p with
    | arrival tag => cases hp
    | execution =>
      refine unlessReset_keeps fun _ => ⟨.executeWaiting c s, ?_⟩
      unfold executeWaiting
      split
      · split_ifs
        · exact .settled s _
        · exact .refl s
      · exact .refl s
  cases i with
  | powerOn p | warmResetBegin | warmResetEnd a b | permitFall | permitRise | transmitCompletion a b => cases hi
  | cycleStart => exact ⟨_, rfl, unlessReset_keeps fun _ => ⟨.cycleWork s, .settled s _⟩⟩
  | pendingOffsetTake => exact ⟨_, rfl, unlessReset_keeps fun _ => ⟨.takeOffsets s, .takeOffsets s⟩⟩
  | take =>
    exact ⟨_, rfl, unlessReset_keeps fun _ =>
      ⟨(Kept.takeAtCycleStart s).trans (.handOver _), (Braked.takeAtCycleStart s).trans (.handOver _)⟩⟩
  | slipGateClose k => exact ⟨_, rfl, unlessReset_keeps fun _ => ⟨(Kept.closeSlipGate k s).trans (.settleBrakes _), .settled s _⟩⟩
  | beaconEnd => exact ⟨_, rfl, .dropBeacon s, .of_jacks⟩
  | loadByteReceived w b f =>
    exact ⟨_, rfl, unlessReset_keeps fun _ =>
      ⟨(Kept.receiveLinkByte w _ s).trans (.handOver _), (Braked.receiveLinkByte w _ s).trans (.handOver _)⟩⟩
  | slotClose k b =>
    exact ⟨_, rfl, unlessReset_keeps fun _ => ⟨(Kept.closeSlot k b s).trans (.handOver _), (Braked.closeSlot k b s).trans (.handOver _)⟩⟩
  | waitTimeout =>
    refine ⟨_, rfl, unlessReset_keeps fun _ => ⟨.timeoutWork s, ?_⟩⟩
    unfold timeoutWork
    split_ifs
    · exact .settled s _
    · exact .refl s
  | dwellCompletion =>
    refine ⟨_, rfl, unlessReset_keeps fun _ => ⟨.dwellWork s, ?_⟩⟩
    unfold dwellWork
    split
    · exact .settled s _
    · exact .refl s
  | streamSnapshotDue =>
    refine ⟨_, rfl, unlessReset_keeps fun _ => ⟨.snapshotWork s, ?_⟩⟩
    unfold snapshotWork
    split_ifs
    · exact .of_jacks (placeSnapshot_jacks _) (by rw [streamSnapshot, placeSnapshot_group]; rfl) (by rw [streamSnapshot, placeSnapshot_group]; rfl)
    · exact .refl s
  | periodCompletion k =>
    refine ⟨_, rfl, unlessReset_keeps fun _ => ⟨.periodWork k s, ?_⟩⟩
    unfold periodWork
    split_ifs
    · exact .refl s
    · exact (Braked.settled s _).trans (.handOver _)
  | encoderEdge k l => exact ⟨_, rfl, .edge k l s, .updJack ⟨fun _ => rfl, rfl, rfl⟩⟩
  | homeActivation k =>
    refine ⟨_, rfl, .homeFall k s, ?_⟩
    unfold homeFall
    split_ifs
    · exact .refl s
    · exact (Braked.setHome k true s).trans (unlessReset_keeps (edit := True) fun _ =>
        ⟨(Kept.takeActivation k _).trans (.handOver _), (Braked.takeActivation k _).trans (.handOver _)⟩).2
  | homeInactive k => exact ⟨_, rfl, .setHome k false s, .setHome k false s⟩
  | bothLinesChange k => exact ⟨_, rfl, .bothChange k s, .updJack ⟨fun _ => rfl, rfl, rfl⟩⟩
  | stepPulseEnd k =>
    refine ⟨_, rfl, .updGen (.pulseEnd _), .updJack ?_⟩
    unfold Generator.pulseEnd
    split_ifs <;> exact ⟨fun _ => rfl, rfl, rfl⟩
  | gapTimerExpiry => exact ⟨_, rfl, .setAssembler _ s, .setAssembler _ s⟩
  | crxByte b f =>
    refine ⟨_, rfl, ?_⟩
    split_ifs
    · exact ⟨.refl s, .refl s⟩
    · exact receiveByte_keeps id b f
  | setupDone p => exact ⟨_, rfl, command .setupDone p hr⟩
  | resetup p => exact ⟨_, rfl, command .resetup p hr⟩
  | engage p => exact ⟨_, rfl, command .engage p hr⟩
  | run p => exact ⟨_, rfl, command .run p hr⟩
  | continueRun p => exact ⟨_, rfl, command .continueRun p hr⟩
  | stop p => exact ⟨_, rfl, command .stop p hr⟩
  | resume p => exact ⟨_, rfl, command .resume p hr⟩
  | land p => exact ⟨_, rfl, command .land p hr⟩
  | ackFaults p => exact ⟨_, rfl, command .ackFaults p hr⟩
  | clearLockout p => exact ⟨_, rfl, command .clearLockout p hr⟩
  | _ => cases hr

/-! ### The rows that change the pins -/

theorem Kept.cutMoves (s : State) : Kept edit s (cutMoves s) :=
  (Kept.abandonAll s).trans (.forStations (fun k t => .abandonMove k t) _)

theorem cutMoves_group (s : State) : (cutMoves s).group = s.group := by
  unfold cutMoves
  exact forStations_keeps (P := fun t => t.group = s.group) (fun k t ht => (abandonMove_group k t).trans ht) rfl

/-- A group that a permit fall stops. -/
theorem Kept.stopByFall (hstops : stoppedByFall s.group.state = true) : Kept edit s (stopByFall s) := by
  have hv : Kept edit s (Machine.haltReference (Machine.moveStations s)) := (Kept.moveStations s).trans (.haltReference _)
  have hvn : ∀ k, ¬ ((Machine.haltReference (Machine.moveStations s)).jack k).record.Seeks := fun k => by
    rw [haltReference_jack, moveStations_jack]
    exact StationRec.moveByStop_not_seeks _
  have hstate : (Machine.haltReference (Machine.moveStations s)).group.state = s.group.state := rfl
  unfold Machine.stopByFall
  generalize Machine.haltReference (Machine.moveStations s) = v at hv hvn hstate
  have hw (w : State) (hwj : w.jacks = v.jacks) (hws : w.group.state = v.group.state) :
      Kept edit w (Machine.enterGroup (if anyContact v then .stopped else .prepared) w) := by
    have hvalid (hg : GroupSafe w) : w.group.validated = true := by
      refine hg.validated ?_ ?_ <;> rw [hws, hstate] <;> intro e <;> simp [stoppedByFall, e] at hstops
    refine .enterGroup (fun h => by split at h <;> cases h) fun hg => ?_
    have hjack : ∀ k, w.jack k = v.jack k := fun k => by unfold State.jack; rw [hwj]
    by_cases hc : anyContact v = true
    · rw [if_pos hc]
      exact ⟨.inr fun k => by rw [hjack]; exact hvn k, .inr (.inr (hvalid hg)), by simp⟩
    · rw [if_neg hc]
      refine .prepared (fun k => ?_) (fun k => by rw [hjack]; exact hvn k) (hvalid hg)
      rw [hjack]
      exact anyContact_eq_false.mp (by simpa using hc) k
  refine hv.trans ?_
  simp only
  by_cases hf : faultStopUnderWay s = true
  · rw [if_pos hf]
    exact hw v rfl rfl
  · rw [if_neg hf]
    exact (Kept.setCause .permit v).trans (hw _ rfl rfl)

/-- A permit fall after the level has become LOW. -/
theorem Kept.takeFall (s : State) : Kept edit (setPermit false s) (takeFall s) := by
  unfold Machine.takeFall
  extract_lets stops u
  have hu : Kept edit (setPermit false s) u := (Kept.raise _ _).trans (.cutMoves _)
  refine (hu.trans ?_).trans ((Kept.settleBrakes _).trans (.handOver _))
  split_ifs with hstops
  · exact .stopByFall (by rw [show u.group = _ from cutMoves_group _]; exact hstops)
  · exact .refl u

/-- A permit rise after the level has become HIGH. -/
theorem Kept.takeRise (s : State) : Kept edit (setPermit true s) (takeRise s) :=
  (((Kept.raise _ _).trans (.motionReset false _)).trans (.settleBrakes _)).trans (.handOver _)

/-- The stations after a warm reset neither seek nor confirm. -/
theorem StationRec.warm_not_seeks (r : StationRec) : ¬ r.warm.Seeks := by
  obtain ⟨state, _, _, _, _, _, _, _, _, prior, _⟩ := r
  cases state <;> rcases prior with - | (_ | _) <;> simp [StationRec.Seeks, StationRec.warm, warmState]

/-- The end of a warm reset after its blocks have taken their values. -/
theorem Kept.warmEnd (a b : Bool) (s : State) : Kept edit (warmBlocks a b s) (warmEnd a b s) := by
  unfold Machine.warmEnd
  extract_lets v g
  refine (Kept.trans (.enterGroup (fun h => ?_) fun hg => ?_) (.motionReset false _)).trans ((Kept.setCause _ _).trans (.handOver _))
  · have : g ≠ .lockedOut := by
      show stateAfterWarm v ≠ _
      unfold stateAfterWarm
      split_ifs <;> simp
    exact absurd h this
  · have hn : ∀ k, ¬ (v.jack k).record.Seeks := fun k => by
      have : (v.jack k).record = (s.jack k).record.warm := by
        show ((s.jacks.mapAll fun _ j => j.warm).get k).record = _
        rw [PerStation.get_mapAll]
        rfl
      rw [this]
      exact StationRec.warm_not_seeks _
    show MayEnter (stateAfterWarm v) v
    unfold stateAfterWarm
    split_ifs with hv hc
    · exact ⟨.inr hn, .inr (.inr hv), by simp⟩
    · exact .prepared (anyContact_eq_false.mp (by simpa using hc)) hn hv
    · exact ⟨.inr hn, .inl rfl, fun _ => hg.2.2.2.1 (.inr (.inr (by simpa using hv)))⟩

/-- What every piece of work keeps, a power-on establishes, and a change of the pins, of the permit level and of the blocks in a warm
reset keeps, every command keeps. -/
theorem exec_keeps {P : State → Prop} (hkept : ∀ {e s t}, Kept e s t → P s → P t)
    (hpower : ∀ p l, P { State.powered p with pending := l }) (hpins : ∀ {s p}, P s → P { s with pins := p })
    (hpermit : ∀ {s} b, P s → P (setPermit b s)) (hbegin : ∀ {s}, P s → P (warmBegin s))
    (hblocks : ∀ {s} a b, P s → P (warmBlocks a b s))
    (hpop : ∀ {s f rest}, s.line.queue = f :: rest → P s → P (setQueue rest s))
    {i : Instr} (hs : P s) (h : exec i s = .next t) : P t := by
  have hwarm {s : State} (a b : Bool) (hs : P s) : P (warmEnd a b s) := hkept (.warmEnd (edit := True) a b s) (hblocks a b hs)
  by_cases hi : changesPins i = false
  · obtain ⟨u, hu, hk, -⟩ := exec_kept i s hi
    obtain rfl : u = t := Host.Outcome.next.inj (hu.symm.trans h)
    exact hkept hk hs
  cases i with
  | powerOn p => cases h; exact hpower p s.pending
  | warmResetBegin =>
    cases h
    split_ifs
    · exact hs
    · exact hbegin hs
  | warmResetEnd a b =>
    cases h
    split_ifs
    · exact hwarm a b hs
    · exact hs
  | permitFall =>
    cases h
    split_ifs
    · unfold Machine.unlessReset
      split_ifs
      · exact hpins hs
      · exact hkept (.takeFall (edit := True) _) (hpermit false (hpins hs))
    · exact hs
  | permitRise =>
    cases h
    split_ifs
    · exact hs
    · unfold Machine.unlessReset
      split_ifs
      · exact hpins hs
      · exact hkept (.takeRise (edit := True) _) (hpermit true (hpins hs))
  | transmitCompletion a b =>
    cases h
    split_ifs
    · exact hs
    · unfold frameSent
      split
      · exact hs
      · rename_i f rest hq
        simp only
        split_ifs
        · exact hwarm a b (hbegin (hpop hq hs))
        · exact hkept (.movePending (edit := True) _) (hpop hq hs)
  | _ => exact absurd rfl hi

/-- An invariant that no command in the queue bears on, kept by every command, is kept by every step. -/
theorem step_keeps {P : State → Prop} (hp : ∀ {s l}, P s → P { s with pending := l })
    (hexec : ∀ {i s t}, P s → exec i s = .next t → P t) (hs : P s) (h : step s = .next t) : P t := by
  unfold step at h
  split at h
  · cases h; exact hs
  · exact hexec (hp hs) h

theorem powered_jack (p : PowerPins) (k : Sta) : (State.powered p).jack k = Jack.powered (p.stations.get k) :=
  PerStation.get_mapAll _ _ _

theorem warmBegin_jack (s : State) (k : Sta) : (warmBegin s).jack k = (s.jack k).warmBegin := PerStation.get_mapAll _ _ _

theorem warmBlocks_jack (a b : Bool) (s : State) (k : Sta) : (warmBlocks a b s).jack k = (s.jack k).warm := PerStation.get_mapAll _ _ _

end Sys2Proof.Machine

/-! PROOF. The invariants every step keeps (O55 to O58, O60), and the completion of every command (O2). -/

namespace Sys2Proof.Machine

-- One theorem after another, as in the tests: a thread each for this many proofs would pass the memory limit.
set_option Elab.async false

variable {s t : State}

/-! ### The transmit queue, the pending set and the fault list -/

/-- An empty transmit queue is in form. -/
theorem queueSafe_of_nil (h : s.line.queue = []) : QueueSafe s := by
  simp [QueueSafe, h]

/-- Every command keeps the transmit queue in form. -/
theorem exec_queueSafe {i : Instr} (hs : QueueSafe s) (h : exec i s = .next t) : QueueSafe t := by
  refine exec_keeps (fun hk => hk.queue) (fun _ _ => queueSafe_of_nil rfl) id (fun _ => id) (fun _ => queueSafe_of_nil rfl)
    (fun {s} _ _ hs => ?_) ?_ hs h
  · obtain ⟨hlen, -, hsnap⟩ := hs
    exact ⟨hlen, by simp [warmBlocks], hsnap⟩
  · intro s f rest hq ⟨hlen, hslot, hsnap⟩
    rw [hq] at hlen hslot hsnap
    simp only [List.length_cons, List.countP_cons] at hlen hslot hsnap
    exact ⟨by simp only [setQueue]; omega, fun hg => by have := hslot hg; simp only [setQueue]; omega, by simp only [setQueue]; omega⟩

/-- Every command keeps the pending set in form. -/
theorem exec_pendingSafe {i : Instr} (hs : PendingSafe s) (h : exec i s = .next t) : PendingSafe t :=
  exec_keeps (fun hk => hk.records) (fun _ _ => .nil) id (fun _ => id) (fun _ => .nil) (fun _ _ => id) (fun _ => id) hs h

/-- Settles O55: the queue and the pending set are kept by every piece of work, and emptied or shortened by a reset and a transmission. -/
theorem everyStepKeepsTheLine : Obligations.EveryStepKeepsTheLine :=
  ⟨fun _ _ => step_keeps id exec_queueSafe, fun _ _ => step_keeps id exec_pendingSafe⟩

/-- Every command keeps the fault list in form. -/
theorem exec_faultListSafe {i : Instr} (hs : FaultListSafe s) (h : exec i s = .next t) : FaultListSafe t :=
  have empty {u : State} (hf : u.group.faults = []) (ho : u.group.overflow = false) : FaultListSafe u := by
    simp [FaultListSafe, hf, ho]
  exec_keeps (fun hk => hk.faults) (fun _ _ => empty rfl rfl) id (fun _ => id) id (fun _ _ _ => empty rfl rfl) (fun _ => id) hs h

/-- Settles O56: a fault is listed only where it is new and the list has room, and the list otherwise only loses entries. -/
theorem everyStepKeepsTheFaultList : Obligations.EveryStepKeepsTheFaultList :=
  fun _ _ => step_keeps id exec_faultListSafe

/-! ### The group together -/

theorem recordSafe_warm {r : StationRec} (h : RecordSafe r) : RecordSafe r.warm := by
  obtain ⟨-, -, hcontact⟩ := h
  refine ⟨?_, ?_, ?_⟩ <;> obtain ⟨state, _, _, _, _, _, _, _, _, prior, _⟩ := r
  · cases state <;> rcases prior with - | (_ | _) <;> rfl
  · cases state <;> rcases prior with - | (_ | _) <;> rfl
  · cases state <;> rcases prior with - | (_ | _) <;> exact hcontact

/-- The blocks of a warm reset leave the group together. -/
theorem groupSafe_warmBlocks (a b : Bool) (h : GroupSafe s) : GroupSafe (warmBlocks a b s) := by
  obtain ⟨hrec, -, hvalid, hcontact, href⟩ := h
  refine ⟨fun k => ?_, fun k hk => ?_, hvalid, fun hg k => ?_, href⟩
  · rw [warmBlocks_jack]
    exact recordSafe_warm (hrec k)
  · rw [warmBlocks_jack] at hk
    exact absurd hk (StationRec.warm_not_seeks (s.jack k).record)
  · rw [warmBlocks_jack]
    exact hcontact hg k

theorem groupSafe_powered (p : PowerPins) : GroupSafe (State.powered p) := by
  have hrec (k : Sta) : ((State.powered p).jack k).record = Jack.reset.record := by rw [powered_jack]; rfl
  refine ⟨fun k => ?_, fun k hk => ?_, fun _ => .inl rfl, fun _ k => ?_, fun _ => rfl, Int.le_refl _, Int.natCast_nonneg _⟩
  · rw [hrec]
    exact ⟨rfl, rfl, rfl⟩
  · rw [hrec] at hk
    exact absurd hk (by decide)
  · rw [hrec]
    rfl

theorem groupSafe_warmBegin (h : GroupSafe s) : GroupSafe (warmBegin s) := by
  have hrec (k : Sta) : ((warmBegin s).jack k).record = (s.jack k).record := by rw [warmBegin_jack]; rfl
  obtain ⟨hsafe, hseek, hvalid, hcontact, href⟩ := h
  exact ⟨fun k => hrec k ▸ hsafe k, fun k hk => hseek k (hrec k ▸ hk), hvalid, fun hg k => hrec k ▸ hcontact hg k, href⟩

/-- Every command keeps the group together. -/
theorem exec_groupSafe {i : Instr} (hs : GroupSafe s) (h : exec i s = .next t) : GroupSafe t :=
  exec_keeps (fun hk => hk.group) (fun p _ => groupSafe_powered p) id (fun _ => id) groupSafe_warmBegin groupSafe_warmBlocks
    (fun _ => id) hs h

/-- Settles O57: every change of the group state is made from a state that allows it, and the reference stays within the lift limit. -/
theorem everyStepKeepsTheGroupTogether : Obligations.EveryStepKeepsTheGroupTogether :=
  fun _ _ => step_keeps id exec_groupSafe

/-! ### Generators and counts -/

theorem generatorSafe_reset : GeneratorSafe Generator.reset := by
  refine ⟨rfl, fun d h => ?_, fun v h => ?_, fun _ => rfl, fun _ => rfl⟩ <;> cases h

/-- Every command keeps the generators in form. -/
theorem exec_generatorsSafe {i : Instr} (hs : GeneratorsSafe s) (h : exec i s = .next t) : GeneratorsSafe t := by
  refine exec_keeps (fun hk => hk.gens) (fun p _ k => ?_) id (fun _ => id) (fun {s} hs k => ?_) (fun {s} a b _ k => ?_) (fun _ => id) hs h
  · show GeneratorSafe ((State.powered p).jack k).gen
    rw [powered_jack]
    exact generatorSafe_reset
  · rw [warmBegin_jack]
    exact generatorSafe_abandon (hs k)
  · rw [warmBlocks_jack]
    exact generatorSafe_reset

/-- Every command keeps the counts in form. -/
theorem exec_talliesSafe {i : Instr} (hs : TalliesSafe s) (h : exec i s = .next t) : TalliesSafe t := by
  refine exec_keeps (fun hk => hk.tallies) (fun p _ k => ?_) id (fun _ => id) (fun {s} hs k => ?_) (fun {s} a b hs k => ?_) (fun _ => id) hs h
  · show CountsSafe ((State.powered p).jack k)
    rw [powered_jack]
    simp [CountsSafe, Jack.powered, Jack.reset, Monitor.reset, LinkSlot.reset]
  · rw [warmBegin_jack]
    obtain ⟨hslip, hrun, -, hmiss, hheld, hloss, -⟩ := hs k
    exact ⟨hslip, hrun, by simp [Jack.warmBegin, Monitor.closeGates], hmiss, hheld, hloss, fun g hg => by cases hg⟩
  · rw [warmBlocks_jack]
    obtain ⟨-, -, -, -, hheld, -, -⟩ := hs k
    refine ⟨Nat.zero_le _, Nat.zero_le _, Nat.zero_le _, ?_, hheld, ?_, fun g hg => by cases hg⟩ <;> simp [Jack.warm, LinkSlot.warm, LinkSlot.reset]

/-- Settles O58: a generator takes only divisors of the conversion of R40, and every count saturates. -/
theorem everyStepKeepsGeneratorsAndCounts : Obligations.EveryStepKeepsGeneratorsAndCounts :=
  ⟨fun _ _ => step_keeps id exec_generatorsSafe, fun _ _ => step_keeps id exec_talliesSafe⟩

/-! ### The plan -/

/-- Every command keeps the plan banks in form. -/
theorem exec_planSafe {i : Instr} (hs : PlanSafe s) (h : exec i s = .next t) : PlanSafe t :=
  exec_keeps (fun hk => hk.plan) (fun _ _ => ⟨Nat.zero_le _, Nat.zero_le _, nofun, nofun, nofun, Nat.le_refl _⟩) id (fun _ => id) id (fun _ _ => id)
    (fun _ => id) hs h

/-- Settles O60: a write is checked and clamped, a commit needs a segment, and the plan position advances only within the plan. -/
theorem everyStepKeepsThePlan : Obligations.EveryStepKeepsThePlan :=
  fun _ _ => step_keeps id exec_planSafe

/-! ### Completion and the configuration -/

/-- Settles O2. -/
theorem everyCommandCompletesAndKeepsTheQueue : Obligations.EveryCommandCompletesAndKeepsTheQueue := by
  intro i s
  have pins {f : State → State} {u : State} (hu : u.pending = s.pending) (h : (f u).pending = u.pending) :
      (unlessReset f u).pending = s.pending := by
    unfold unlessReset
    split_ifs
    · exact hu
    · exact h.trans hu
  have warm (a b : Bool) (u : State) : (warmEnd a b u).pending = u.pending := (Kept.warmEnd (edit := True) a b u).commands
  by_cases hi : changesPins i = false
  · obtain ⟨t, ht, hk, -⟩ := exec_kept i s hi
    exact ⟨t, ht, hk.commands⟩
  cases i with
  | powerOn p => exact ⟨_, rfl, rfl⟩
  | warmResetBegin =>
    refine ⟨_, rfl, ?_⟩
    split_ifs <;> rfl
  | warmResetEnd a b =>
    refine ⟨_, rfl, ?_⟩
    split_ifs
    · exact warm a b s
    · rfl
  | permitFall =>
    refine ⟨_, rfl, ?_⟩
    split_ifs
    · exact pins rfl (Kept.takeFall (edit := True) (setPermitLine false s)).commands
    · rfl
  | permitRise =>
    refine ⟨_, rfl, ?_⟩
    split_ifs
    · rfl
    · exact pins rfl (Kept.takeRise (edit := True) (setPermitLine true s)).commands
  | transmitCompletion a b =>
    refine ⟨_, rfl, ?_⟩
    split_ifs
    · rfl
    · unfold frameSent
      split
      · rfl
      · simp only
        split_ifs
        · exact warm a b _
        · exact (Kept.movePending (edit := True) _).commands
  | _ => exact absurd rfl hi

end Sys2Proof.Machine

/-! PROOF. Steps, discarded commands, resets and the configuration (O1, O3, O5, O6, O54). -/

namespace Sys2Proof.Machine

-- One theorem after another, as in the tests: a thread each for this many proofs would pass the memory limit.
set_option Elab.async false

variable {s t : State}

/-! ### A step, and what is discarded -/

/-- Settles O1. -/
theorem stepRunsTheFrontCommand : Obligations.StepRunsTheFrontCommand :=
  ⟨fun i rest s h => by rw [step, h], fun s h => by rw [step, h]⟩

theorem whenRoom_of_full (h : s.pins.resetAsserted = true ∨ 7 ≤ s.line.queue.length) (f : State → State) : whenRoom f s = s := by
  unfold whenRoom Config.requestRoom
  rcases h with h | h <;> simp [h]

/-- A request that finds RESET_N asserted or 7 frames held is discarded. -/
theorem takeRequest_of_full (h : s.pins.resetAsserted = true ∨ 7 ≤ s.line.queue.length) (tag : Byte) (r : Request) :
    takeRequest tag r s = s := by
  unfold takeRequest takeKind takeEventMask takeRestart
  split <;> exact whenRoom_of_full h _

theorem unlessReset_of_reset (h : s.pins.resetAsserted = true) (f : State → State) : unlessReset f s = s := if_pos h

theorem unlessReset_of_running (h : s.pins.resetAsserted = false) (f : State → State) : unlessReset f s = f s := by
  rw [unlessReset, h]
  rfl

theorem exec_row_execution (c : GroupCommand) (s : State) : exec (c.row .execution) s = .next (unlessReset (executeWaiting c) s) := by
  cases c <;> rfl

theorem exec_row_of_full {i : Instr} (hi : (requestRow i).isSome = true) (h : s.pins.resetAsserted = true ∨ 7 ≤ s.line.queue.length) :
    exec i s = .next s := by
  obtain ⟨⟨tag, r⟩, hr⟩ := Option.isSome_iff_exists.mp hi
  rw [exec_row hr, takeRequest_of_full h]

/-- Settles O3: a request needs RESET_N high and room, and the other rows named are guarded by RESET_N. -/
theorem resetAndAFullQueueDiscardCommands : Obligations.ResetAndAFullQueueDiscardCommands := by
  refine ⟨fun i s hr hi => ?_, fun i s hi hq => exec_row_of_full hi (.inr hq)⟩
  have guarded (f : State → State) : Host.Outcome.next (unlessReset f s) = (.next s : Host.Outcome State Fault Refusal) := by
    rw [unlessReset_of_reset hr]
  have tested (t : State) : Host.Outcome.next (if s.pins.resetAsserted then s else t) = (.next s : Host.Outcome State Fault Refusal) := by
    rw [if_pos hr]
  rcases hi with hi | ⟨c, rfl⟩ | hi | ⟨k, rfl | rfl⟩ | ⟨w, b, f, rfl⟩ | ⟨k, p, rfl⟩ | ⟨b, f, rfl⟩ | ⟨a, b, rfl⟩
  · exact exec_row_of_full hi (.inl hr)
  · exact (exec_row_execution c s).trans (guarded _)
  · simp only [List.mem_cons, List.not_mem_nil, or_false] at hi
    rcases hi with rfl | rfl | rfl | rfl | rfl | rfl | rfl
    · exact tested _
    all_goals exact guarded _
  · exact guarded _
  · exact guarded _
  · exact guarded _
  · exact guarded _
  · exact tested _
  · exact tested _

/-! ### Resets -/

/-- A state with every station at its reset values. -/
theorem reset_jack (k : Sta) : State.reset.jack k = Jack.reset := PerStation.get_replicate _ _

/-- Settles O5. -/
theorem resetIsASafeState : Obligations.ResetIsASafeState := by
  have h : ∀ s : State, s.pending = [] →
      exec (.powerOn {
        permit := false, spd1 := false, spd0 := false,
        stations := PerStation.replicate { encA := false, encB := false, homeLow := false } }) s = .next State.reset := by
    intro s hs
    rw [exec_powerOn, hs]
    refine congrArg Host.Outcome.next (State.ext_jack (fun k => ?_) rfl rfl rfl rfl rfl rfl rfl rfl)
    rw [reset_jack]
    refine (powered_jack _ k).trans ?_
    rw [PerStation.get_replicate]
    rfl
  refine ⟨⟨queueSafe_of_nil rfl, .nil, ?faults, ?group, fun k => ?gens, ⟨fun _ => rfl, fun _ k => ?rest, fun _ k => ?applied⟩,
    fun _ k => ?brakes, ⟨Nat.zero_le _, Nat.zero_le _, nofun, nofun, nofun, Nat.le_refl _⟩, fun k => ?tallies⟩, h⟩
  case faults => exact ⟨Nat.zero_le _, .nil, nofun⟩
  case group =>
    refine ⟨fun k => ?_, fun k hk => ?_, fun _ => .inl rfl, fun _ k => ?_, fun _ => rfl, Int.le_refl _, Int.natCast_nonneg _⟩
    · rw [reset_jack]
      exact ⟨rfl, rfl, rfl⟩
    · rw [reset_jack] at hk
      exact absurd hk (by decide)
    · rw [reset_jack]
      rfl
  case gens =>
    rw [reset_jack]
    exact generatorSafe_reset
  case rest =>
    rw [reset_jack]
    exact ⟨rfl, rfl⟩
  case applied =>
    rw [reset_jack]
    rfl
  case brakes =>
    rw [reset_jack]
    exact ⟨fun _ => rfl, nofun, nofun⟩
  case tallies =>
    rw [reset_jack]
    simp [CountsSafe, Jack.reset, Monitor.reset, LinkSlot.reset]

theorem Generator.abandon_eq (g : Generator) : g.abandon = if g.run = .idle then { g with pending := none }
    else { g with run := .idle, divisor := none, pending := none, remaining := 0, stepHigh := false
                  dir := if g.dirHigh then .up else .down } := by
  unfold Generator.abandon
  cases g.run <;> rfl

/-- Settles O6. -/
theorem warmResetBeginHaltsTheBlocks : Obligations.WarmResetBeginHaltsTheBlocks := by
  intro s hr
  refine ⟨warmBegin s, congrArg Host.Outcome.next (by rw [hr]; rfl), rfl, rfl, rfl, rfl, rfl, rfl, rfl, fun k => ?_⟩
  rw [warmBegin_jack]
  refine ⟨rfl, rfl, ?_, rfl, rfl, rfl, rfl, rfl, rfl⟩
  show ({ (s.jack k).gen.abandon with brake := .applied } : Generator) = _
  rw [Generator.abandon_eq]
  split_ifs <;> rfl

/-! ### The configuration -/

theorem configuration_warmBegin (s : State) : configuration (warmBegin s) = configuration s := by
  simp only [configuration, warmBegin_jack]
  rfl

theorem configuration_warmBlocks (a b : Bool) (s : State) : configuration (warmBlocks a b s) = configuration s := by
  simp only [configuration, warmBlocks_jack]
  show ((s.cars.map Car.warm).map Car.config, _) = _
  rw [List.map_map]
  rfl

/-- Settles O54: every piece of work keeps the configuration outside SETUP, and so do the blocks in a warm reset. -/
theorem configurationIsWrittenInSetupOnly : Obligations.ConfigurationIsWrittenInSetupOnly := by
  intro i s t hi hg h
  have warm (a b : Bool) (u : State) (hu : configuration u = configuration s) : configuration (warmEnd a b u) = configuration s :=
    ((Kept.warmEnd (edit := False) a b u).config id).trans ((configuration_warmBlocks a b u).trans hu)
  by_cases hp : changesPins i = false
  · obtain ⟨u, hu, hk, -⟩ := exec_kept i s hp
    obtain rfl : u = t := Host.Outcome.next.inj (hu.symm.trans h)
    exact hk.config hg
  cases i with
  | powerOn p => exact absurd rfl (hi p)
  | warmResetBegin =>
    cases h
    split_ifs
    · rfl
    · exact configuration_warmBegin s
  | warmResetEnd a b =>
    cases h
    split_ifs
    · exact warm a b s rfl
    · rfl
  | permitFall =>
    cases h
    split_ifs
    · unfold unlessReset
      split_ifs
      · rfl
      · exact (Kept.takeFall (edit := False) (setPermitLine false s)).config id
    · rfl
  | permitRise =>
    cases h
    split_ifs
    · rfl
    · unfold unlessReset
      split_ifs
      · rfl
      · exact (Kept.takeRise (edit := False) (setPermitLine true s)).config id
  | transmitCompletion a b =>
    cases h
    split_ifs
    · rfl
    · unfold frameSent
      split
      · rfl
      · simp only
        split_ifs
        · exact warm a b _ (configuration_warmBegin _)
        · exact (Kept.movePending (edit := False) _).config id
  | _ => exact absurd rfl hp

/-! ### Events handed over with room for all of them -/

/-- The line controller sends the next `n` frames at once, whatever has been raised. -/
def OpenFor (n : Nat) (s : State) : Prop := s.line.mask = 0 ∧ s.line.pending = [] ∧ s.line.queue.length + n ≤ 5

theorem handEvent_of_open {n : Nat} (h : OpenFor (n + 1) s) (r : Raised) : handEvent r s = enqueue (eventFrame r false s) s := by
  obtain ⟨hm, hp, hq⟩ := h
  have hq : s.line.queue.length < 5 := by omega
  simp [handEvent, hm, hp, masked, Config.noticeRoom, hq]

/-- The events raised become their notices in order, with the summary of the state that stands. -/
theorem handOver_of_open (h : OpenFor s.line.raised.length s) :
    handOver s = { s with line := { s.line with
      raised := [], queue := s.line.queue ++ s.line.raised.map (fun r => eventFrame r false s) } } := by
  have frame (l : List Frame) (r : Raised) :
      eventFrame r false { s with line := { s.line with raised := [], queue := l } } = eventFrame r false s := rfl
  have key (l : List Raised) (q : List Frame) (hl : OpenFor l.length { s with line := { s.line with raised := [], queue := q } }) :
      l.foldl (fun t r => handEvent r t) { s with line := { s.line with raised := [], queue := q } } =
        { s with line := { s.line with raised := [], queue := q ++ l.map (fun r => eventFrame r false s) } } := by
    induction l generalizing q with
    | nil => simp
    | cons r l ih =>
      obtain ⟨hm, hp, hq⟩ := hl
      rw [List.foldl_cons, handEvent_of_open (n := l.length) ⟨hm, hp, hq⟩, frame]
      refine (ih (q ++ [eventFrame r false s]) ⟨hm, hp, ?_⟩).trans ?_
      · simp only [List.length_append, List.length_cons, List.length_nil] at hq ⊢
        omega
      · simp [List.append_assoc]
  exact key s.line.raised s.line.queue h

end Sys2Proof.Machine

/-! PROOF. The permit line and the brakes: the permit rules, and every brake as called for (O59). -/

namespace Sys2Proof.Machine

-- One theorem after another, as in the tests: a thread each for this many proofs would pass the memory limit.
set_option Elab.async false

variable {edit : Prop} {s t u : State} {k : Sta}

/-! ### The permit rules -/

theorem PermitSafe.of_kept (h : Kept edit s t) (hr : s.pins.resetAsserted = false) (hs : PermitSafe s) : PermitSafe t := by
  obtain ⟨hline, hrest, happlied⟩ := hs
  have held : generatorsHeld s = true → GensAtRest s := fun hg => hrest (by simpa [generatorsHeld, hr] using hg)
  refine ⟨fun hr => ?_, fun hg => ?_, fun hg => ?_⟩
  · rw [h.permit, h.pins]
    exact hline (by rw [← h.pins]; exact hr)
  · refine h.rest hr held ?_
    rw [h.pins, hr] at hg
    simpa [generatorsHeld] using hg
  · rw [h.pins, h.permit, hr] at hg
    have hp : s.group.permit = false := by simpa using hg
    exact h.applied hp (happlied (.inr hp))

/-- What the commands that act while RESET_N is asserted leave of the generators: their run states, pending values and brakes. -/
theorem exec_inReset {i : Instr} (hi : changesPins i = false) (hr : s.pins.resetAsserted = true) (h : exec i s = .next t) :
    ∀ k, (t.jack k).gen.run = (s.jack k).gen.run ∧ (t.jack k).gen.pending = (s.jack k).gen.pending ∧
      (t.jack k).gen.brake = (s.jack k).gen.brake := by
  have same (f : Jack → Jack) (i : Sta) (hf : ∀ j, (f j).gen.run = j.gen.run ∧ (f j).gen.pending = j.gen.pending ∧
      (f j).gen.brake = j.gen.brake) (k : Sta) : ((s.updJack i f).jack k).gen.run = (s.jack k).gen.run ∧
      ((s.updJack i f).jack k).gen.pending = (s.jack k).gen.pending ∧ ((s.updJack i f).jack k).gen.brake = (s.jack k).gen.brake := by
    rw [updJack_jack]
    split_ifs
    · exact hf _
    · exact ⟨rfl, rfl, rfl⟩
  have discarded (hd : exec i s = .next s) (k : Sta) : (t.jack k).gen.run = (s.jack k).gen.run ∧
      (t.jack k).gen.pending = (s.jack k).gen.pending ∧ (t.jack k).gen.brake = (s.jack k).gen.brake := by
    obtain rfl : s = t := Host.Outcome.next.inj (hd.symm.trans h)
    exact ⟨rfl, rfl, rfl⟩
  by_cases hd : exec i s = .next s
  · exact discarded hd
  have acts := fun hx => hd (resetAndAFullQueueDiscardCommands.1 i s hr hx)
  have command (c : GroupCommand) (p : CommandPhase) : i ≠ c.row p := by
    rintro rfl
    cases p with
    | arrival tag => exact acts (.inl (by cases c <;> rfl))
    | execution => exact acts (.inr (.inl ⟨c, rfl⟩))
  cases i with
  | beaconEnd | gapTimerExpiry => cases h; exact fun k => ⟨rfl, rfl, rfl⟩
  | encoderEdge k l | bothLinesChange k => cases h; exact same _ _ fun j => ⟨rfl, rfl, rfl⟩
  | homeInactive k => cases h; exact same _ _ fun j => ⟨rfl, rfl, rfl⟩
  | stepPulseEnd k =>
    cases h
    refine same _ _ fun j => ?_
    simp only [Generator.pulseEnd]
    split_ifs <;> exact ⟨rfl, rfl, rfl⟩
  | homeActivation k =>
    cases h
    unfold homeFall
    split_ifs
    · exact fun k => ⟨rfl, rfl, rfl⟩
    · rw [unlessReset_of_reset (by simpa using hr)]
      exact same _ _ fun j => ⟨rfl, rfl, rfl⟩
  | setupDone p => exact absurd rfl (command .setupDone p)
  | resetup p => exact absurd rfl (command .resetup p)
  | engage p => exact absurd rfl (command .engage p)
  | run p => exact absurd rfl (command .run p)
  | continueRun p => exact absurd rfl (command .continueRun p)
  | stop p => exact absurd rfl (command .stop p)
  | resume p => exact absurd rfl (command .resume p)
  | land p => exact absurd rfl (command .land p)
  | ackFaults p => exact absurd rfl (command .ackFaults p)
  | clearLockout p => exact absurd rfl (command .clearLockout p)
  | _ => simp [requestRow, changesPins] at acts hi

theorem powered_gen (p : PowerPins) (k : Sta) : ((State.powered p).jack k).gen = Generator.reset := by
  rw [powered_jack]
  rfl

theorem permitSafe_powered (p : PowerPins) : PermitSafe (State.powered p) :=
  ⟨fun _ => rfl, fun _ k => by rw [powered_gen]; exact ⟨rfl, rfl⟩, fun _ k => by rw [powered_gen]; rfl⟩

theorem permitSafe_warmBegin (s : State) : PermitSafe (warmBegin s) := by
  refine ⟨nofun, fun _ k => ?_, fun _ k => ?_⟩
  · rw [warmBegin_jack]
    exact (s.jack k).gen.abandon_atRest
  · rw [warmBegin_jack]
    rfl

theorem permitSafe_warmEnd (a b : Bool) (s : State) : PermitSafe (warmEnd a b s) := by
  refine .of_kept (.warmEnd (edit := True) a b s) rfl ⟨fun _ => rfl, fun _ k => ?_, fun _ k => ?_⟩
  · rw [warmBlocks_jack]
    exact ⟨rfl, rfl⟩
  · rw [warmBlocks_jack]
    rfl

theorem cutMoves_atRest (s : State) : GensAtRest (cutMoves s) := by
  have hgen : ∀ k, ((cutMoves s).jack k).gen = ((abandonAll s).jack k).gen := by
    unfold cutMoves
    refine forStations_keeps (P := fun t => ∀ k, (t.jack k).gen = ((abandonAll s).jack k).gen) (fun i t ht k => ?_) fun _ => rfl
    rw [abandonMove_gen, ht]
  intro k
  rw [hgen, abandonAll_jack]
  exact Generator.abandon_atRest _

/-- A permit fall taken leaves every generator at rest and every brake APPLIED. -/
theorem permitSafe_takeFall (hr : s.pins.resetAsserted = false) (hp : s.pins.permit = false) : PermitSafe (takeFall s) := by
  have hk := Kept.takeFall (edit := True) s
  have hpermit : (takeFall s).group.permit = false := hk.permit
  refine ⟨fun _ => ?_, fun _ => ?_, fun _ k => ?_⟩
  · rw [hpermit, hk.pins]
    exact hp.symm
  · unfold takeFall
    extract_lets stops u
    have hu : u.pins.resetAsserted = false := by
      rw [show u.pins = _ from (Kept.cutMoves (edit := True) _).pins]
      exact hr
    have hug : u.group.permit = false := by rw [show u.group = _ from cutMoves_group _]; rfl
    have hk : Kept True u (handOver (settleBrakes (if stops then stopByFall u else u))) := by
      refine Kept.trans ?_ ((Kept.settleBrakes _).trans (.handOver _))
      split_ifs with hstops
      · exact .stopByFall (by rw [show u.group = _ from cutMoves_group _]; exact hstops)
      · exact .refl u
    exact hk.rest hu (fun _ => cutMoves_atRest _) (by unfold generatorsHeld; rw [hk.permit, hug]; rfl)
  · have : (takeFall s).group.permit = false → ((takeFall s).jack k).gen.brake = .applied := by
      unfold takeFall
      rw [handOver_jack, handOver_group]
      exact (settleBrakes_brakeSafe _ k).1
    exact this hpermit

/-- Every command keeps the permit rules. -/
theorem exec_permitSafe {i : Instr} (hs : PermitSafe s) (h : exec i s = .next t) : PermitSafe t := by
  by_cases hi : changesPins i = false
  · obtain ⟨u, hu, hk, -⟩ := exec_kept i s hi
    obtain rfl : u = t := Host.Outcome.next.inj (hu.symm.trans h)
    cases hr : s.pins.resetAsserted with
    | false => exact hs.of_kept hk hr
    | true =>
      have hgen := exec_inReset hi hr h
      obtain ⟨-, hrest, happlied⟩ := hs
      refine ⟨fun hf => ?_, fun _ k => ?_, fun _ k => ?_⟩
      · rw [hk.pins, hr] at hf
        cases hf
      · obtain ⟨hrun, hpending, -⟩ := hgen k
        rw [hrun, hpending]
        exact hrest (.inl hr) k
      · obtain ⟨-, -, hbrake⟩ := hgen k
        rw [hbrake]
        exact happlied (.inl hr) k
  obtain ⟨hline, hrest, happlied⟩ := hs
  cases i with
  | powerOn p => cases h; exact permitSafe_powered p
  | warmResetBegin =>
    cases h
    split_ifs
    · exact ⟨hline, hrest, happlied⟩
    · exact permitSafe_warmBegin s
  | warmResetEnd a b =>
    cases h
    split_ifs
    · exact permitSafe_warmEnd a b s
    · exact ⟨hline, hrest, happlied⟩
  | permitFall =>
    cases h
    split_ifs
    · cases hr : s.pins.resetAsserted with
      | true =>
        rw [unlessReset_of_reset (by exact hr)]
        exact ⟨fun hf => (by cases hr.symm.trans hf), hrest, happlied⟩
      | false =>
        rw [unlessReset_of_running (by exact hr)]
        exact permitSafe_takeFall hr rfl
    · exact ⟨hline, hrest, happlied⟩
  | permitRise =>
    cases h
    split_ifs
    · exact ⟨hline, hrest, happlied⟩
    · cases hr : s.pins.resetAsserted with
      | true =>
        rw [unlessReset_of_reset (by exact hr)]
        exact ⟨fun hf => (by cases hr.symm.trans hf), hrest, happlied⟩
      | false =>
        rw [unlessReset_of_running (by exact hr)]
        refine .of_kept (.takeRise (edit := True) _) hr ⟨fun _ => rfl, fun hg => hrest ?_, fun hg => ?_⟩
        · rcases hg with hg | hg | hg
          · exact .inl hg
          · cases hg
          · exact .inr (.inr hg)
        · rcases hg with hg | hg
          · cases hr.symm.trans hg
          · cases hg
  | transmitCompletion a b =>
    cases h
    split_ifs with hr
    · exact ⟨hline, hrest, happlied⟩
    · unfold frameSent
      split
      · exact ⟨hline, hrest, happlied⟩
      · simp only
        split_ifs
        · exact permitSafe_warmEnd a b _
        · exact .of_kept (.movePending (edit := True) _) (by simpa using hr) ⟨hline, hrest, happlied⟩
  | _ => exact absurd rfl hi

/-! ### The brakes -/

/-- A warm reset leaves every brake APPLIED, as it is called for. -/
theorem brakesSafe_warmEnd (a b : Bool) (s : State) : BrakesSafe (warmEnd a b s) := by
  intro _ k
  have hjack : (warmEnd a b s).jack k = (s.jack k).warm.latchRest := by
    unfold warmEnd
    simp [warmBlocks_jack]
  have hstate : (warmEnd a b s).group.state = stateAfterWarm (warmBlocks a b s) := by
    unfold warmEnd
    simp
  have hcalled : brakeCalled (warmEnd a b s).group.state ((warmEnd a b s).jack k) = .applied := by
    rw [hjack, hstate]
    have hr : ((s.jack k).warm.latchRest).record.state = .unassigned ∨ ((s.jack k).warm.latchRest).record.state = .idle ∨
        ((s.jack k).warm.latchRest).record.state = .engaged := by
      show warmState _ _ = _ ∨ warmState _ _ = _ ∨ warmState _ _ = _
      cases (s.jack k).record.state <;> rcases (s.jack k).record.prior with - | (_ | _) <;> simp [warmState]
    have hg : stateAfterWarm (warmBlocks a b s) = .setup ∨ stateAfterWarm (warmBlocks a b s) = .prepared ∨
        stateAfterWarm (warmBlocks a b s) = .stopped := by
      unfold stateAfterWarm
      split_ifs <;> simp
    unfold brakeCalled
    rcases hr with hr | hr | hr <;> rcases hg with hg | hg | hg <;> simp [hr, hg]
  have happlied : ((warmEnd a b s).jack k).gen.brake = .applied := by
    rw [hjack]
    rfl
  exact ⟨fun _ => happlied, fun _ hc => (by cases hcalled.symm.trans hc), fun _ _ _ => happlied⟩

/-- Every command leaves every brake as called for. -/
theorem exec_brakesSafe {i : Instr} (hs : BrakesSafe s) (h : exec i s = .next t) : BrakesSafe t := by
  by_cases hi : changesPins i = false
  · obtain ⟨u, hu, hk, hb⟩ := exec_kept i s hi
    obtain rfl : u = t := Host.Outcome.next.inj (hu.symm.trans h)
    exact fun hr => hb (hs (by rw [← hk.pins]; exact hr))
  cases i with
  | powerOn p =>
    cases h
    intro _ k
    show BrakeSafe (State.powered p) ((State.powered p).jack k)
    rw [powered_jack]
    exact ⟨fun _ => rfl, nofun, fun _ _ _ => rfl⟩
  | warmResetBegin =>
    cases h
    split_ifs
    · exact hs
    · exact nofun
  | warmResetEnd a b =>
    cases h
    split_ifs
    · exact brakesSafe_warmEnd a b s
    · exact hs
  | permitFall =>
    cases h
    split_ifs
    · intro hr
      unfold unlessReset at hr ⊢
      split_ifs at hr ⊢ with hreset
      · cases hreset.symm.trans hr
      · exact ((Braked.settled s _).trans (.handOver _)) (hs (by simpa using hreset))
    · exact hs
  | permitRise =>
    cases h
    split_ifs
    · exact hs
    · intro hr
      unfold unlessReset at hr ⊢
      split_ifs at hr ⊢ with hreset
      · cases hreset.symm.trans hr
      · exact ((Braked.settled s _).trans (.handOver _)) (hs (by simpa using hreset))
  | transmitCompletion a b =>
    cases h
    split_ifs with hr
    · exact hs
    · unfold frameSent
      split
      · exact hs
      · simp only
        split_ifs
        · exact brakesSafe_warmEnd a b _
        · have hb (l : List Frame) : Braked s (movePending (setQueue l s)) := .of_jacks (by simp) (by simp) (by simp)
          exact fun _ => hb _ (hs (by simpa using hr))
  | _ => exact absurd rfl hi

/-- Settles O59. -/
theorem everyStepKeepsThePermitAndTheBrakes : Obligations.EveryStepKeepsThePermitAndTheBrakes :=
  ⟨fun _ _ => step_keeps id exec_permitSafe, fun _ _ => step_keeps id exec_brakesSafe⟩

end Sys2Proof.Machine

/-! PROOF. The requests: plans (O33, O35), the mask, events and the stream (O32), group parameters (O31), gates (O39) and offsets (O40). -/

namespace Sys2Proof.Machine

-- One theorem after another, as in the tests: a thread each for this many proofs would pass the memory limit.
set_option Elab.async false

variable {s t u : State} {k : Sta}

/-! ### How a request is answered -/

/-- A request answered DONE or CLAMPED that raises no event leaves its effect, with its reply behind the frames held. -/
theorem takeKind_clamped (h : Ready s) {kind tag : Byte} {serve : State → Answer} {changed : Bool}
    (hs : serve s = Answer.clamped changed u) (hu : u.line.raised = s.line.raised) :
    takeKind kind tag serve s = answered (replyKind kind) tag (if changed then .clamped else .done) [] u :=
  takeKind_answers h (hu.trans h.2.2) hs

/-! Each request row is the request taken. -/

theorem exec_status (tag c : Byte) (s : State) : exec (.status tag c) s = .next (takeKind 0x01 tag (serveStatus c) s) := rfl
theorem exec_stationGet (tag i : Byte) (s : State) : exec (.stationGet tag i) s = .next (takeKind 0x02 tag (serveStationGet i) s) := rfl
theorem exec_carGet (tag n : Byte) (s : State) : exec (.carGet tag n) s = .next (takeKind 0x04 tag (serveCarGet n) s) := rfl
theorem exec_carSet (tag n : Byte) (r : RawCar) (s : State) : exec (.carSet tag n r) s = .next (takeKind 0x05 tag (serveCarSet n r) s) := rfl
theorem exec_carSetDelete (tag n : Byte) (s : State) : exec (.carSetDelete tag n) s = .next (takeKind 0x05 tag (serveCarDelete n) s) := rfl
theorem exec_groupGet (tag : Byte) (s : State) : exec (.groupGet tag) s = .next (takeKind 0x06 tag serveGroupGet s) := rfl
theorem exec_groupSet (tag : Byte) (m : Word) (vs : List Word) (s : State) :
    exec (.groupSet tag m vs) s = .next (takeKind 0x07 tag (serveGroupSet m vs) s) := rfl
theorem exec_snapshot (tag : Byte) (s : State) : exec (.snapshot tag) s = .next (takeKind 0x10 tag serveSnapshot s) := rfl
theorem exec_stream (tag : Byte) (p : Half) (s : State) : exec (.stream tag p) s = .next (takeKind 0x13 tag (serveStream p) s) := rfl
theorem exec_planWrite (tag i : Byte) (r : RawSegment) (s : State) :
    exec (.planWrite tag i r) s = .next (takeKind 0x20 tag (servePlanWrite i r) s) := rfl
theorem exec_planRead (tag r i : Byte) (s : State) : exec (.planRead tag r i) s = .next (takeKind 0x21 tag (servePlanRead r i) s) := rfl
theorem exec_planClear (tag : Byte) (s : State) : exec (.planClear tag) s = .next (takeKind 0x22 tag servePlanClear s) := rfl
theorem exec_withdraw (tag : Byte) (s : State) : exec (.withdraw tag) s = .next (takeKind 0x24 tag serveWithdraw s) := rfl
theorem exec_planMode (tag m : Byte) (s : State) : exec (.planMode tag m) s = .next (takeKind 0x25 tag (servePlanMode m) s) := rfl
theorem exec_jog (tag i : Byte) (d : Word) (s : State) : exec (.jog tag i d) s = .next (takeKind 0x30 tag (serveJog i d) s) := rfl
theorem exec_home (tag i : Byte) (s : State) : exec (.home tag i) s = .next (takeKind 0x31 tag (serveHome i) s) := rfl
theorem exec_trim (tag i : Byte) (d : Word) (s : State) : exec (.trim tag i d) s = .next (takeKind 0x32 tag (serveTrim i d) s) := rfl
theorem exec_openGate (tag i : Byte) (s : State) : exec (.openGate tag i) s = .next (takeKind 0x33 tag (serveOpenGate i) s) := rfl
theorem exec_closeGate (tag i : Byte) (s : State) : exec (.closeGate tag i) s = .next (takeKind 0x34 tag (serveCloseGate i) s) := rfl
theorem exec_setOffset (tag i : Byte) (o : Word) (s : State) :
    exec (.setOffset tag i o) s = .next (takeKind 0x35 tag (serveSetOffset i o) s) := rfl

section
variable {i : Instr} {kind tag : Byte} {serve : State → Answer}

/-- A row whose request is refused. -/
theorem exec_refuses (hi : exec i s = .next (takeKind kind tag serve s)) (h : Ready s) {o : ReplyOutcome}
    (hs : serve s = Answer.refused o s) : exec i s = .next (answered (replyKind kind) tag o [] s) := by
  rw [hi, takeKind_refuses h hs]

/-- A row whose request is answered DONE. -/
theorem exec_done (hi : exec i s = .next (takeKind kind tag serve s)) (h : Ready s) {c : List Byte}
    (hs : serve s = Answer.done u c) (hu : u.line.raised = s.line.raised := by rfl) :
    exec i s = .next (answered (replyKind kind) tag .done c u) := by
  rw [hi, takeKind_done h hs hu]

/-- A row whose request is answered DONE or CLAMPED. -/
theorem exec_clamped (hi : exec i s = .next (takeKind kind tag serve s)) (h : Ready s) {changed : Bool}
    (hs : serve s = Answer.clamped changed u) (hu : u.line.raised = s.line.raised := by rfl) :
    exec i s = .next (answered (replyKind kind) tag (if changed then .clamped else .done) [] u) := by
  rw [hi, takeKind_clamped h hs hu]
end

/-! ### The pending bank (R157 to R161, R165, R166) -/

theorem servePlanClear_of_queued (h : s.plan.commit.isSome = true) : servePlanClear s = Answer.refused .bankQueued s := if_pos h

theorem servePlanClear_of_editable (h : s.plan.commit = none) :
    servePlanClear s = Answer.done { s with plan := s.plan.setPending [] } [] := if_neg (by simp [h])

theorem serveCommit_of_queued (h : s.plan.commit.isSome = true) (kind : CommitKind) :
    serveCommit kind s = Answer.refused .bankQueued s := if_pos h

theorem serveCommit_of_empty (h : s.plan.commit = none) (hb : s.plan.pendingBank = []) (kind : CommitKind) :
    serveCommit kind s = Answer.refused .empty s := by
  simp [serveCommit, h, hb]

theorem serveCommit_of_segments (h : s.plan.commit = none) (hb : s.plan.pendingBank ≠ []) (kind : CommitKind) :
    serveCommit kind s = Answer.done { s with plan := { s.plan with commit := some kind, taken := false } } [] := by
  simp [serveCommit, h, hb]

/-- Settles O35. -/
theorem commitsAreQueuedAndWithdrawn : Obligations.CommitsAreQueuedAndWithdrawn := by
  refine ⟨fun tag s h row kind hrow => ?commit, fun tag s h => ⟨fun hc => ?queued, fun hc => ?editable, fun m => ?mode⟩⟩
  case commit =>
    have hi : exec row s = .next (takeKind 0x23 tag (serveCommit kind) s) := by
      simp only [List.mem_cons, List.not_mem_nil, or_false, Prod.mk.injEq] at hrow
      obtain ⟨rfl, rfl⟩ | ⟨rfl, rfl⟩ := hrow <;> rfl
    exact ⟨fun hc => exec_refuses hi h (serveCommit_of_queued hc kind), fun hc hb => exec_refuses hi h (serveCommit_of_empty hc hb kind),
      fun hc hb => exec_done hi h (serveCommit_of_segments hc hb kind)⟩
  case queued => exact exec_done (exec_withdraw tag s) h (if_pos hc)
  case editable =>
    have hs : serveWithdraw s = Answer.refused (if s.plan.taken then .tooLate else .wrongState) s := by
      unfold serveWithdraw
      rw [if_neg (by simp [hc])]
      split_ifs <;> rfl
    exact exec_refuses (exec_withdraw tag s) h hs
  case mode =>
    by_cases h1 : m = 1
    · rw [if_pos h1]
      exact exec_done (exec_planMode tag m s) h (if_pos h1)
    by_cases h2 : m = 2
    · rw [if_neg h1, if_pos h2]
      exact exec_done (exec_planMode tag m s) h ((if_neg h1).trans (if_pos h2))
    · rw [if_neg h1, if_neg h2]
      exact exec_refuses (exec_planMode tag m s) h ((if_neg h1).trans (if_neg h2))

section
variable {b : Byte} {r : RawSegment}

theorem servePlanWrite_of_index (h : 16 ≤ b.toNat) : servePlanWrite b r s = Answer.refused .badValue s := if_pos h

theorem servePlanWrite_of_queued (h : b.toNat < 16) (hc : s.plan.commit.isSome = true) :
    servePlanWrite b r s = Answer.refused .bankQueued s := by
  unfold servePlanWrite
  simp only
  rw [if_neg (by simpa [Config.bankSize] using h), if_pos hc]

theorem servePlanWrite_of_gap (h : b.toNat < 16) (hc : s.plan.commit = none) (hg : s.plan.pendingBank.length < b.toNat) :
    servePlanWrite b r s = Answer.refused .badValue s := by
  unfold servePlanWrite
  simp only
  rw [if_neg (by simpa [Config.bankSize] using h), if_neg (by simp [hc]), if_pos hg]

/-- A record with a field out of range, at an index that the bank takes. -/
theorem servePlanWrite_of_none (h : b.toNat < 16) (hc : s.plan.commit = none) (hg : b.toNat ≤ s.plan.pendingBank.length)
    (hr : storeSegment s.group.params r = none) : servePlanWrite b r s = Answer.refused .badValue s := by
  unfold servePlanWrite
  simp only
  rw [if_neg (by simpa [Config.bankSize] using h), if_neg (by simp [hc]), if_neg (by omega), hr]

/-- A record that is stored as `g`, at an index that the bank takes. -/
theorem servePlanWrite_of_some {g : Segment} {changed : Bool} (h : b.toNat < 16) (hc : s.plan.commit = none)
    (hg : b.toNat ≤ s.plan.pendingBank.length) (hr : storeSegment s.group.params r = some (g, changed)) :
    servePlanWrite b r s = Answer.clamped changed { s with plan := s.plan.setPending (writeSegment s.plan.pendingBank b.toNat g) } := by
  unfold servePlanWrite
  simp only
  rw [if_neg (by simpa [Config.bankSize] using h), if_neg (by simp [hc]), if_neg (by omega), hr]

theorem storeSegment_eq_none (p : GroupParams)
    (h : r.accel = 0 ∨ 500 < r.accel.toNat ∨ (r.kind ≠ 1 ∧ r.kind ≠ 2) ∨ (r.kind = 1 ∧ r.cruise = 0) ∨
        (r.kind = 2 ∧ (r.dwell = 0 ∨ 60000 < r.dwell.toNat))) : storeSegment p r = none := by
  unfold storeSegment
  by_cases ha : r.accel.toNat < 1 ∨ 500 < r.accel.toNat
  · exact if_pos ha
  rw [if_neg ha]
  rcases h with h | h | ⟨h1, h2⟩ | ⟨h1, h2⟩ | ⟨h1, h2⟩
  · exact absurd (.inl (by simp [h])) ha
  · exact absurd (.inr h) ha
  · rw [if_neg h1, if_neg h2]
  · rw [if_pos h1, if_pos h2]
  · rw [h1, if_neg (by decide), if_pos rfl, if_pos]
    exact h2.imp (fun h => by simp [h]) id

theorem storeSegment_move (p : GroupParams) (ha : 1 ≤ r.accel.toNat) (ha' : r.accel.toNat ≤ 500) (hk : r.kind = 1)
    (hc : 1 ≤ r.cruise.toNat) : storeSegment p r = some
      ({ kind := .move, target := min r.target.toNat p.lMax, cruise := min r.cruise.toNat p.vMax, accel := r.accel.toNat, dwell := 0,
         stopAfter := r.stopAfter != 0 }, decide (p.lMax < r.target.toNat) || decide (p.vMax < r.cruise.toNat)) := by
  unfold storeSegment
  have : r.cruise ≠ 0 := by rintro h; simp [h] at hc
  rw [if_neg (by omega), if_pos hk, if_neg this]

theorem storeSegment_dwell (p : GroupParams) (ha : 1 ≤ r.accel.toNat) (ha' : r.accel.toNat ≤ 500) (hk : r.kind = 2)
    (hd : 1 ≤ r.dwell.toNat) (hd' : r.dwell.toNat ≤ 60000) : storeSegment p r = some
      ({ kind := .dwell, target := 0, cruise := 0, accel := r.accel.toNat, dwell := r.dwell.toNat, stopAfter := r.stopAfter != 0 },
       false) := by
  unfold storeSegment
  rw [if_neg (by omega), if_neg (by rw [hk]; decide), if_pos hk, if_neg (by omega)]

end

/-- Settles O33. -/
theorem planWriteStoresClampedSegments : Obligations.PlanWriteStoresClampedSegments := by
  refine ⟨fun tag s h => ⟨fun hc => ?clearQueued, fun hc => ?clear⟩, fun tag b r s h => ⟨fun hb => ?index, fun hb hc => ?queued,
    fun hb hc hg => ?gap, fun hb hc hg => ⟨fun hr => ?refused, fun ha ha' hk hcr => ?move, fun ha ha' hk hd hd' => ?dwell⟩⟩⟩
  case clearQueued => exact exec_refuses (exec_planClear tag s) h (servePlanClear_of_queued hc)
  case clear => exact exec_done (exec_planClear tag s) h (servePlanClear_of_editable hc)
  case index => exact exec_refuses (exec_planWrite tag b r s) h (servePlanWrite_of_index hb)
  case queued => exact exec_refuses (exec_planWrite tag b r s) h (servePlanWrite_of_queued hb hc)
  case gap => exact exec_refuses (exec_planWrite tag b r s) h (servePlanWrite_of_gap hb hc hg)
  case refused => exact exec_refuses (exec_planWrite tag b r s) h (servePlanWrite_of_none hb hc hg (storeSegment_eq_none _ hr))
  case move =>
    refine (exec_clamped (exec_planWrite tag b r s) h (servePlanWrite_of_some hb hc hg (storeSegment_move _ ha ha' hk hcr))).trans ?_
    simp only [Bool.or_eq_true, decide_eq_true_eq]
    rfl
  case dwell => exact exec_clamped (exec_planWrite tag b r s) h (servePlanWrite_of_some hb hc hg (storeSegment_dwell _ ha ha' hk hd hd'))

/-! ### Calibration gates (R66, R68) -/

/-- Settles O39. -/
theorem calibrationGatesOpenAndClose : Obligations.CalibrationGatesOpenAndClose := by
  intro tag k s h
  have hopen : serveOpenGate (byteOf k.val) s =
      if (s.jack k).assigned = false then Answer.refused .unassigned s
      else if s.group.state ≠ .setup ∧ s.group.state ≠ .prepared then Answer.refused .wrongState s
      else if gateState (s.jack k).record.state = false then Answer.refused .wrongState s
      else if (s.jack k).mon.gateOpen then Answer.refused .wrongState s
      else Answer.done (s.updJack k (fun j => { j with mon := j.mon.openGate })) [] := withStation_byteOf k s _
  have hclose : serveCloseGate (byteOf k.val) s =
      if (s.jack k).mon.gateOpen = false then Answer.refused .wrongState s
      else Answer.done (s.updJack k (fun j => { j with mon := j.mon.closeGate })) (gateContent (s.jack k).mon) :=
    withStation_byteOf k s _
  refine ⟨fun hk hg hm => ?opens, fun hm => ⟨?refused, ?closes⟩, fun hm => ?shut⟩
  case opens =>
    have ha : (s.jack k).assigned = true ∧ gateState (s.jack k).record.state = true := by
      simp only [List.mem_cons, List.not_mem_nil, or_false] at hk
      rcases hk with hk | hk | hk <;> simp [Jack.assigned, gateState, hk]
    refine exec_done (exec_openGate tag _ s) h (hopen.trans ?_)
    rw [ha.1, ha.2, hm, if_neg (by simp), if_neg (by tauto)]
    rfl
  case refused =>
    refine exec_refuses (exec_openGate tag _ s) h (hopen.trans ?_)
    rw [hm]
    by_cases ha : (s.jack k).record.state = .unassigned
    · rw [if_pos (by simp [Jack.assigned, ha]), if_pos ha]
    · rw [if_neg (by simp [Jack.assigned, ha]), if_neg ha, if_pos rfl, ite_self, ite_self]
  case closes => exact exec_done (exec_closeGate tag _ s) h (hclose.trans (if_neg (by simp [hm])))
  case shut => exact exec_refuses (exec_closeGate tag _ s) h (hclose.trans (if_pos hm))

end Sys2Proof.Machine

namespace Sys2Proof.Machine

-- One theorem after another, as in the tests: a thread each for this many proofs would pass the memory limit.
set_option Elab.async false

variable {s t u : State} {k : Sta}

/-! ### Offsets (R13 to R15, R34) -/

theorem StationRec.takeOffset_eq (r : StationRec) : r.takeOffset =
    { r with settings := { r.settings with offset := r.pendingOffset.getD r.settings.offset }, pendingOffset := none } := by
  obtain ⟨_, g, o, _⟩ := r
  cases o <;> rfl

theorem serveSetOffset_of_station (k : Sta) (o : Word) (s : State) : serveSetOffset (byteOf k.val) o s =
    if (s.jack k).assigned = false then Answer.refused .unassigned s
    else if offsetGroup s.group.state = false then Answer.refused .wrongState s
    else if withinMagnitude 50000 o.toInt = false then Answer.refused .badValue s
    else if (offsetFailure s.cars (offsetsWith s k o.toInt)).isSome then Answer.refused .geometry s
    else Answer.done (s.updRec k (fun r => { r with pendingOffset := some o.toInt })) [] := withStation_byteOf k s _

theorem Jack.assigned_eq_false {j : Jack} : j.assigned = false ↔ j.record.state = .unassigned := by simp [Jack.assigned]

theorem offsetGroup_iff {g : GroupState} : offsetGroup g = true ↔ g ∈ [GroupState.prepared, .poised, .holding, .stopped] := by
  simp [offsetGroup, or_assoc]

/-- Settles O40. -/
theorem offsetsWaitForTheCycleStart : Obligations.OffsetsWaitForTheCycleStart := by
  refine ⟨fun tag k o s h hk hg hlo hhi => ?set, fun cars o => ?validation, fun s hr => ?take⟩
  case set =>
    have hserve := serveSetOffset_of_station k o s
    rw [if_neg (by rwa [Jack.assigned_eq_false]), if_neg (by rw [Bool.not_eq_false]; exact offsetGroup_iff.mpr hg),
      if_neg (by rw [Bool.not_eq_false, withinMagnitude_eq_true]; exact ⟨hlo, hhi⟩)] at hserve
    show _ = Host.Outcome.next (if offsetFailure s.cars (offsetsWith s k o.toInt) = none then _ else _)
    cases hf : offsetFailure s.cars (offsetsWith s k o.toInt) with
    | none => exact exec_done (exec_setOffset tag _ o s) h (hserve.trans (if_neg (by simp [hf])))
    | some n => exact exec_refuses (exec_setOffset tag _ o s) h (hserve.trans (if_pos (by simp [hf])))
  case validation =>
    intro twisted mean stepped failures
    have htwisted (c : Car) : beyond (offsetTwist o c) c.twistLimit = twisted c := by
      simp only [twisted, offsetTwist]
      rcases c.fl with - | fl <;> rcases c.fr with - | fr <;> rcases c.rl with - | rl <;> rcases c.rr with - | rr <;> rfl
    have hstepped (c d : Car) : beyond (offsetStep o c d) c.couplingLimit = stepped c d := by
      simp only [stepped, offsetStep, mean]
      rcases meanOf [c.rl.map o, c.rr.map o] with - | r <;> rcases meanOf [d.fl.map o, d.fr.map o] with - | f <;> rfl
    simp only [failures, List.head?_flatMap]
    unfold offsetFailure
    congr 1
    funext i
    unfold offsetFailureAt carBehind
    cases hc : cars[i]? with
    | none => rfl
    | some c =>
      simp only [htwisted, hstepped, Option.toList_some]
      by_cases ht : twisted c = true
      · simp [ht]
      · cases hd : cars[i + 1]? with
        | none => simp [ht]
        | some d =>
          cases hcoupled : c.coupled
          · simp [ht, hcoupled]
          · by_cases hst : stepped c d = true <;> simp [ht, hcoupled, hst]
  case take =>
    refine congrArg Host.Outcome.next ((unlessReset_of_running hr _).trans ?_)
    simp only [takeOffsets, StationRec.takeOffset_eq]

/-! ### Group parameters (R114) -/

/-- Every marked test passes. -/
theorem markedPass_iff {marked : Nat → Bool} {tests : List Bool} :
    markedPass marked tests = true ↔ ∀ i, i < tests.length → marked i = true → tests.getD i false = true := by
  simp only [markedPass, List.all_eq_true, Bool.or_eq_true, Bool.not_eq_true', Prod.forall, List.mem_zipIdx_iff_getElem?]
  refine ⟨fun h i hi hm => ?_, fun h b i hb => ?_⟩
  · rw [List.getD_eq_getElem?_getD, List.getElem?_eq_getElem hi]
    exact (h tests[i] i (List.getElem?_eq_getElem hi)).resolve_left (by simp [hm])
  · obtain ⟨hi, rfl⟩ := List.getElem?_eq_some_iff.mp hb
    by_cases hm : marked i = true
    · exact .inr (by simpa [List.getD_eq_getElem?_getD, List.getElem?_eq_getElem hi] using h i hi hm)
    · exact .inl (by simpa using hm)

/-- The ranges of R114's table, in its order. -/
def paramRanges : List (Nat × Nat) :=
  [(1, 2500000), (1, 8000), (0, 255), (0, 1000), (10, 5000), (11, 20000), (1, 65535), (1, 20000), (1, 15), (1, 7),
   (1, 200000), (1, 8000), (1, 500), (1, 100000), (1, 20000), (1, 20000), (1, 2500000), (50, 100), (5, 100), (4, 32),
   (1, 10000), (1, 15), (1, 1000), (1, 15), (1, 15), (1, 60)]

theorem paramsInRange_getD (v : Nat → Nat) {i : Nat} (hi : i < 26) : (paramsInRange v).getD i false = true ↔
    (paramRanges.getD i (0, 0)).1 ≤ v i ∧ v i ≤ (paramRanges.getD i (0, 0)).2 ∧ (i = 19 → v i ∈ [4, 8, 16, 32]) := by
  by_cases h : i = 19
  · subst h
    simp [paramsInRange, paramRanges]
    omega
  · interval_cases i <;> simp [paramsInRange, paramRanges] at h ⊢

theorem marksSetupOnly_iff {m : Word} :
    marksSetupOnly m = true ↔ ∃ i, i < 26 ∧ i ∉ [2, 3, 17, 18] ∧ m.getLsbD i = true := by
  simp only [marksSetupOnly, writableAnywhere, List.any_eq_true, List.mem_range, Bool.and_eq_true, Bool.not_eq_true',
    Bool.or_eq_false_iff, beq_eq_false_iff_ne, List.mem_cons, List.not_mem_nil, or_false, not_or]
  exact exists_congr fun i => by tauto

theorem toList_ofFn (v : Nat → Nat) {i : Nat} (hi : i < 26) : (GroupParams.ofFn v).toList.getD i 0 = v i := by
  interval_cases i <;> rfl

/-- Settles O31. -/
theorem groupSetWritesMarkedParameters : Obligations.GroupSetWritesMarkedParameters := by
  intro tag m vs s h hlen v ranges valid refused setupOnly
  have hvalid : markedPass (fun i => m.getLsbD i) (paramsInRange (carried vs)) = true ↔ valid := by
    rw [markedPass_iff]
    exact forall_congr' fun i => forall_congr' fun hi => imp_congr_right fun _ => paramsInRange_getD (carried vs) hi
  have hserve : serveGroupSet m vs s =
      if s.group.state ≠ .setup ∧ setupOnly then Answer.refused .wrongState s
      else if ¬ valid then Answer.refused .badValue s
      else if s.group.state ≠ .setup ∧ m.getLsbD 3 = true ∧ s.group.params.holdBand ≤ v 3 then Answer.refused .badValue s
      else Answer.done { s with group := { s.group with params := s.group.params.write m v } } [] := by
    unfold serveGroupSet
    simp only [marksSetupOnly_iff, ← Bool.not_eq_true, hvalid]
    rw [if_neg (by simp [hlen])]
    rfl
  refine ⟨fun hg hm => ?setupOnly, fun hg hn => ?range, fun hg hm hv h3 hb => ?band, fun hv hg => ?written⟩
  case setupOnly => exact exec_refuses (exec_groupSet tag m vs s) h (hserve.trans (if_pos ⟨hg, hm⟩))
  case range =>
    exact exec_refuses (exec_groupSet tag m vs s) h (hserve.trans ((if_neg fun h => hg.elim h.1 (fun hn => hn h.2)).trans (if_pos hn)))
  case band =>
    exact exec_refuses (exec_groupSet tag m vs s) h
      (hserve.trans ((if_neg fun h => hm h.2).trans ((if_neg (not_not.mpr hv)).trans (if_pos ⟨hg, h3, hb⟩))))
  case written =>
    refine ⟨s.group.params.write m v, exec_done (exec_groupSet tag m vs s) h (hserve.trans ?_), fun i hi => toList_ofFn _ hi⟩
    rw [if_neg fun h => hg.elim h.1 (fun hn => hn.1 h.2), if_neg (not_not.mpr hv), if_neg]
    rintro ⟨hne, h3, hb⟩
    obtain hg | ⟨-, hlt⟩ := hg
    · exact hne hg
    · exact absurd (hlt h3) (Nat.not_lt.mpr hb)

/-! ### Pending records and their moves (R182, R183) -/

/-- The priority of a pending record. -/
def PendingEvent.kind (p : PendingEvent) : Nat := p.raised.event.priority

/-- The records a mask lets through. -/
def unmasked (m : Half) (l : List PendingEvent) : List PendingEvent := l.filter (fun p => !m.getLsbD (p.kind - 1))

/-- What up to `n` moves leave, written out as in `State.pendingMoved`. -/
def movedBy (n : Nat) (s : State) : State :=
  let moved := (unmasked s.line.mask s.line.pending).take n
  let without (i : Nat) : List PendingEvent := s.line.pending.filter (fun p => !(moved.take i).any (fun q => q.kind == p.kind))
  { s with line := { s.line with
    pending := without moved.length
    queue := s.line.queue ++ moved.mapIdx (fun i p => p.notice { s with line := { s.line with pending := without (i + 1) } }) } }

theorem pendingMoved_eq (s : State) : s.pendingMoved = movedBy (5 - s.line.queue.length) s := rfl

theorem movedBy_of_none {n : Nat} (h : (unmasked s.line.mask s.line.pending).take n = []) : movedBy n s = s := by
  unfold movedBy
  simp [h]

/-- The first unmasked record `p` leaves, and its notice is admitted. -/
theorem moveOne_of_free {p : PendingEvent} {rest : List PendingEvent} (hq : s.line.queue.length < 5)
    (hp : unmasked s.line.mask s.line.pending = p :: rest) : moveOne s =
      let t := setPendingEvents (s.line.pending.filter (fun q => !(p.kind == q.kind))) s
      enqueue (p.notice t) t := by
  have hfind : s.line.pending.find? (fun p => !masked s.line.mask p.raised.event) = some p := by
    rw [← List.head?_filter]
    exact congrArg List.head? hp
  have hkind : (fun q : PendingEvent => !sameKind q.raised.event p.raised.event) = fun q => !(p.kind == q.kind) :=
    funext fun q => congrArg _ BEq.comm
  unfold moveOne
  rw [if_pos (show _ < Config.noticeRoom from hq), hfind]
  simp only [hkind]
  rfl

theorem movePending_iterate (n : Nat) (hs : s.line.pending.Pairwise (fun a b => a.kind ≠ b.kind)) :
    moveOne^[n] s = movedBy (min n (5 - s.line.queue.length)) s := by
  induction n generalizing s with
  | zero => exact (movedBy_of_none (by simp)).symm
  | succ n ih =>
    rw [Function.iterate_succ_apply]
    by_cases hq : s.line.queue.length < 5
    swap
    · have : moveOne s = s := if_neg hq
      rw [this, ih hs, Nat.sub_eq_zero_of_le (Nat.not_lt.mp hq), Nat.min_zero, Nat.min_zero]
    cases hfree : unmasked s.line.mask s.line.pending with
    | nil =>
      have hmove : moveOne s = s := by
        unfold moveOne
        have : s.line.pending.find? (fun p => !masked s.line.mask p.raised.event) = none := by
          rw [← List.head?_filter]
          exact congrArg List.head? hfree
        rw [if_pos (show _ < Config.noticeRoom from hq), this]
      rw [hmove, ih hs, movedBy_of_none (by simp [hfree]), movedBy_of_none (by simp [hfree])]
    | cons p rest =>
      set l := s.line.pending with hl
      have hsub : (p :: rest).Pairwise (fun a b => a.kind ≠ b.kind) := hfree ▸ hs.filter _
      have hrest : unmasked s.line.mask (l.filter (fun q => !(p.kind == q.kind))) = rest := by
        unfold unmasked at hfree ⊢
        rw [List.filter_comm, hfree, List.filter_cons_of_neg (by simp)]
        exact List.filter_eq_self.mpr fun q hq => by simp [(List.pairwise_cons.mp hsub).1 q hq]
      have hwithout (m : List PendingEvent) : (l.filter (fun q => !(p.kind == q.kind))).filter (fun a => !m.any (fun q => q.kind == a.kind)) =
          l.filter (fun a => !(p :: m).any (fun q => q.kind == a.kind)) := by
        rw [List.filter_filter]
        exact List.filter_congr fun a _ => by simp [Bool.and_comm]
      have hmin : min (n + 1) (5 - s.line.queue.length) = min n (5 - (s.line.queue.length + 1)) + 1 := by omega
      rw [moveOne_of_free hq (hl ▸ hfree), ih (hs.filter _)]
      simp only [enqueue, setQueue, setPendingEvents, List.length_append, List.length_cons, List.length_nil, Nat.zero_add, hmin]
      generalize min n (5 - (s.line.queue.length + 1)) = m
      unfold movedBy
      simp only [hrest, ← hl, hfree, hwithout, List.take_succ_cons, List.mapIdx_cons, List.append_assoc, List.cons_append,
        List.nil_append, List.length_cons]
      refine congrArg (fun q => ({ s with line := { s.line with pending := _, queue := q } } : State))
        (congrArg (s.line.queue ++ ·) (congrArg₂ List.cons ?_ rfl))
      simp only [List.take_zero, List.any_cons, List.any_nil, Bool.or_false]

end Sys2Proof.Machine

namespace Sys2Proof.Machine

-- One theorem after another, as in the tests: a thread each for this many proofs would pass the memory limit.
set_option Elab.async false

variable {s t u : State} {k : Sta}

theorem PendingSafe.distinct (h : PendingSafe s) : s.line.pending.Pairwise (fun a b => a.kind ≠ b.kind) :=
  (List.pairwise_map.mp h).imp fun hlt => Nat.ne_of_lt hlt

/-- The moves of R183 on a pending set without two records of one kind. -/
theorem movePending_eq (h : PendingSafe s) : movePending s = s.pendingMoved := by
  rw [pendingMoved_eq]
  refine (movePending_iterate _ h.distinct).trans ?_
  rw [Config.noticeRoom, Nat.min_eq_right (Nat.sub_le _ _)]

theorem movePending_of_none (h : s.line.pending = []) : movePending s = s := by
  rw [movePending_eq (by simp [PendingSafe, h]), pendingMoved_eq]
  exact movedBy_of_none (by simp [h, unmasked])

/-- An event that finds a record of its kind marks it "more" (R182). -/
theorem handEvent_of_pending {r : Raised} (h : ∃ p ∈ s.line.pending, p.kind = r.event.priority) : handEvent r s =
    setPendingEvents (s.line.pending.map (fun p => if p.kind = r.event.priority then { p with more := true } else p)) s := by
  have hsame (p : PendingEvent) : sameKind p.raised.event r.event = true ↔ p.kind = r.event.priority := by
    simp [sameKind, PendingEvent.kind]
  unfold handEvent
  rw [if_pos (by simpa [hsame] using h)]
  simp only [hsame]

/-- A record put into a set without one of its kind stands in order of priority. -/
theorem insertPending_eq {p : PendingEvent} {l : List PendingEvent} (h : ∀ q ∈ l, q.kind ≠ p.kind) :
    insertPending p l = l.takeWhile (fun q => decide (q.kind < p.kind)) ++ p :: l.dropWhile (fun q => decide (q.kind < p.kind)) := by
  induction l with
  | nil => rfl
  | cons q l ih =>
    have hq : q.kind ≠ p.kind := h q (by simp)
    unfold insertPending
    change (if p.kind < q.kind then _ else _) = _
    by_cases hlt : p.kind < q.kind
    · rw [if_pos hlt, List.takeWhile_cons_of_neg (by simp; omega), List.dropWhile_cons_of_neg (by simp; omega)]
      rfl
    · rw [if_neg hlt, List.takeWhile_cons_of_pos (by simp; omega), List.dropWhile_cons_of_pos (by simp; omega),
        ih fun x hx => h x (List.mem_cons_of_mem q hx)]
      rfl

theorem eventTaken_handEvent (e : Event) (s : State) : EventTaken e s (handEvent { event := e, cycle := s.group.cycle } s) := by
  refine ⟨fun h => handEvent_of_pending h, fun hn => ?_⟩
  have hany : s.line.pending.any (fun p => sameKind p.raised.event e) = false :=
    List.any_eq_false.mpr fun p hp => by simpa [sameKind] using hn p hp
  refine ⟨fun hm hq => ?_, fun hm => ?_⟩
  · unfold handEvent
    rw [hany, if_neg (by simp), if_pos]
    · rfl
    · exact Bool.and_eq_true_iff.mpr ⟨by simpa [Machine.masked] using hm, decide_eq_true (show _ < Config.noticeRoom from hq)⟩
  · unfold handEvent
    rw [hany, if_neg (by simp), if_neg, insertPending_eq hn]
    · rfl
    · intro hroom
      obtain ⟨hfree, hlt⟩ := Bool.and_eq_true_iff.mp hroom
      obtain hm | hm := hm
      · rw [show Machine.masked s.line.mask e = true from hm] at hfree
        cases hfree
      · exact absurd (of_decide_eq_true hlt) (Nat.not_lt.mpr hm)

/-- One event raised and handed over. -/
theorem handOver_raise_eq (h : s.line.raised = []) (e : Event) : handOver (raise e s) = handEvent { event := e, cycle := s.group.cycle } s := by
  have : ({ s with line := { s.line with raised := [] } } : State) = s := by
    cases s
    rename_i line _ _ _
    cases line
    simp_all
  unfold handOver raise
  simp only [h, List.nil_append, List.foldl_cons, List.foldl_nil, this]

/-! ### The snapshot that falls due (R186) -/

theorem exec_streamSnapshotDue (hr : s.pins.resetAsserted = false) (hp : s.line.streamPeriod ≠ 0)
    (hd : s.line.streamPeriod ≤ s.line.streamCount + 1) : exec .streamSnapshotDue s = .next (placeSnapshot (setStreamCount 0 s)) := by
  refine congrArg Host.Outcome.next ((unlessReset_of_running hr _).trans (if_pos ?_))
  simp [streamDue, hp, hd]

theorem placeSnapshot_of_none (h : ∀ f ∈ s.line.queue, f.cls ≠ .snapshotNotice) : placeSnapshot s =
    setQueue (if s.line.queue.length < 5 then s.line.queue ++ [snapshotFrame s] else s.line.queue) s := by
  unfold placeSnapshot
  split
  · rename_i hq
    simp [enqueue, hq]
  · rename_i sending waiting hq
    rw [hq] at h
    have hany : waiting.any (fun f => f.cls == .snapshotNotice) = false :=
      List.any_eq_false.mpr fun f hf => by simpa using h f (by simp [hf])
    rw [if_neg (h sending (by simp)), hany, if_neg (by simp)]
    by_cases hlt : s.line.queue.length < 5
    · rw [if_pos hlt]
      exact if_pos hlt
    · rw [if_neg hlt]
      exact if_neg hlt

theorem placeSnapshot_of_sending {f : Frame} {rest : List Frame} (hq : s.line.queue = f :: rest) (hf : f.cls = .snapshotNotice) :
    placeSnapshot s = s := by
  unfold placeSnapshot
  rw [hq]
  exact if_pos hf

theorem placeSnapshot_of_waiting {f g : Frame} {before after : List Frame} (hq : s.line.queue = f :: before ++ g :: after)
    (hf : f.cls ≠ .snapshotNotice) (hg : g.cls = .snapshotNotice) (hn : ∀ x ∈ before ++ after, x.cls ≠ .snapshotNotice) :
    placeSnapshot s = setQueue (f :: before ++ snapshotFrame s :: after) s := by
  have hself (l : List Frame) (hl : ∀ x ∈ l, x.cls ≠ .snapshotNotice) :
      l.map (fun x => if x.cls == .snapshotNotice then snapshotFrame s else x) = l :=
    (List.map_congr_left fun x hx => by simp [hl x hx]).trans l.map_id
  unfold placeSnapshot
  rw [hq, List.cons_append]
  simp only
  rw [if_neg hf, if_pos (by simp [hg]), List.map_append, List.map_cons, hself _ fun x hx => hn x (by simp [hx]),
    hself _ fun x hx => hn x (by simp [hx])]
  simp [hg]

/-- Settles O32. -/
theorem maskAndStreamAreSet : Obligations.MaskAndStreamAreSet := by
  have hmask (tag : Byte) (x : Half) (s : State) (h : Ready s) : exec (.eventMask tag x) s = .next (movePending
      (answered 0x92 tag .done (bytes2 (x &&& 0x7FFF) ++ bytes2 (pendingKinds s)) { s with line := { s.line with mask := x &&& 0x7FFF } })) := by
    obtain ⟨hr, hq, hraised⟩ := h
    have hw : takeEventMask tag x s = movePending (finishRequest .reply 0x12 tag (serveEventMask x s)) := by
      have : ¬ 7 ≤ s.line.queue.length := by omega
      simp [takeEventMask, whenRoom, hr, Config.requestRoom, this]
    refine congrArg Host.Outcome.next (hw.trans (congrArg movePending ?_))
    exact finishRequest_of_none (s := { s with line := { s.line with mask := x &&& 0x7FFF } }) hraised 0x12 tag .done _
  refine ⟨fun tag x s h => ⟨fun hp => ?nothing, fun hp => ?moves, fun hx => ?stream, fun h0 hx => ?badPeriod⟩,
    fun s h => ⟨fun e => ?event, fun b x hl hst w hw => ?stray⟩,
    fun s hr hp hd => ⟨fun hn => ?absent, fun f rest hq hf => ?sending, fun f before g after hq hf hg hn => ?waiting⟩⟩
  case nothing =>
    rw [hmask tag x s h, movePending_of_none (by exact hp)]
    simp [pendingKinds, hp]
    rfl
  case moves =>
    rw [hmask tag x s h]
    exact congrArg Host.Outcome.next (movePending_eq hp)
  case stream =>
    have hs : serveStream x s = Answer.done { s with line := { s.line with streamPeriod := x.toNat, streamCount := 0 } } (nat2 x.toNat) :=
      if_pos (hx.imp (fun h => by simp [h]) id)
    have hx2 : nat2 x.toNat = bytes2 x := by simp [nat2]
    rw [← hx2]
    exact exec_done (exec_stream tag x s) h hs
  case badPeriod =>
    refine exec_refuses (exec_stream tag x s) h (if_neg ?_)
    have : x.toNat ≠ 0 := fun e => h0 (BitVec.eq_of_toNat_eq e)
    omega
  case event =>
    rw [handOver_raise_eq h.2]
    exact eventTaken_handEvent e s
  case stray =>
    have hb : receiveLinkByte w { byte := b, framingFault := x } s = raise (.stray 32 none) s := by
      unfold receiveLinkByte
      rw [hl, hst]
      simp only [List.mem_cons, List.not_mem_nil, or_false] at hw
      rcases hw with rfl | rfl <;> rfl
    refine ⟨_, congrArg Host.Outcome.next ((unlessReset_of_running h.1 _).trans ?_), eventTaken_handEvent _ s⟩
    rw [hb, handOver_raise_eq h.2]
  case absent => rw [exec_streamSnapshotDue hr hp hd, placeSnapshot_of_none (by exact hn)]; rfl
  case sending => rw [exec_streamSnapshotDue hr hp hd, placeSnapshot_of_sending (by exact hq) hf]; rfl
  case waiting => rw [exec_streamSnapshotDue hr hp hd, placeSnapshot_of_waiting (by exact hq) hf hg hn]; rfl

/-! ### The end of a frame on CTX (R179, R183, R187) -/

theorem exec_transmitCompletion {f : Frame} {rest : List Frame} (hr : s.pins.resetAsserted = false) (hq : s.line.queue = f :: rest)
    (a b : Bool) : exec (.transmitCompletion a b) s = .next (if f.cls = .restartReply then warmEnd a b (warmBegin (setQueue rest s))
      else movePending (setQueue rest s)) := by
  refine congrArg Host.Outcome.next ((if_neg (by simp [hr])).trans ?_)
  unfold frameSent
  rw [hq]

/-- Settles O26. -/
theorem transmitCompletionFreesItsPlace : Obligations.TransmitCompletionFreesItsPlace := by
  refine ⟨fun tag s h => ?restart, fun a b f rest s hr hq => ⟨fun hf hp => ?alone, fun p hf hp hm hl => ?one, fun hf hp => ?all,
    fun hf => ?warm⟩⟩
  case restart =>
    obtain ⟨hr, hl, hraised⟩ := h
    have hroom : ¬ 7 ≤ s.line.queue.length := by omega
    refine congrArg Host.Outcome.next ?_
    simp only [takeRestart, whenRoom, hr, Config.requestRoom, hroom, if_false, Bool.false_eq_true]
    exact handOver_of_none hraised
  case alone => rw [exec_transmitCompletion hr hq, if_neg hf, movePending_of_none (by exact hp)]; rfl
  case one =>
    have hfree : unmasked (setQueue rest s).line.mask (setQueue rest s).line.pending = [p] := by
      simp [setQueue, hp, hm, unmasked]
    rw [exec_transmitCompletion hr hq, if_neg hf]
    refine congrArg Host.Outcome.next ?_
    obtain ⟨m, hm⟩ : ∃ m, 5 - rest.length = m + 1 := ⟨4 - rest.length, by omega⟩
    rw [movePending_eq (by simp [PendingSafe, setQueue, hp]), pendingMoved_eq]
    unfold movedBy
    rw [hfree]
    simp only [setQueue, hm, hp, List.take_succ_cons, List.take_nil, List.mapIdx_cons, List.mapIdx_nil, List.length_cons, List.length_nil]
    simp
    rfl
  case all =>
    rw [exec_transmitCompletion hr hq, if_neg hf]
    exact congrArg Host.Outcome.next (movePending_eq hp)
  case warm =>
    rw [exec_transmitCompletion hr hq, if_pos hf]
    show _ = runAll _ (setQueue rest s)
    simp only [runAll]
    have h1 : exec .warmResetBegin (setQueue rest s) = .next (warmBegin (setQueue rest s)) :=
      congrArg Host.Outcome.next (if_neg (by simpa [setQueue] using hr))
    rw [h1]
    rfl

/-! ### Bytes and frames (R172 to R174) -/

theorem exec_crxByte (hr : s.pins.resetAsserted = false) (b : Byte) (f : Bool) : exec (.crxByte b f) s = .next (receiveByte b f s) :=
  congrArg Host.Outcome.next (if_neg (by simp [hr]))

theorem toNat_append_byte (hi lo : Byte) : (hi ++ lo : Half).toNat = 256 * hi.toNat + lo.toNat := by
  have := lo.isLt
  rw [BitVec.toNat_append, Nat.shiftLeft_eq, ← Nat.shiftLeft_eq, ← Nat.shiftLeft_add_eq_or_of_lt (by omega), Nat.shiftLeft_eq]
  omega

/-- Settles O23. -/
theorem assemblerFollowsItsTable : Obligations.AssemblerFollowsItsTable := by
  intro b s hr at_
  refine ⟨rfl, fun ha => ⟨?hunting, ?start⟩, fun ha => ?fault, fun ha => ?first, fun hi ha => ?second, fun len taken ha hl => ?collect⟩ <;>
    rw [exec_crxByte hr] <;> refine congrArg Host.Outcome.next ?_ <;> unfold receiveByte
  case hunting => rw [ha]; simp
  case start => rw [ha]; simp only [and_true]; rfl
  case fault =>
    cases hs : s.line.asm with
    | hunting => exact absurd hs ha
    | length first => rfl
    | collecting len taken => rfl
  case first => rw [ha]; rfl
  case second =>
    rw [ha]
    simp only [afterLength, ← toNat_append_byte]
    rfl
  case collect =>
    rw [ha]
    unfold collectByte
    simp only [List.length_append, List.length_cons, List.length_nil]
    rw [if_neg (by simp), if_pos (by omega)]
    rfl

end Sys2Proof.Machine

namespace Sys2Proof.Machine

-- One theorem after another, as in the tests: a thread each for this many proofs would pass the memory limit.
set_option Elab.async false

variable {s t u : State} {k : Sta}

/-! ### Fields of a frame, and their values (R175, R190) -/

/-- The two bytes of a field put together again. -/
theorem bytes2_join (x : Half) : (x.extractLsb' 8 8 ++ x.extractLsb' 0 8 : Half) = x := by
  refine BitVec.eq_of_getLsbD_eq fun i hi => ?_
  rw [BitVec.getLsbD_append, BitVec.getLsbD_extractLsb', BitVec.getLsbD_extractLsb']
  by_cases h : i < 8
  · simp [h]
  · simp [h, show i - 8 < 8 by omega, show 8 + (i - 8) = i by omega]

theorem bytes4_join (x : Word) :
    ((x.extractLsb' 24 8 ++ x.extractLsb' 16 8 : Half) ++ (x.extractLsb' 8 8 ++ x.extractLsb' 0 8 : Half) : Word) = x := by
  refine BitVec.eq_of_getLsbD_eq fun i hi => ?_
  simp only [BitVec.getLsbD_append, BitVec.getLsbD_extractLsb']
  by_cases h : i < 16
  · by_cases h' : i < 8
    · simp [h, h']
    · simp [h, h', show i - 8 < 8 by omega, show 8 + (i - 8) = i by omega]
  · by_cases h' : i - 16 < 8
    · simp [h, h', show 16 + (i - 16) = i by omega]
    · simp [h, h', show i - 16 - 8 < 8 by omega, show 24 + (i - 16 - 8) = i by omega]

theorem byteAt_append_right {l m : List Byte} {i : Nat} (n : Nat) (h : i = l.length + n) : byteAt (l ++ m) i = byteAt m n := by
  unfold byteAt
  rw [List.getD_eq_getElem?_getD, List.getD_eq_getElem?_getD, List.getElem?_append_right (by omega), h, Nat.add_sub_cancel_left]

/-- The field a frame's bytes end in. -/
theorem halfAt_append_bytes2 (l : List Byte) (x : Half) : halfAt (l ++ bytes2 x) l.length = x := by
  unfold halfAt
  rw [byteAt_append_right 0 (Nat.add_zero _).symm, byteAt_append_right 1 rfl]
  exact bytes2_join x

theorem wordAt_append_bytes4 (l m : List Byte) (x : Word) : wordAt (l ++ (bytes4 x ++ m)) l.length = x := by
  unfold wordAt halfAt
  rw [byteAt_append_right 0 (Nat.add_zero _).symm, byteAt_append_right 1 rfl, byteAt_append_right 2 rfl,
    byteAt_append_right 3 (Nat.add_assoc _ 2 1)]
  exact bytes4_join x

theorem bytes2_length (x : Half) : (bytes2 x).length = 2 := rfl

theorem bytes4_length (x : Word) : (bytes4 x).length = 4 := rfl

/-! ### A frame byte by byte (R173) -/

/-- The rest of a frame that is being collected. -/
theorem runAll_collecting (hr : s.pins.resetAsserted = false) {len : Half} {l taken : List Byte} (hne : l ≠ [])
    (hlen : taken.length + l.length = len.toNat + 2) :
    runAll (l.map (fun b => .crxByte b false)) (setAssembler (.collecting len taken) s) =
      .next (frameCheck len (taken ++ l) (setAssembler .hunting s)) := by
  induction l generalizing taken with
  | nil => exact absurd rfl hne
  | cons b l ih =>
    have hbyte : exec (.crxByte b false) (setAssembler (.collecting len taken) s) =
        .next (collectByte len taken b (setAssembler (.collecting len taken) s)) := exec_crxByte (by exact hr) b false
    have hcount : (taken ++ [b]).length = taken.length + 1 := by simp
    rw [List.map_cons, runAll, hbyte]
    simp only
    unfold collectByte
    simp only [hcount]
    rw [List.length_cons] at hlen
    cases l with
    | nil =>
      rw [if_neg (by simp at hlen; omega)]
      rfl
    | cons c l =>
      rw [if_pos (by simp at hlen; omega)]
      refine (ih (taken := taken ++ [b]) (by simp) (by rw [hcount]; omega)).trans ?_
      rw [List.append_assoc]
      rfl

theorem setAssembler_hunting (ha : s.line.asm = .hunting) : setAssembler .hunting s = s := by
  cases s
  rename_i line _ _ _
  cases line
  simp_all [setAssembler]

/-- A frame's bytes, from the sync byte on, bring it to its check. -/
theorem runAll_frame (hr : s.pins.resetAsserted = false) (ha : s.line.asm = .hunting) {len : Half} {l : List Byte}
    (hlo : 2 ≤ len.toNat) (hhi : len.toNat ≤ 402) (hl : l.length = len.toNat + 2) :
    runAll ((0xA5 :: bytes2 len ++ l).map (fun b => .crxByte b false)) s = .next (frameCheck len l s) := by
  have hfirst : exec (.crxByte 0xA5 false) s = .next (setAssembler (.length none) s) := by
    rw [exec_crxByte hr]
    unfold receiveByte
    rw [ha]
    rfl
  have hhigh (b : Byte) : exec (.crxByte b false) (setAssembler (.length none) s) = .next (setAssembler (.length (some b)) s) :=
    exec_crxByte (by exact hr) b false
  have hlow (h b : Byte) : exec (.crxByte b false) (setAssembler (.length (some h)) s) = .next (setAssembler (afterLength (h ++ b)) s) :=
    exec_crxByte (by exact hr) b false
  have hafter : afterLength len = .collecting len [] := if_pos ⟨hlo, hhi⟩
  simp only [bytes2, List.cons_append, List.nil_append, List.map_cons, runAll, hfirst, hhigh, hlow, bytes2_join, hafter]
  rw [runAll_collecting hr (by rintro rfl; simp at hl) (by simpa using hl), List.nil_append, setAssembler_hunting ha]

/-- The check of a whole frame (R174). -/
theorem frameCheck_whole (kind tag : Byte) (body : List Byte) (crc : Half) (hb : body.length ≤ 400) (s : State) :
    frameCheck (BitVec.ofNat 16 (body.length + 2)) (kind :: tag :: body ++ bytes2 crc) s =
      if crc ≠ crc16 (coveredBytes kind tag body) then s else whenRoom (dispatchFrame kind tag body) s := by
  have hn : (BitVec.ofNat 16 (body.length + 2)).toNat = body.length + 2 := by
    rw [BitVec.toNat_ofNat]
    exact Nat.mod_eq_of_lt (by omega)
  have htake : (kind :: tag :: body ++ bytes2 crc).take (body.length + 2) = kind :: tag :: body :=
    List.take_left' (by simp)
  have hhalf : halfAt (kind :: tag :: body ++ bytes2 crc) (body.length + 2) = crc := halfAt_append_bytes2 (kind :: tag :: body) crc
  unfold frameCheck
  simp only [hn, htake, hhalf]
  have hcovered : bytes2 (BitVec.ofNat 16 (body.length + 2)) ++ kind :: tag :: body = coveredBytes kind tag body := by
    simp [coveredBytes, nat2]
  rw [hcovered]
  simp only [ne_comm (a := crc)]
  rfl

/-- Settles O24. -/
theorem framesAreJudgedAtTheirEnd : Obligations.FramesAreJudgedAtTheirEnd := by
  intro kind tag body crc s hb hr ha
  have hbytes : 0xA5 :: coveredBytes kind tag body ++ bytes2 crc =
      0xA5 :: bytes2 (BitVec.ofNat 16 (body.length + 2)) ++ (kind :: tag :: body ++ bytes2 crc) := by
    simp [coveredBytes, nat2]
  have hn : (BitVec.ofNat 16 (body.length + 2)).toNat = body.length + 2 := by
    rw [BitVec.toNat_ofNat]
    exact Nat.mod_eq_of_lt (by omega)
  rw [hbytes, runAll_frame hr ha (by omega) (by omega) (by simp [hn, bytes2_length]), frameCheck_whole kind tag body crc hb]
  refine congrArg Host.Outcome.next ?_
  by_cases hcrc : crc = crc16 (coveredBytes kind tag body)
  swap
  · rw [if_pos hcrc, if_pos (.inl hcrc)]
  by_cases hq : 7 ≤ s.line.queue.length
  · rw [if_neg (not_not.mpr hcrc), whenRoom_of_full (.inr hq), if_pos (.inr hq)]
  · rw [if_neg (not_not.mpr hcrc), if_neg (by simp [hcrc, hq]), whenRoom, if_neg (by simp [hr]),
      if_neg (show ¬ Config.requestRoom ≤ _ from hq)]
    rfl

/-! ### A request and its body (R175, R193) -/

theorem length_flatMap_bytes4 (l : List Word) : (l.flatMap bytes4).length = 4 * l.length := by
  induction l with
  | nil => rfl
  | cons x l ih => rw [List.flatMap_cons, List.length_append, ih, bytes4_length, List.length_cons]; omega

/-- The words of a body, read one after another. -/
theorem wordAt_flatMap (pre : List Byte) (l : List Word) {i : Nat} (hi : i < l.length) :
    wordAt (pre ++ l.flatMap bytes4) (pre.length + 4 * i) = l[i] := by
  induction l generalizing pre i with
  | nil => simp at hi
  | cons x l ih =>
    cases i with
    | zero =>
      rw [List.flatMap_cons]
      exact wordAt_append_bytes4 pre _ x
    | succ i =>
      rw [List.flatMap_cons, ← List.append_assoc]
      have := ih (pre ++ bytes4 x) (i := i) (by simpa using hi)
      rw [List.length_append, bytes4_length] at this
      rw [show pre.length + 4 * (i + 1) = pre.length + 4 + 4 * i by omega, this]
      rfl

theorem requestBody_length {r : Request} (h : r.wellFormed = true) : bodyLength (requestKind r) = some (requestBody r).length := by
  cases r with
  | groupSet m vs =>
    have hvs : vs.length = 26 := by simpa [Request.wellFormed] using h
    show some 108 = some (bytes4 m ++ vs.flatMap bytes4).length
    rw [List.length_append, length_flatMap_bytes4, hvs, bytes4_length]
  | _ => rfl

/-- A request's bytes carry it. -/
theorem requestOf_requestBody {r : Request} (h : r.wellFormed = true) : requestOf (requestKind r) (requestBody r) = r := by
  cases r with
  | groupSet m vs =>
    have hvs : vs.length = 26 := by simpa [Request.wellFormed] using h
    have hm : wordAt (bytes4 m ++ vs.flatMap bytes4) 0 = m := wordAt_append_bytes4 [] _ m
    have hv : (List.range 26).map (fun i => wordAt (bytes4 m ++ vs.flatMap bytes4) (4 + 4 * i)) = vs := by
      refine List.ext_getElem (by simp [hvs]) fun i h1 h2 => ?_
      rw [List.getElem_map, List.getElem_range]
      exact wordAt_flatMap (bytes4 m) vs h2
    show Request.groupSet _ _ = _
    rw [show requestBody (.groupSet m vs) = bytes4 m ++ vs.flatMap bytes4 from rfl, hm, hv]
  | carBadForm n f =>
    have hf : f ≠ 0 ∧ f ≠ 1 := by simpa [Request.wellFormed] using h
    show (if f = 0 then _ else if f = 1 then _ else _) = _
    rw [if_neg hf.1, if_neg hf.2]
    rfl
  | stationSet i m v =>
    change Request.stationSet i (halfAt (requestBody (.stationSet i m v)) 1) (settingsAt (requestBody (.stationSet i m v))) = _
    simp only [requestBody, settingsAt, halfAt, wordAt, byteAt, bytes2, bytes4, List.cons_append, List.nil_append, List.getD_cons_zero,
      List.getD_cons_succ, bytes2_join, bytes4_join]
  | carSet n c =>
    change Request.carSet n (carAt (requestBody (.carSet n c))) = _
    simp only [requestBody, carAt, halfAt, byteAt, bytes2, List.cons_append, List.nil_append, List.getD_cons_zero, List.getD_cons_succ,
      bytes2_join]
  | planWrite n g =>
    change Request.planWrite n (segmentAt (requestBody (.planWrite n g))) = _
    simp only [requestBody, segmentAt, halfAt, wordAt, byteAt, bytes2, bytes4, List.cons_append, List.nil_append, List.getD_cons_zero,
      List.getD_cons_succ, bytes2_join, bytes4_join]
  | eventMask m => exact congrArg Request.eventMask (bytes2_join m)
  | stream p => exact congrArg Request.stream (bytes2_join p)
  | jog i d => exact congrArg (Request.jog i) (bytes4_join d)
  | trim i d => exact congrArg (Request.trim i) (bytes4_join d)
  | setOffset i o => exact congrArg (Request.setOffset i) (bytes4_join o)
  | _ => rfl

/-- The request of a row that the line can carry has a body of R175's length. -/
theorem wellFormed_of_requestRow {i : Instr} {tag : Byte} {r : Request} (h : requestRow i = some (tag, r)) (hw : i.wellFormed = true) :
    r.wellFormed = true := by
  have command (c : GroupCommand) (p : CommandPhase) (h : arrivalOf c p = some (tag, r)) : r.wellFormed = true := by
    cases p with
    | arrival tag => cases h; rfl
    | execution => cases h
  cases i with
  | groupSet tag m vs => cases h; exact hw
  | setupDone p | resetup p | engage p | run p | continueRun p | stop p | resume p | land p | ackFaults p | clearLockout p =>
    exact command _ p h
  | _ => cases h <;> rfl

theorem requestBody_le {r : Request} (h : r.wellFormed = true) : (requestBody r).length ≤ 400 := by
  cases r with
  | groupSet m vs =>
    have hvs : vs.length = 26 := by simpa [Request.wellFormed] using h
    show (bytes4 m ++ vs.flatMap bytes4).length ≤ 400
    rw [List.length_append, length_flatMap_bytes4, hvs, bytes4_length]
    omega
  | _ => simp [requestBody, bytes2_length, bytes4_length]

/-- Settles O25: the row is its request taken, and the frame's bytes bring that request to its dispatch (O24). -/
theorem requestRowIsItsFrame : Obligations.RequestRowIsItsFrame := by
  intro i tag r s hrow hwell hr ha
  have hw := wellFormed_of_requestRow hrow hwell
  rw [exec_row hrow]
  refine (framesAreJudgedAtTheirEnd (requestKind r) tag (requestBody r) _ s (requestBody_le hw) hr ha).trans (congrArg Host.Outcome.next ?_)
  by_cases hq : 7 ≤ s.line.queue.length
  · rw [if_pos (.inr hq), takeRequest_of_full (.inr hq)]
  · rw [if_neg (by simp [hq]), requestBody_length hw, requestOf_requestBody hw]
    exact if_neg (by simp)

end Sys2Proof.Machine

/-! PROOF. Station operations (O36 to O38), encoders and home switches (O19). -/

namespace Sys2Proof.Machine

-- One theorem after another, as in the tests: a thread each for this many proofs would pass the memory limit.
set_option Elab.async false

variable {s t u : State} {k : Sta}

/-! ### One station updated -/

theorem updJack_updJack (s : State) (k : Sta) (f g : Jack → Jack) : (s.updJack k f).updJack k g = s.updJack k (fun j => g (f j)) := by
  refine State.ext_jack (fun i => ?_) rfl rfl rfl rfl rfl rfl rfl rfl
  rw [updJack_jack, updJack_jack, updJack_jack]
  split_ifs <;> rfl

/-- An update of a station is decided by what it makes of that station's values. -/
theorem updJack_congr {f g : Jack → Jack} (h : f (s.jack k) = g (s.jack k)) : s.updJack k f = s.updJack k g := by
  refine State.ext_jack (fun i => ?_) rfl rfl rfl rfl rfl rfl rfl rfl
  rw [updJack_jack, updJack_jack]
  split_ifs with e
  · rw [e, h]
  · rfl

/-! ### The checks of R5 -/

theorem operationGroup_iff {op : Operation} {g : GroupState} :
    operationGroup op g = true ↔ g ∈ if op = .trim then [GroupState.stopped] else [.setup, .prepared] := by
  cases op <;> simp [operationGroup]

/-- A station that an operation takes: at rest, or FAULTED with TRAVEL_LIMIT and without a move. -/
theorem operationState_iff {op : Operation} {r : StationRec} : operationState op r = true ↔
    r.state = (if op = .trim then .engaged else .idle) ∨
      (op ≠ .home ∧ r.state = .faulted ∧ r.faultKind = some .travelLimit ∧ r.move = none ∧
        r.prior = some (if op = .trim then .engaged else .idle)) := by
  cases op <;> simp [operationState, recoverable] <;> tauto

section
variable {op : Operation} {d : Int}

theorem operationFailure_unassigned (h : (s.jack k).record.state = .unassigned) : operationFailure op k d s = some .unassigned :=
  if_pos (Jack.assigned_eq_false.mpr h)

theorem operationFailure_group (h : (s.jack k).record.state ≠ .unassigned) (hg : operationGroup op s.group.state = false) :
    operationFailure op k d s = some .wrongState := by
  unfold operationFailure
  rw [if_neg (mt Jack.assigned_eq_false.mp h), if_pos hg]

theorem operationFailure_state (h : (s.jack k).record.state ≠ .unassigned) (hg : operationGroup op s.group.state = true)
    (hs : operationState op (s.jack k).record = false) : operationFailure op k d s = some .wrongState := by
  unfold operationFailure
  rw [if_neg (mt Jack.assigned_eq_false.mp h), if_neg (by simp [hg]), if_pos hs]

theorem assigned_of_operationState (hs : operationState op (s.jack k).record = true) : (s.jack k).record.state ≠ .unassigned := by
  rw [operationState_iff] at hs
  rcases hs with hs | ⟨-, hs, -⟩
  · rw [hs]
    split_ifs <;> simp
  · simp [hs]

theorem operationFailure_taken (hg : operationGroup op s.group.state = true) (hs : operationState op (s.jack k).record = true) :
    operationFailure op k d s = if withinMagnitude 100000 d = false then some .badValue
      else if s.group.permit = false then some .permitLow else none := by
  unfold operationFailure
  rw [if_neg (mt Jack.assigned_eq_false.mp (assigned_of_operationState hs)), if_neg (by simp [hg]), if_neg (by simp [hs])]

/-- A row that asks for an operation is refused in the order of the checks. -/
theorem operation_refusals {row : Instr} {tag kind i : Byte} {serve : State → Answer} {work : Sta → Answer}
    (hrow : exec row s = .next (takeKind kind tag serve s)) (h : Ready s)
    (hserve : serve s = withStation i s (fun k => match operationFailure op k d s with
      | some o => Answer.refused o s
      | none => work k)) :
    let refused (o : ReplyOutcome) : Prop := exec row s = .next (answered (replyKind kind) tag o [] s)
    (32 ≤ i.toNat → refused .badValue) ∧
      ∀ k : Sta, i = byteOf k.val → ∀ o, operationFailure op k d s = some o → refused o := by
  refine ⟨fun hi => exec_refuses hrow h (hserve.trans (withStation_of_le hi s _)), fun k hk o ho => ?_⟩
  refine exec_refuses hrow h (hserve.trans ?_)
  rw [hk, withStation_byteOf, ho]
end

/-- Settles O38. -/
theorem stationOperationsAreRefusedInOrder : Obligations.StationOperationsAreRefusedInOrder := by
  intro tag i d s h
  refine ⟨fun row code op hrow => ?operation, fun hi => ?index, fun k hk => ?offset⟩
  case operation =>
    intro refused
    obtain ⟨d', hd, hd', hindex, hk⟩ : ∃ d' : Int, (op = .home → d' = 0) ∧ (op ≠ .home → d' = d.toInt) ∧
        (32 ≤ i.toNat → refused .badValue) ∧ ∀ k : Sta, i = byteOf k.val → ∀ o, operationFailure op k d' s = some o → refused o := by
      simp only [List.mem_cons, List.not_mem_nil, or_false, Prod.mk.injEq] at hrow
      obtain ⟨rfl, rfl, rfl⟩ | ⟨rfl, rfl, rfl⟩ | ⟨rfl, rfl, rfl⟩ := hrow
      · exact ⟨0, fun _ => rfl, fun h => absurd rfl h, operation_refusals (exec_home tag i s) h rfl⟩
      · exact ⟨_, nofun, fun _ => rfl, operation_refusals (exec_jog tag i d s) h rfl⟩
      · exact ⟨_, nofun, fun _ => rfl, operation_refusals (exec_trim tag i d s) h rfl⟩
    refine ⟨hindex, fun k hi => ?_⟩
    have hrange : withinMagnitude 100000 d' = true ↔ op = .home ∨ (-100000 ≤ d.toInt ∧ d.toInt ≤ 100000) := by
      rw [withinMagnitude_eq_true]
      by_cases ho : op = .home
      · simp [ho, hd ho]
      · simp [ho, hd' ho]
    simp only [← operationGroup_iff, ← operationState_iff, ← hrange, Bool.not_eq_true]
    refine ⟨fun hu => hk k hi _ (operationFailure_unassigned hu), fun hu hg => hk k hi _ (operationFailure_group hu hg),
      fun hu hg hs => hk k hi _ (operationFailure_state hu hg hs), fun hg hs hr => ?_, fun hg hs hr hp => ?_⟩
    · exact hk k hi _ ((operationFailure_taken hg hs).trans (if_pos hr))
    · exact hk k hi _ ((operationFailure_taken hg hs).trans ((if_neg (by simp [hr])).trans (if_pos hp)))
  case index => exact exec_refuses (exec_setOffset tag i d s) h (withStation_of_le hi s _)
  case offset =>
    intro groupState range
    have hserve := serveSetOffset_of_station k d s
    rw [← hk] at hserve
    have hgroup : offsetGroup s.group.state = false ↔ ¬ groupState := by rw [← Bool.not_eq_true, offsetGroup_iff]
    have hrange : withinMagnitude 50000 d.toInt = false ↔ ¬ range := by
      rw [← Bool.not_eq_true, withinMagnitude_eq_true]
      rfl
    simp only [hgroup, hrange] at hserve
    have hi := exec_setOffset tag i d s
    refine ⟨fun hu => exec_refuses hi h (hserve.trans (if_pos (Jack.assigned_eq_false.mpr hu))), fun hu hg => ?_, fun hu hg hr => ?_,
      fun hu hg hr hf => ?_⟩ <;> rw [if_neg (mt Jack.assigned_eq_false.mp hu)] at hserve
    · exact exec_refuses hi h (hserve.trans (if_pos hg))
    · exact exec_refuses hi h (hserve.trans ((if_neg (not_not.mpr hg)).trans (if_pos hr)))
    · refine exec_refuses hi h (hserve.trans ((if_neg (not_not.mpr hg)).trans ((if_neg (not_not.mpr hr)).trans (if_pos ?_))))
      exact Option.isSome_iff_ne_none.mpr hf

/-! ### Counted moves started (R6, R7, R45, R50) -/

theorem BrakesSafe.all (hs : BrakesSafe s) (h : Ready s) (k : Sta) : BrakeSafe s (s.jack k) := hs h.1 k

/-- A counted move started from IDLE. -/
theorem Generator.hand_move_of_idle {g : Generator} (h : g.run = .idle) (d : Divisor) (dir : Dir) (n : Nat) : g.hand (.move d dir n) =
    { g with run := .counted, divisor := some d, dir := dir, dirHigh := if g.stepHigh then g.dirHigh else dir == .up
             pending := none, remaining := n } := by
  obtain ⟨run, divisor, dir', pending, remaining, ceiling, brake, stepHigh, dirHigh⟩ := g
  obtain rfl : run = .idle := h
  cases stepHigh <;> rfl

/-- The station of an operation, with its generator in the move and its brake RELEASED. -/
theorem settled_startOperation {op : Operation} {rate n : Nat} {dir : Dir} (hb : ∀ k, BrakeSafe s (s.jack k))
    (hheld : generatorsHeld s = false) (hidle : (s.jack k).gen.run = .idle) :
    settleBrakes (startOperation op k rate dir n s) = s.updJack k (fun j =>
      { j with
        record := j.record.startMove op
        gen := { j.gen with
          run := .counted, divisor := some (divisorOf rate j.record.settings.kStep), dir := dir
          dirHigh := if j.gen.stepHigh then j.gen.dirHigh else dir == .up
          pending := none, remaining := n, ceiling := heldAtCeiling rate j.record.settings.kStep, brake := .released } }) := by
  have hpermit : s.group.permit = true := by
    simp only [generatorsHeld, Bool.or_eq_false_iff, Bool.not_eq_false'] at hheld
    exact hheld.1
  unfold startOperation orderMove State.updRec
  have hheld' : ∀ f : Jack → Jack, generatorsHeld (s.updJack k f) = false := fun _ => hheld
  simp only [hheld']
  rw [updJack_updJack, settleBrakes_updJack hb]
  refine updJack_congr ?_
  simp only [Bool.false_eq_true, if_false]
  rw [Generator.hand_move_of_idle (by exact hidle)]
  unfold settledBrake
  have hcalled (j : Jack) (hs : j.record.state = .faulted ∨ ∃ op, j.record.state = operatingState op) (hm : j.movesWhileFaulted = true ∨ j.record.state ≠ .faulted) :
      brakeCalled s.group.state j = .released := by
    unfold brakeCalled
    rcases hs with hs | ⟨op, hs⟩
    · rw [hs]
      simp [hm.resolve_right (by simp [hs])]
    · cases op <;> simp [hs, operatingState]
  rw [hcalled]
  · simp [hpermit]
    exact ⟨rfl, rfl⟩
  · simp only [StationRec.startMove]
    split_ifs with hf
    · exact .inl rfl
    · exact .inr ⟨op, rfl⟩
  · simp only [Jack.movesWhileFaulted, Jack.isIn, StationRec.startMove, Generator.running]
    by_cases hf : (s.jack k).record.state = .faulted
    · simp [hf]
    · right
      rw [if_neg hf]
      cases op <;> simp [operatingState]

/-- The distance of a JOG or TRIM cut at the ends of the travel. -/
theorem clampedDistance_eq (j : Jack) (d : Int) : clampedDistance j d =
    if j.record.datumKnown = true then
      (if 0 < d then min d (max 0 ((j.record.settings.hMax : Int) - j.liveHeight)) else max d (min 0 (-j.liveHeight))) else d := by
  unfold clampedDistance
  cases j.record.datumKnown with
  | false => rfl
  | true =>
    simp only [Bool.true_eq_false, if_false, if_true]
    split_ifs <;> omega

/-- Settles O36. -/
theorem jogAndTrimStartCountedMoves : Obligations.JogAndTrimStartCountedMoves := by
  intro tag k d s h hb hp hlo hhi hidle row op code hrow recovering htaken j height top moved steps rate outcome dir
  have hmoved : clampedDistance (s.jack k) d.toInt = moved := clampedDistance_eq _ _
  have hgs : operationGroup op s.group.state = true ∧ operationState op (s.jack k).record = true ∧ generatorsHeld s = false := by
    rw [operationGroup_iff, operationState_iff]
    obtain ⟨rfl, hst, hg⟩ | ⟨rfl, hst, hg⟩ := htaken
    · refine ⟨by simpa using hg, hst.imp id fun ⟨h1, h2, h3, h4⟩ => ⟨by simp, h1, h2, h4, h3⟩, ?_⟩
      rcases hg with hg | hg <;> simp [generatorsHeld, hp, hg]
    · refine ⟨by simpa using hg, hst.imp id fun ⟨h1, h2, h3, h4⟩ => ⟨by simp, h1, h2, h4, h3⟩, ?_⟩
      simp [generatorsHeld, hp, hg]
  obtain ⟨hgroup, hstate, hheld⟩ := hgs
  have hnone : operationFailure op k d.toInt s = none := by
    rw [operationFailure_taken hgroup hstate, if_neg (by rw [Bool.not_eq_false, withinMagnitude_eq_true]; exact ⟨hlo, hhi⟩),
      if_neg (by simp [hp])]
  obtain ⟨kind, serve, hexec, hserve, hcode⟩ : ∃ kind serve, exec row s = .next (takeKind kind tag serve s) ∧
      serve s = moveStation op k d.toInt s ∧ replyKind kind = code := by
    simp only [List.mem_cons, List.not_mem_nil, or_false, Prod.mk.injEq] at hrow
    obtain ⟨rfl, rfl, rfl⟩ | ⟨rfl, rfl, rfl⟩ := hrow
    · refine ⟨0x30, serveJog (byteOf k.val) d, rfl, ?_, rfl⟩
      rw [serveJog, withStation_byteOf, hnone]
    · refine ⟨0x32, serveTrim (byteOf k.val) d, rfl, ?_, rfl⟩
      rw [serveTrim, withStation_byteOf, hnone]
  have hanswer : serve s = Answer.clamped (moved != d.toInt) (if steps = 0 then raise (.stationDone k op .ok) s
      else settleBrakes (startOperation op k rate dir steps s)) := by
    rw [hserve, moveStation, hmoved]
    rfl
  have houtcome : (if (moved != d.toInt) = true then ReplyOutcome.clamped else .done) = outcome := by
    by_cases e : moved = d.toInt <;> simp [outcome, e]
  refine ⟨fun hn => ?start, fun hn hroom => ?nothing⟩
  case start =>
    rw [if_neg (by omega), settled_startOperation (hb.all h) hheld hidle] at hanswer
    rw [← houtcome, ← hcode]
    refine (exec_clamped hexec h hanswer).trans ?_
    have hop : operatingState op = if op = .jog then .jogging else .trimming := by
      obtain ⟨rfl, -⟩ | ⟨rfl, -⟩ := htaken <;> rfl
    unfold StationRec.startMove
    rw [hop]
  case nothing =>
    rw [if_pos hn] at hanswer
    rw [hexec, ← hcode, ← houtcome]
    exact congrArg Host.Outcome.next (takeKind_answers_raise h hroom hanswer)

/-- Settles O37. -/
theorem homeSeeksTheSwitch : Obligations.HomeSeeksTheSwitch := by
  intro tag k s h hb hp hg hk hidle j steps rate
  have hheld : generatorsHeld (loseDatum k s) = false := by
    rcases hg with hg | hg <;> simp [generatorsHeld, loseDatum, State.updRec, hp, hg]
  have hnone : operationFailure .home k 0 s = none := by
    rw [operationFailure_taken (operationGroup_iff.mpr (by simpa using hg)) (operationState_iff.mpr (.inl hk)), if_neg (by decide),
      if_neg (by simp [hp])]
  have hserve : serveHome (byteOf k.val) s = Answer.done (homeStation k s) [] := by
    rw [serveHome, withStation_byteOf, hnone]
  have hlose : (loseDatum k s).jack k = { j with record := { j.record with datumKnown := false } } := updJack_jack_self _ _ _
  have hbrakes : ∀ i, BrakeSafe (loseDatum k s) ((loseDatum k s).jack i) :=
    (Braked.updJack ⟨fun _ => rfl, rfl, rfl⟩ : Braked s (loseDatum k s)) (hb.all h)
  refine ⟨fun hlow hn => ?descends, fun hlow hroom => ?atOnce⟩
  case descends =>
    have hhome : homeStation k s = settleBrakes (startOperation .home k rate .down steps (loseDatum k s)) := by
      unfold homeStation
      simp only [hlose]
      rw [if_neg (by simpa using hlow), if_neg]
      · rfl
      · exact Nat.ne_of_gt hn
    refine exec_done (exec_home tag _ s) h (hserve.trans (congrArg (Answer.done · []) (hhome.trans ?_)))
    rw [settled_startOperation hbrakes hheld (by rw [hlose]; exact hidle)]
    unfold loseDatum State.updRec
    rw [updJack_updJack]
    refine updJack_congr ?_
    simp only [StationRec.startMove, hk]
    rfl
  case atOnce =>
    have hhome : homeStation k s = raise (.stationDone k .home .ok) (s.updJack k (fun j =>
        { j with
          pos := { j.pos with count := j.record.settings.homeCount }
          record := { j.record with datumKnown := true }
          mon := { j.mon with rest := j.record.settings.homeCount } })) := by
      unfold homeStation
      simp only [hlose]
      rw [if_pos hlow]
      refine congrArg (raise _) ?_
      unfold loseDatum State.updRec
      rw [updJack_updJack]
      refine updJack_congr ?_
      simp [Jack.preset, Generator.running, hidle, Jack.latchRest]
    rw [exec_home]
    exact congrArg Host.Outcome.next (takeKind_answers_raise h (by exact hroom) (hserve.trans (congrArg (Answer.done · []) hhome)))

/-! ### Encoders and home switches (R8, R56) -/

theorem edgeDir_eq (a b : Bool) (line : EncLine) : edgeDir a b line = if ((line == .a) == (a == b)) = true then .up else .down := by
  cases a <;> cases b <;> cases line <;> rfl

theorem Jack.edge_eq (j : Jack) (line : EncLine) : j.edge line =
    let up : Bool := (line == .a) == (j.pos.encA == j.pos.encB)
    { j with
      pos := { j.pos with
        encA := if line = .a then !j.pos.encA else j.pos.encA
        encB := if line = .b then !j.pos.encB else j.pos.encB
        count := if up then j.pos.count + 1 else j.pos.count - 1 }
      mon := { j.mon with
        gate := j.mon.gate.map (fun g => { g with edges := max (-8388608) (min 8388607 (g.edges + (if up then 1 else -1))) })
        edgeTally := if j.mon.gateOpen then j.mon.edgeTally + 1 else j.mon.edgeTally } } := by
  unfold Jack.edge Counter.edge Monitor.edge
  simp only [edgeDir_eq, tally, clampInt]
  cases hup : ((line == .a) == (j.pos.encA == j.pos.encB)) <;> cases line <;> rfl

/-- Settles O19. -/
theorem encoderAndHomeInputsMoveTheCount : Obligations.EncoderAndHomeInputsMoveTheCount := by
  intro k s
  refine ⟨fun line => ?edge, rfl, rfl, fun h hlow => ⟨fun hk => ?alone, fun hk hrun hroom hmove => ?homing⟩⟩
  case edge => exact congrArg (fun f => Host.Outcome.next (s.updJack k f)) (funext fun j => j.edge_eq line)
  case alone =>
    have hset : (setHome k true s).jack k = { s.jack k with homeLow := true } := updJack_jack_self _ _ _
    have hact : takeActivation k (setHome k true s) = setHome k true s := by
      unfold takeActivation Jack.awaitsSwitch Jack.isIn
      rw [hset, if_neg (by simp [hk])]
    refine congrArg Host.Outcome.next ((if_neg (by simp [hlow])).trans ((unlessReset_of_running (s := setHome k true s) h.1 _).trans ?_))
    rw [hact]
    exact handOver_of_none h.2
  case homing =>
    have hset : (setHome k true s).jack k = { s.jack k with homeLow := true } := updJack_jack_self _ _ _
    have hact : takeActivation k (setHome k true s) = raise (.stationDone k .home .ok) (s.updJack k (fun j =>
        { j with
          homeLow := true
          pos := { j.pos with count := j.record.settings.homeCount }
          record := { j.record with
            datumKnown := true, move := some { op := .home, underFault := false, done := true } }
          gen := { j.gen with remaining := 0, pending := none } })) := by
      have hpreset : ((setHome k true s).updJack k Jack.preset).jack k = { s.jack k with
          homeLow := true
          pos := { (s.jack k).pos with count := (s.jack k).record.settings.homeCount }
          record := { (s.jack k).record with datumKnown := true } } := by
        rw [updJack_jack_self, hset]
        simp [Jack.preset, Generator.running, hrun]
      unfold takeActivation Jack.awaitsSwitch Jack.isIn
      rw [hset, if_pos (by simp [hk, hmove]), stopMove, hpreset]
      simp only [hmove]
      refine congrArg (raise _) ?_
      unfold State.updRec State.updGen setHome
      rw [updJack_updJack, updJack_updJack, updJack_updJack]
      refine updJack_congr ?_
      simp [Jack.preset, Generator.running, hrun, Generator.stopForm]
    refine congrArg Host.Outcome.next ((if_neg (by simp [hlow])).trans ((unlessReset_of_running (s := setHome k true s) h.1 _).trans ?_))
    rw [hact]
    exact handOver_raise _ (by exact hroom)

end Sys2Proof.Machine

/-! PROOF. The permit line and the end of a warm reset (O7, O21, O22). -/

namespace Sys2Proof.Machine

-- One theorem after another, as in the tests: a thread each for this many proofs would pass the memory limit.
set_option Elab.async false

variable {s t : State} {k i : Sta}

/-! ### The re-based reference (R113) -/

theorem rebasedReference_congr {b : Bool} (hj : ∀ k, (t.jack k).rebaseValue b = (s.jack k).rebaseValue b)
    (hp : t.group.params.lMax = s.group.params.lMax) : rebasedReference b t = rebasedReference b s := by
  unfold rebasedReference
  simp only [hj, hp]

theorem anyContact_congr (h : ∀ k, (t.jack k).record.contact.isSome = (s.jack k).record.contact.isSome) :
    anyContact t = anyContact s := by
  unfold anyContact anyJack
  simp only [h]

/-- A quotient rounded to nearest lies within half a unit of the quotient. -/
theorem natAbs_mul_roundNearest (num : Int) {den : Nat} (hd : 0 < den) :
    2 * (den * roundNearest num den - num).natAbs ≤ den := by
  unfold roundNearest
  have hq := Nat.div_add_mod (2 * num.natAbs + den) (2 * den)
  have hr := Nat.mod_lt (2 * num.natAbs + den) (by omega : 0 < 2 * den)
  generalize (2 * num.natAbs + den) / (2 * den) = q at hq ⊢
  generalize (2 * num.natAbs + den) % (2 * den) = r at hq hr
  have hmul : 2 * den * q = 2 * (den * q) := by ring
  rw [hmul] at hq
  have hneg : (den : Int) * -(q : Int) = -((den * q : Nat) : Int) := by push_cast; ring
  have hpos : (den : Int) * (q : Int) = ((den * q : Nat) : Int) := by push_cast; ring
  simp only
  split
  · rw [hneg]
    omega
  · rw [hpos]
    omega

/-- The errors of a list of values against a reference sum to what the values leave of as many references. -/
theorem sum_errors (ref : Int) (value : Sta → Option Int) (l : List Sta) :
    (l.map (fun k => match value k with
      | some v => ref - 100 * v
      | none => 0)).sum =
      (l.filterMap value).length * ref - 100 * (l.filterMap value).sum := by
  induction l with
  | nil => simp
  | cons k l ih =>
    rw [List.map_cons, List.sum_cons, ih, List.filterMap_cons]
    cases value k with
    | none => simp
    | some v =>
      simp only [List.length_cons, List.sum_cons]
      push_cast
      ring

theorem rebasedReference_errors (b : Bool) (h : 0 < rebasedReference b s)
    (h' : rebasedReference b s < 100 * (s.group.params.lMax : Int)) :
    ((Sta.all.map (fun k => match (s.jack k).rebaseValue b with
        | some v => rebasedReference b s - 100 * v
        | none => 0)).sum).natAbs ≤ 50 * (Sta.all.filterMap (fun k => (s.jack k).rebaseValue b)).length := by
  rw [sum_errors]
  unfold rebasedReference at h h' ⊢
  simp only at h h' ⊢
  generalize Sta.all.filterMap (fun k => (s.jack k).rebaseValue b) = l at h h' ⊢
  by_cases hl : l.isEmpty = true
  · simp [hl] at h
  · rw [if_neg hl] at h h' ⊢
    have hpos : 0 < l.length := by
      cases l with
      | nil => simp at hl
      | cons => simp
    have hc : clampInt 0 s.group.params.lMax (roundNearest l.sum l.length) = roundNearest l.sum l.length := by
      unfold clampInt at h h' ⊢
      omega
    rw [hc]
    have hround := natAbs_mul_roundNearest l.sum hpos
    have hsum : (l.length : Int) * (100 * roundNearest l.sum l.length) - 100 * l.sum =
        100 * (l.length * roundNearest l.sum l.length - l.sum) := by ring
    rw [hsum]
    omega

/-! ### The end of a warm reset (R116) -/

theorem enterGroup_line (g : GroupState) (s : State) : (enterGroup g s).line = { s.line with
    raised := s.line.raised ++ [{ event := .state s.group.state g, cycle := s.group.cycle }] } := by
  unfold enterGroup
  simp only
  split_ifs <;> rfl

theorem setCause_group (c : StopCause) (s : State) : (setCause c s).group = { s.group with cause := c } := rfl

theorem motionReset_group (b : Bool) (s : State) : (motionReset b s).group = { s.group with waitCount := 0 } := rfl

theorem motionReset_sync (b : Bool) (s : State) :
    (motionReset b s).sync = { s.sync with ref := rebasedReference b s, speed := 0, dir := .none } := rfl

/-- One event raised is sent at once where the line holds nothing back. -/
theorem handOver_line_of_one {r : Raised} (h : s.line.raised = [r]) (ho : OpenFor 1 s) : (handOver s).line = { s.line with
    raised := [], queue := s.line.queue ++ [eventFrame r false (handOver s)] } := by
  have e : handOver s = { s with line := { s.line with raised := [], queue := s.line.queue ++ [eventFrame r false s] } } := by
    rw [handOver_of_open (by rw [h]; exact ho), h]
    rfl
  have hf : eventFrame r false (handOver s) = eventFrame r false s := by
    rw [e]
    rfl
  rw [hf, e]

/-- The end of a warm reset before its STATE event is handed over. -/
def warmEnded (a b : Bool) (s : State) : State :=
  let t := warmBlocks a b s
  setCause (if stateAfterWarm t = .stopped then .reset else .none) (motionReset false (enterGroup (stateAfterWarm t) t))

theorem warmEnd_eq (a b : Bool) (s : State) : warmEnd a b s = handOver (warmEnded a b s) := rfl

theorem anyContact_warmBlocks (a b : Bool) (s : State) : anyContact (warmBlocks a b s) = anyContact s :=
  anyContact_congr fun k => by rw [warmBlocks_jack]; rfl

theorem stateAfterWarm_warmBlocks (a b : Bool) (s : State) : stateAfterWarm (warmBlocks a b s) =
    if s.group.validated then (if anyContact s then .stopped else .prepared) else .setup := by
  unfold stateAfterWarm
  rw [anyContact_warmBlocks]
  rfl

theorem warmEnded_line (a b : Bool) (s : State) : (warmEnded a b s).line = { s.line with
    speed1 := a, speed0 := b
    raised := s.line.raised ++ [{ event := .state s.group.state (stateAfterWarm (warmBlocks a b s)), cycle := s.group.cycle }] } :=
  enterGroup_line _ _

theorem warmEnded_group (a b : Bool) (s : State) : (warmEnded a b s).group = { s.group with
    state := stateAfterWarm (warmBlocks a b s)
    cause := if stateAfterWarm (warmBlocks a b s) = .stopped then .reset else .none
    permit := s.pins.permit, waitCount := 0, slot := none, faults := [], overflow := false, ratesForced := false } := by
  rw [warmEnded, setCause_group, motionReset_group, enterGroup_group]
  rfl

theorem warmEnded_sync (a b : Bool) (s : State) : (warmEnded a b s).sync =
    { s.sync with ref := rebasedReference false s, speed := 0, dir := .none, descent := false, waiting := false } := by
  have href : rebasedReference false (enterGroup (stateAfterWarm (warmBlocks a b s)) (warmBlocks a b s)) = rebasedReference false s :=
    rebasedReference_congr (fun k => by rw [enterGroup_jack, warmBlocks_jack]; rfl) (by rw [enterGroup_group]; rfl)
  rw [warmEnded, setCause_sync, motionReset_sync, href, enterGroup_sync]
  split_ifs <;> rfl

theorem warmEnded_jack (a b : Bool) (s : State) (k : Sta) : (warmEnded a b s).jack k = (s.jack k).warm.latchRest := by
  simp [warmEnded, warmBlocks_jack]

/-- Settles O7. -/
theorem warmResetEndBringsTheGroupUp : Obligations.WarmResetEndBringsTheGroupUp := by
  intro a b s hr ⟨hm, hp, hraised, hq⟩
  have hline := warmEnded_line a b s
  rw [hraised, List.nil_append] at hline
  have hover := handOver_line_of_one (congrArg Line.raised hline)
    ⟨(congrArg Line.mask hline).trans hm, (congrArg Line.pending hline).trans hp, by rw [hline]; exact hq⟩
  have hgroup : (warmEnd a b s).group = _ := (handOver_group _).trans (warmEnded_group a b s)
  have hstopped : stateAfterWarm (warmBlocks a b s) = .stopped ↔ s.group.validated = true ∧ anyContact s = true := by
    rw [stateAfterWarm_warmBlocks]
    split_ifs <;> simp_all
  refine ⟨warmEnd a b s, congrArg Host.Outcome.next (if_pos hr), ?_, ?_, ?_, ?_,
    (handOver_sync _).trans (warmEnded_sync a b s), ?_, ?_, fun k => ?_⟩
  · exact (handOver_pins _).trans (by simp [warmBlocks])
  · exact (handOver_link _).trans (by simp [warmBlocks])
  · rw [hgroup]
    refine hover.trans ?_
    rw [hline, ← warmEnd_eq]
    simp only [hraised]
  · rw [hgroup, ← stateAfterWarm_warmBlocks a b s]
    simp only [hstopped]
  · exact (handOver_plan _).trans (by simp [warmBlocks])
  · exact (handOver_cars _).trans ((motionReset_cars false _).trans (enterGroup_cars _ _))
  · rw [warmEnd_eq, handOver_jack, warmEnded_jack]
    refine ⟨?_, rfl, rfl, rfl, rfl, rfl, rfl, rfl, rfl⟩
    show (s.jack k).record.warm = _
    obtain ⟨state, settings, offset, datum, contact, start, attempts, confirm, kind, prior, move⟩ := (s.jack k).record
    cases state <;> rcases prior with - | (_ | _) <;> rfl

/-! ### The permit rise (R112) -/

/-- A permit rise before its event is handed over. -/
def risen (s : State) : State := settleBrakes (motionReset false (raise (.permit true false) (setPermit true s)))

theorem rebasedReference_raise_setPermit (b : Bool) (e : Event) (h : Bool) (s : State) :
    rebasedReference b (raise e (setPermit h s)) = rebasedReference b s :=
  rebasedReference_congr (fun _ => rfl) rfl

/-- The error of a station that holds a contact height is what its value leaves of the reference (R120, R113). -/
theorem rebaseValue_error (b : Bool) (ref : Int) (j : Jack) :
    (match j.record.contact with
      | some c => ref + 100 * (j.record.settings.offset - ((if b then j.latchedHeight else j.liveHeight) - c))
      | none => 0) =
    match j.rebaseValue b with
      | some v => ref - 100 * v
      | none => 0 := by
  unfold Jack.rebaseValue
  cases j.record.contact with
  | none => rfl
  | some c =>
    show _ = ref - 100 * _
    ring

theorem length_filterMap_rebaseValue (b : Bool) (s : State) (l : List Sta) :
    (l.filterMap (fun k => (s.jack k).rebaseValue b)).length = (l.filter (fun k => (s.jack k).record.contact.isSome)).length := by
  induction l with
  | nil => rfl
  | cons k l ih =>
    rw [List.filterMap_cons, List.filter_cons]
    cases h : (s.jack k).record.contact <;> simp [Jack.rebaseValue, h] <;> exact ih

/-- Settles O22. -/
theorem permitRiseRebases : Obligations.PermitRiseRebases := by
  refine ⟨fun s hr hpermit ⟨hm, hp, hraised, hq⟩ => ?_, fun b s => ?_⟩
  · have hover := handOver_line_of_one (s := risen (setPermitLine true s))
      (r := { event := .permit true false, cycle := s.group.cycle }) (by simp [risen, hraised]) ⟨hm, hp, hq⟩
    refine ⟨handOver (risen (setPermitLine true s)), ?_, handOver_pins _, handOver_plan _, handOver_cars _, handOver_link _,
      handOver_group _, ?_, ?_, fun k => ?_⟩
    · show Host.Outcome.next (if s.pins.permit then s else unlessReset takeRise (setPermitLine true s)) = _
      rw [hpermit, unlessReset_of_running (s := setPermitLine true s) hr]
      rfl
    · exact (handOver_sync _).trans (congrArg (fun r => { s.sync with ref := r, speed := 0, dir := .none })
        (rebasedReference_raise_setPermit false _ true (setPermitLine true s)))
    · rw [hover]
      simp only [hraised]
      rfl
    · have hjack : (handOver (risen (setPermitLine true s))).jack k = { s.jack k with
          mon := { (s.jack k).mon with rest := (s.jack k).pos.count }
          gen := { (s.jack k).gen with brake := settledBrake true s.group.state (s.jack k).latchRest } } := by
        rw [handOver_jack, risen, settleBrakes_jack, motionReset_jack]
        rfl
      refine ⟨_, hjack, fun h => ?_, fun h hi => ?_⟩
      · unfold settledBrake
        rw [show brakeCalled s.group.state (s.jack k).latchRest = .released from h]
        rfl
      · unfold settledBrake
        rw [show brakeCalled s.group.state (s.jack k).latchRest = .applied from h]
        simp [Jack.latchRest, Generator.running, hi]
  · obtain ⟨h0, htop⟩ := rebasedReference_bounds b s
    refine ⟨h0, htop, rebasedReference_of_no_contact b, fun h h' => ?_⟩
    have hsum := rebasedReference_errors b h h'
    rw [length_filterMap_rebaseValue] at hsum
    exact (congrArg (fun l : List Int => l.sum.natAbs)
      (List.map_congr_left fun k _ => rebaseValue_error b _ (s.jack k))).trans_le hsum

end Sys2Proof.Machine

/-! PROOF. What a permit fall does to every station and what it sends first (O21). -/

namespace Sys2Proof.Machine

-- One theorem after another, as in the tests: a thread each for this many proofs would pass the memory limit.
set_option Elab.async false

variable {s t u : State} {k i : Sta}

/-! ### Work carried out for every station -/

theorem foldl_jack {P : State → Prop} {f : Sta → State → State} {g : Sta → Jack → Jack}
    (h : ∀ k t, P t → P (f k t) ∧ ∀ i, (f k t).jack i = if i = k then g k (t.jack i) else t.jack i) :
    ∀ (l : List Sta), l.Nodup → ∀ s, P s → ∀ i,
      (l.foldl (fun t k => f k t) s).jack i = if i ∈ l then g i (s.jack i) else s.jack i
  | [], _, _, _, _ => by simp
  | k :: l, hl, s, hs, i => by
    obtain ⟨hk, hl⟩ := List.nodup_cons.mp hl
    obtain ⟨hp, hj⟩ := h k s hs
    rw [List.foldl_cons, foldl_jack h l hl _ hp i, hj i]
    by_cases hik : i = k
    · subst hik
      simp [hk]
    · simp [hik]

/-- Work that changes station `k`'s jack alone, by `g k`, carried out for every station changes each jack so. -/
theorem forStations_jack_of {P : State → Prop} {f : Sta → State → State} {g : Sta → Jack → Jack}
    (h : ∀ k t, P t → P (f k t) ∧ ∀ i, (f k t).jack i = if i = k then g k (t.jack i) else t.jack i) (hs : P s) (i : Sta) :
    (forStations f s).jack i = g i (s.jack i) := by
  unfold forStations
  rw [foldl_jack h Sta.all (List.nodup_finRange 32) s hs i, if_pos (Sta.mem_all i)]

/-! ### Events raised behind those raised before -/

/-- `t` differs from `s` in the line controller by events raised later alone. -/
def Raises (s t : State) : Prop := ∃ l, t.line = { s.line with raised := s.line.raised ++ l }

theorem Raises.refl (s : State) : Raises s s := ⟨[], by simp⟩

theorem Raises.of_line (h : t.line = s.line) : Raises s t := ⟨[], by simp [h]⟩

theorem Raises.trans (h : Raises s t) (g : Raises t u) : Raises s u := by
  obtain ⟨l, hl⟩ := h
  obtain ⟨m, hm⟩ := g
  exact ⟨l ++ m, by rw [hm, hl, List.append_assoc]⟩

theorem Raises.raise (e : Event) (s : State) : Raises s (raise e s) := ⟨_, rfl⟩

theorem Raises.enterGroup (g : GroupState) (s : State) : Raises s (enterGroup g s) := ⟨_, enterGroup_line g s⟩

theorem Raises.abandonMove (k : Sta) (s : State) : Raises s (abandonMove k s) := by
  unfold Machine.abandonMove
  cases (s.jack k).record.move with
  | none => exact .refl s
  | some m =>
    simp only
    split
    · exact .of_line rfl
    · exact .raise _ (s.updRec k StationRec.endMove)

theorem Raises.forStations {f : Sta → State → State} (h : ∀ k t, Raises t (f k t)) (s : State) : Raises s (forStations f s) :=
  forStations_keeps (P := fun t => Raises s t) (fun k t ht => ht.trans (h k t)) (.refl s)

theorem Raises.cutMoves (s : State) : Raises s (cutMoves s) :=
  (Raises.of_line (abandonAll_line s)).trans (.forStations .abandonMove _)

theorem Raises.stopByFall (s : State) : Raises s (stopByFall s) := by
  unfold Machine.stopByFall
  simp only
  split_ifs <;> exact (Raises.of_line rfl).trans (.enterGroup _ _)

theorem handEvent_queue (r : Raised) (s : State) : ∃ l, (handEvent r s).line.queue = s.line.queue ++ l := by
  obtain ⟨-, e⟩ | ⟨-, -, -, e⟩ | ⟨-, -, e⟩ := handEvent_cases r s
  · exact ⟨[], by rw [e]; simp [setPendingEvents]⟩
  · exact ⟨[eventFrame r false s], by rw [e]; rfl⟩
  · exact ⟨[], by rw [e]; simp [setPendingEvents]⟩

theorem foldl_handEvent_queue (l : List Raised) (s : State) :
    ∃ q, (l.foldl (fun t r => handEvent r t) s).line.queue = s.line.queue ++ q := by
  induction l generalizing s with
  | nil => exact ⟨[], by simp⟩
  | cons r l ih =>
    obtain ⟨q, hq⟩ := handEvent_queue r s
    obtain ⟨q', hq'⟩ := ih (handEvent r s)
    exact ⟨q ++ q', by rw [List.foldl_cons, hq', hq, List.append_assoc]⟩

/-- The first event raised becomes the first notice behind the frames held. -/
theorem handOver_queue_of_first {r : Raised} {l : List Raised} (h : s.line.raised = r :: l) (ho : OpenFor 1 s) :
    ∃ q, (handOver s).line.queue = s.line.queue ++ eventFrame r false s :: q := by
  have e : handEvent r { s with line := { s.line with raised := [] } } =
      enqueue (eventFrame r false s) { s with line := { s.line with raised := [] } } := 
    handEvent_of_open (s := { s with line := { s.line with raised := [] } }) (n := 0) ho r
  obtain ⟨q, hq⟩ := foldl_handEvent_queue l (enqueue (eventFrame r false s) { s with line := { s.line with raised := [] } })
  refine ⟨q, ?_⟩
  unfold handOver
  rw [h, List.foldl_cons, e, hq]
  exact List.append_assoc _ _ _

/-! ### A permit fall, station by station (R18, R48, R105) -/

/-- The record of a station whose counted move, if it has one, is over. -/
def StationRec.cut (r : StationRec) : StationRec := if r.move.isSome then r.endMove else r

theorem abandonMove_jack (k : Sta) (s : State) (i : Sta) : (abandonMove k s).jack i =
    if i = k then { s.jack i with record := (s.jack i).record.cut } else s.jack i := by
  by_cases h : i = k
  · subst h
    rw [if_pos rfl]
    unfold abandonMove StationRec.cut
    cases (s.jack i).record.move with
    | none => rfl
    | some m =>
      simp only
      split <;> simp [StationRec.endMove]
  · rw [if_neg h, abandonMove_jack_ne s h]

theorem cutMoves_jack (s : State) (i : Sta) : (cutMoves s).jack i =
    { (abandonAll s).jack i with record := (s.jack i).record.cut } := by
  have h := forStations_jack_of (P := fun _ => True) (f := abandonMove) (g := fun _ j => { j with record := j.record.cut })
    (fun k t _ => ⟨trivial, abandonMove_jack k t⟩) (s := abandonAll s) trivial i
  refine h.trans ?_
  rw [abandonAll_jack]
  split <;> rfl

theorem cutMoves_sync (s : State) : (cutMoves s).sync = s.sync :=
  forStations_keeps (P := fun t => t.sync = s.sync) (fun k t h => (abandonMove_sync k t).trans h) rfl

theorem cutMoves_rest (s : State) : (cutMoves s).cars = s.cars ∧ (cutMoves s).plan = s.plan ∧ (cutMoves s).link = s.link ∧
    (cutMoves s).pins = s.pins :=
  forStations_keeps (P := fun t => t.cars = s.cars ∧ t.plan = s.plan ∧ t.link = s.link ∧ t.pins = s.pins)
    (fun k t h => by simpa using h) ⟨rfl, rfl, rfl, rfl⟩

theorem StationRec.cut_same (r : StationRec) : r.cut.settings = r.settings ∧ r.cut.contact = r.contact ∧
    r.cut.datumKnown = r.datumKnown ∧ r.cut.move = none ∧ r.cut.start = r.start := by
  unfold StationRec.cut
  split
  · exact ⟨rfl, rfl, rfl, rfl, rfl⟩
  · next h => exact ⟨rfl, rfl, rfl, by simpa using h, rfl⟩

theorem stopByFall_jack (s : State) (k : Sta) : (stopByFall s).jack k = (moveStations s).jack k := by
  unfold stopByFall
  simp only
  split_ifs <;> simp

theorem anyContact_moveStations (s : State) : anyContact (moveStations s) = anyContact s :=
  anyContact_congr fun k => by rw [moveStations_jack]; exact congrArg Option.isSome (StationRec.moveByStop_same _).2.2.2

theorem stopByFall_group (s : State) : (stopByFall s).group = { s.group with
    state := if anyContact s then .stopped else .prepared
    cause := if faultStopUnderWay s then s.group.cause else .permit
    waitCount := 0 } := by
  rw [← anyContact_moveStations s]
  have hc : anyContact (haltReference (moveStations s)) = anyContact (moveStations s) := rfl
  unfold stopByFall
  simp only [enterGroup_group, hc]
  split_ifs <;> rfl

theorem stopByFall_sync (s : State) : (stopByFall s).sync = { s.sync with
    ref := if anyContact s then s.sync.ref else 0
    speed := 0
    dir := if anyContact s then s.sync.dir else .none
    descent := false } := by
  rw [← anyContact_moveStations s]
  unfold stopByFall
  have hc : anyContact (haltReference (moveStations s)) = anyContact (moveStations s) := rfl
  simp only [enterGroup_sync, hc]
  by_cases h : anyContact (moveStations s) = true <;> simp only [h] <;> split_ifs <;> simp_all [haltReference, endDescent, freezeReference, clearWait]

theorem stopByFall_rest (s : State) : (stopByFall s).cars = s.cars ∧ (stopByFall s).plan = s.plan ∧ (stopByFall s).link = s.link ∧
    (stopByFall s).pins = s.pins := by
  unfold stopByFall
  simp only
  split_ifs <;> simp

/-- The group after a permit fall, before its brakes are settled and its events handed over. -/
def fallen (s : State) : State :=
  let t := cutMoves (raise (.permit false (stoppedByFall s.group.state)) (setPermit false s))
  if stoppedByFall s.group.state then stopByFall t else t

theorem takeFall_eq (s : State) : takeFall s = handOver (settleBrakes (fallen s)) := rfl

/-- The record after a permit fall, which stops the group or not. -/
def StationRec.stopped (stops : Bool) (r : StationRec) : StationRec := if stops then r.cut.moveByStop else r.cut

theorem Generator.stopForm_of_idle {g : Generator} (h : g.run = .idle) : g.stopForm = g := by
  unfold Generator.stopForm
  rw [h]

theorem fallen_jack (s : State) (k : Sta) : (fallen s).jack k = { s.jack k with
    record := (s.jack k).record.stopped (stoppedByFall s.group.state)
    gen := (s.jack k).gen.abandon
    mon := if (s.jack k).gen.running then { (s.jack k).mon with rest := (s.jack k).pos.count } else (s.jack k).mon } := by
  have hcut : (cutMoves (raise (.permit false (stoppedByFall s.group.state)) (setPermit false s))).jack k = { s.jack k with
      record := (s.jack k).record.cut
      gen := (s.jack k).gen.abandon
      mon := if (s.jack k).gen.running then { (s.jack k).mon with rest := (s.jack k).pos.count } else (s.jack k).mon } := by
    rw [cutMoves_jack, abandonAll_jack]
    by_cases hrun : (s.jack k).gen.running = true <;> simp [hrun, Jack.latchRest]
  unfold fallen
  simp only
  split
  next h =>
    rw [stopByFall_jack, moveStations_jack, hcut, h]
    simp only [Generator.stopForm_of_idle (Generator.abandon_atRest (s.jack k).gen).1, ite_self]
    rfl
  next h =>
    rw [hcut, Bool.eq_false_of_not_eq_true h]
    rfl

theorem Raises.fallen (s : State) :
    Raises (Machine.raise (.permit false (stoppedByFall s.group.state)) (setPermit false s)) (fallen s) := by
  unfold Machine.fallen
  simp only
  split
  · exact (Raises.cutMoves _).trans (.stopByFall _)
  · exact .cutMoves _

theorem anyContact_cutMoves (s : State) : anyContact (cutMoves s) = anyContact s :=
  anyContact_congr fun k => by
    rw [cutMoves_jack]
    exact congrArg Option.isSome (StationRec.cut_same _).2.1

theorem faultStopUnderWay_congr (hs : t.group.state = s.group.state) (hc : t.group.cause = s.group.cause) :
    faultStopUnderWay t = faultStopUnderWay s := by
  unfold faultStopUnderWay
  rw [hs, hc]

theorem stoppedByFall_eq (g : GroupState) :
    stoppedByFall g = [.engaging, .poised, .moving, .holding, .stopping, .landing].contains g := by
  cases g <;> rfl

theorem fallen_group (s : State) : (fallen s).group = { s.group with
    permit := false
    state := if stoppedByFall s.group.state then (if anyContact s then .stopped else .prepared) else s.group.state
    cause := if stoppedByFall s.group.state = true ∧ faultStopUnderWay s = false then .permit else s.group.cause
    waitCount := if stoppedByFall s.group.state then 0 else s.group.waitCount } := by
  unfold fallen
  generalize hc : cutMoves (raise (.permit false (stoppedByFall s.group.state)) (setPermit false s)) = c
  have hg : c.group = { s.group with permit := false } := by rw [← hc, cutMoves_group]; rfl
  have hcontact : anyContact c = anyContact s := by rw [← hc, anyContact_cutMoves]; rfl
  have hunder : faultStopUnderWay c = faultStopUnderWay s :=
    faultStopUnderWay_congr (by rw [hg]) (by rw [hg])
  by_cases h : stoppedByFall s.group.state = true
  · simp only [h, if_true, true_and]
    rw [stopByFall_group, hg, hcontact, hunder]
    cases faultStopUnderWay s <;> rfl
  · simp [h, hg]

theorem fallen_sync (s : State) : (fallen s).sync = { s.sync with
    ref := if stoppedByFall s.group.state = true ∧ anyContact s = false then 0 else s.sync.ref
    speed := if stoppedByFall s.group.state then 0 else s.sync.speed
    dir := if stoppedByFall s.group.state = true ∧ anyContact s = false then .none else s.sync.dir
    descent := if stoppedByFall s.group.state then false else s.sync.descent } := by
  unfold fallen
  generalize hc : cutMoves (raise (.permit false (stoppedByFall s.group.state)) (setPermit false s)) = c
  have hg : c.sync = s.sync := by rw [← hc, cutMoves_sync]; rfl
  have hcontact : anyContact c = anyContact s := by rw [← hc, anyContact_cutMoves]; rfl
  by_cases h : stoppedByFall s.group.state = true
  · simp only [h, if_true, true_and]
    rw [stopByFall_sync, hg, hcontact]
    cases anyContact s <;> rfl
  · simp [h, hg]

theorem fallen_rest (s : State) : (fallen s).cars = s.cars ∧ (fallen s).plan = s.plan ∧ (fallen s).link = s.link ∧
    (fallen s).pins = s.pins := by
  unfold fallen
  simp only
  split
  · obtain ⟨h1, h2, h3, h4⟩ := stopByFall_rest (cutMoves (raise (.permit false (stoppedByFall s.group.state)) (setPermit false s)))
    obtain ⟨g1, g2, g3, g4⟩ := cutMoves_rest (raise (.permit false (stoppedByFall s.group.state)) (setPermit false s))
    exact ⟨h1.trans g1, h2.trans g2, h3.trans g3, h4.trans g4⟩
  · exact cutMoves_rest _

/-- A running generator abandoned loses its divisor, its steps and its pulse, and DIR keeps its level (R48). -/
theorem Generator.abandon_of_running {g : Generator} (h : g.running = true) :
    g.abandon.divisor = none ∧ g.abandon.remaining = 0 ∧ g.abandon.stepHigh = false := by
  rw [Generator.abandon_eq, if_neg (by simpa [Generator.running] using h)]
  exact ⟨rfl, rfl, rfl⟩

theorem Generator.abandon_dirHigh (g : Generator) : g.abandon.dirHigh = g.dirHigh := by
  rw [Generator.abandon_eq]
  split <;> rfl

theorem StationRec.cut_state {r : StationRec} (h : r.move.isSome = true) : r.cut.state = moveEndState r.state := by
  unfold StationRec.cut
  rw [if_pos h]
  rfl

theorem StationRec.cut_state_of_end {r : StationRec} (h : moveEndState r.state = r.state) : r.cut.state = r.state := by
  unfold StationRec.cut
  split
  · exact h
  · rfl

theorem StationRec.moveByStop_of_seeks {r : StationRec} (h : r.state = .seeking ∨ r.state = .confirming) :
    r.moveByStop.state = .idle ∧ r.moveByStop.start = none := by
  unfold StationRec.moveByStop
  rcases h with h | h <;> rw [h] <;> exact ⟨rfl, rfl⟩

theorem StationRec.moveByStop_of_releasing {r : StationRec} (h : r.state = .releasing) : r.moveByStop.state = .engaged := by
  unfold StationRec.moveByStop
  rw [h]

/-- A stop moves stations that seek, confirm or release, and no other (R105). -/
theorem StationRec.moveByStop_of_other {r : StationRec} (h1 : r.state ≠ .seeking) (h2 : r.state ≠ .confirming)
    (h3 : r.state ≠ .releasing) : r.moveByStop = r := by
  unfold StationRec.moveByStop
  split <;> simp_all

theorem StationRec.stopped_state {r : StationRec} {st : StationState} (stops : Bool) (h : r.cut.state = st) (h1 : st ≠ .seeking)
    (h2 : st ≠ .confirming) (h3 : st ≠ .releasing) : (r.stopped stops).state = st := by
  subst h
  cases stops with
  | false => rfl
  | true => exact congrArg StationRec.state (StationRec.moveByStop_of_other h1 h2 h3)

theorem StationRec.stopped_same (stops : Bool) (r : StationRec) : (r.stopped stops).settings = r.settings ∧
    (r.stopped stops).contact = r.contact ∧ (r.stopped stops).datumKnown = r.datumKnown ∧ (r.stopped stops).move = none := by
  obtain ⟨hset, hcon, hdat, hmove, -⟩ := r.cut_same
  obtain ⟨sset, -, sdat, scon⟩ := r.cut.moveByStop_same
  cases stops with
  | false => exact ⟨hset, hcon, hdat, hmove⟩
  | true =>
    refine ⟨sset.trans hset, scon.trans hcon, sdat.trans hdat, ?_⟩
    show r.cut.moveByStop.move = none
    rw [← hmove]
    unfold StationRec.moveByStop
    split <;> rfl

theorem settled_fallen_jack (s : State) (k : Sta) : (settleBrakes (fallen s)).jack k = { (fallen s).jack k with
    gen := { (s.jack k).gen.abandon with brake := .applied } } := by
  rw [settleBrakes_jack, fallen_group, fallen_jack]
  rfl

/-- Settles O21. -/
theorem permitFallStopsEverything : Obligations.PermitFallStopsEverything := by
  intro s hr hpermit
  obtain ⟨hcars, hplan, hlink, hpins⟩ := fallen_rest (setPermitLine false s)
  refine ⟨takeFall (setPermitLine false s), ?_, ?_⟩
  · show Host.Outcome.next (if s.pins.permit then unlessReset takeFall (setPermitLine false s) else s) = _
    rw [hpermit, unlessReset_of_running (s := setPermitLine false s) hr]
    rfl
  simp only [← stoppedByFall_eq]
  rw [takeFall_eq]
  refine ⟨(handOver_pins _).trans hpins, (handOver_plan _).trans hplan, (handOver_cars _).trans hcars,
    (handOver_link _).trans hlink, (handOver_group _).trans (fallen_group _), (handOver_sync _).trans (fallen_sync _), ?_, fun k => ?_⟩
  · rintro ⟨hm, hp, hraised, hq⟩
    obtain ⟨l, hl⟩ := Raises.fallen (setPermitLine false s)
    have hline : (settleBrakes (fallen (setPermitLine false s))).line = (fallen (setPermitLine false s)).line := rfl
    have hfirst : (settleBrakes (fallen (setPermitLine false s))).line.raised =
        { event := .permit false (stoppedByFall s.group.state), cycle := s.group.cycle } :: l := by
      rw [hline, hl]
      simp [hraised]
    obtain ⟨q, hq⟩ := handOver_queue_of_first hfirst (by unfold OpenFor; rw [hline, hl]; exact ⟨hm, hp, hq⟩)
    exact ⟨_, q, hq.trans (by rw [hline, hl]; rfl)⟩
  · rw [handOver_jack, settled_fallen_jack, fallen_jack, setPermitLine_jack, setPermitLine_group]
    obtain ⟨hset, hcon, hdat, hmove⟩ := StationRec.stopped_same (stoppedByFall s.group.state) (s.jack k).record
    obtain ⟨hidle, hpend⟩ := (s.jack k).gen.abandon_atRest
    refine ⟨hidle, hpend, rfl, fun hrun => ?_, (s.jack k).gen.abandon_dirHigh, rfl, rfl, ?_, ?_, ?_, ?_, ?_, ?_, ?_, ?_⟩
    · obtain ⟨h1, h2, h3⟩ := Generator.abandon_of_running hrun
      exact ⟨h1, h2, h3, by simp [hrun]⟩
    · exact hset
    · exact hcon
    · exact hdat
    · exact hmove
    · intro hm hstate
      refine StationRec.stopped_state _ ?_ (by simp) (by simp) (by simp)
      rw [StationRec.cut_state hm]
      rcases hstate with h | h <;> rw [h] <;> rfl
    · intro hm hstate
      refine StationRec.stopped_state _ ?_ (by simp) (by simp) (by simp)
      rw [StationRec.cut_state hm, hstate]
      rfl
    · intro hstops hstate
      rw [hstops]
      refine StationRec.moveByStop_of_seeks ?_
      rcases hstate with h | h
      · exact .inl ((StationRec.cut_state_of_end (by rw [h]; rfl)).trans h)
      · exact .inr ((StationRec.cut_state_of_end (by rw [h]; rfl)).trans h)
    · intro hstops hstate
      rw [hstops]
      exact StationRec.moveByStop_of_releasing ((StationRec.cut_state_of_end (by rw [hstate]; rfl)).trans hstate)

end Sys2Proof.Machine

/-! PROOF. The reading requests, byte by byte (O27). -/

namespace Sys2Proof.Machine

-- One theorem after another, as in the tests: a thread each for this many proofs would pass the memory limit.
set_option Elab.async false

variable {s t : State}

/-! ### Codes and optional items -/

/-- The outcomes of a slot in the order of their codes. -/
def slotOutcomes : List SlotOutcome := [.none, .fresh, .overrange, .sensorFault, .stale, .garbled, .late, .silent]

/-- The fault kinds in the order of their codes. -/
def faultKinds : List FaultKind := [.syncTrip, .waitTimeout, .driveSlip, .noContact, .contactUnstable, .noRelease, .overload,
  .loadLoss, .loadSilent, .travelLimit, .twist, .coupling, .runaway]

theorem slotCode_eq (o : SlotOutcome) : slotCode o = slotOutcomes.idxOf o := by cases o <;> rfl

theorem faultCode_eq (f : FaultKind) : faultCode f = byteOf (faultKinds.idxOf f + 1) := by cases f <;> rfl

theorem priorCode_eq (p : Option Prior) : byteOf (priorCode (p.getD .idle)) = if p = some .engaged then 6 else 1 := by
  rcases p with - | (_ | _) <;> rfl

theorem stationCode_faulted (p : Option Prior) : stationCode .faulted p = if p = some .engaged then 10 else 9 := by
  rcases p with - | (_ | _) <;> rfl

theorem bit_eq (b : Bool) : bit b = (if b then 1 else 0 : Byte).toNat := by cases b <;> rfl

/-- `P` writes an optional item as 1 and its bytes, or as 0. -/
def Presents (P : Option (List Byte) → List Byte) : Prop := P none = [0] ∧ ∀ b, P (some b) = 1 :: b

theorem optional_eq {P : Option (List Byte) → List Byte} (hP : Presents P) {α : Type} (o : Option α) (f : α → List Byte) :
    optional o f = P (o.map f) := by
  cases o with
  | none => exact hP.1.symm
  | some a => exact (hP.2 _).symm

/-- `C` gives a record the code of its state, FAULTED by its prior state. -/
def Codes (C : StationRec → Nat) : Prop := ∀ r, stationCode r.state r.prior = C r

/-! ### The kinds with a pending record (R178) -/

theorem Event.priority_bounds (e : Event) : 1 ≤ e.priority ∧ e.priority ≤ 15 := by
  cases e <;> simp [Event.priority]

theorem getLsbD_foldl_kinds (l : List PendingEvent) (m : Half) (i : Nat) :
    (l.foldl (fun m p => m ||| BitVec.ofNat 16 (2 ^ (p.raised.event.priority - 1))) m).getLsbD i =
      (m.getLsbD i || l.any (fun x => x.raised.event.priority == i + 1)) := by
  induction l generalizing m with
  | nil => simp
  | cons p l ih =>
    obtain ⟨h1, h15⟩ := p.raised.event.priority_bounds
    rw [List.foldl_cons, ih, BitVec.getLsbD_or, List.any_cons, Bool.or_assoc]
    congr 2
    rw [BitVec.getLsbD_ofNat, Nat.testBit_two_pow]
    rw [Bool.eq_iff_iff]
    simp only [Bool.and_eq_true, decide_eq_true_eq, beq_iff_eq]
    omega

theorem pendingKinds_getLsbD (s : State) (i : Nat) :
    (pendingKinds s).getLsbD i = s.line.pending.any (fun x => x.raised.event.priority == i + 1) := by
  unfold pendingKinds
  rw [getLsbD_foldl_kinds]
  simp

/-! ### A station's car and corner (R22) -/

/-- Every corner of the table in order with its car and corner number, the absent ones too. -/
def cornerList (cars : List Car) : List (Option Sta × Nat × Nat) := cars.zipIdx.flatMap (fun (c, i) =>
  [(c.fl, i + 1, 0), (c.fr, i + 1, 1), (c.rl, i + 1, 2), (c.rr, i + 1, 3)])

theorem listings_eq (cars : List Car) : listings cars = (cornerList cars).filterMap (fun l => l.1.map (fun k => (k, l.2))) := by
  unfold listings cornerList
  rw [List.filterMap_flatMap]
  rfl

theorem find?_filterMap_station (l : List (Option Sta × Nat × Nat)) (k : Sta) :
    ((l.filterMap (fun l => l.1.map (fun k => (k, l.2)))).find? (fun l => l.1 == k)).map (fun l => l.2) =
      (l.find? (fun l => l.1 == some k)).map (fun l => l.2) := by
  induction l with
  | nil => rfl
  | cons a l ih =>
    obtain ⟨o, p⟩ := a
    cases o with
    | none => simpa using ih
    | some j =>
      by_cases h : j = k
      · simp [h]
      · simpa [h] using ih

theorem carAndCorner_eq (cars : List Car) (k : Sta) :
    carAndCorner cars k = ((cornerList cars).find? (fun l => l.1 == some k)).map (fun l => l.2) := by
  unfold carAndCorner
  rw [listings_eq, find?_filterMap_station]

/-! ### The contents (R191 to R194) -/

theorem speedCode_eq (l : Line) : byteOf (speedCode l) = 2 * markByte l.speed1 + markByte l.speed0 := by
  unfold speedCode
  cases l.speed1 <;> cases l.speed0 <;> rfl

theorem statusContent_eq (s : State) (c : Bool) : statusContent s c =
    markByte c :: ([s.group.cycle, byteOf s.group.faults.length, markByte s.group.overflow] ++ bytes2 (pendingKinds s)
      ++ [2 * markByte s.line.speed1 + markByte s.line.speed0]) := by
  unfold statusContent
  rw [speedCode_eq]
  rfl

section
variable {P : Option (List Byte) → List Byte} {C : StationRec → Nat}

theorem stationContent_eq (hP : Presents P) (hC : Codes C) (s : State) (k : Sta) : stationContent s k =
    [byteOf k.val, byteOf (C (s.jack k).record)]
      ++ P (((cornerList s.cars).find? (fun l => l.1 == some k)).map (fun l => [byteOf l.2.1, byteOf l.2.2]))
      ++ nat2 (s.jack k).record.settings.kStep ++ nat2 (s.jack k).record.settings.encScale
      ++ nat2 (s.jack k).record.settings.rMax ++ nat4 (s.jack k).record.settings.hMax
      ++ nat2 (s.jack k).record.settings.tContact ++ nat2 (s.jack k).record.settings.tRelease
      ++ nat2 (s.jack k).record.settings.overload ++ nat2 (s.jack k).record.settings.loss
      ++ bytes4 (s.jack k).record.settings.homeCount ++ bytes4 (field32 (s.jack k).record.settings.offset)
      ++ P ((s.jack k).record.pendingOffset.map (fun x => bytes4 (field32 x)))
      ++ [markByte (s.jack k).record.datumKnown]
      ++ P ((s.jack k).record.contact.map (fun x => bytes4 (field32 x)))
      ++ P ((s.jack k).record.start.map (fun x => bytes4 (field32 x)))
      ++ [byteOf (s.jack k).record.attempts, byteOf (s.jack k).record.confirm]
      ++ P ((s.jack k).record.faultKind.map (fun f =>
        [byteOf (faultKinds.idxOf f + 1), if (s.jack k).record.prior = some .engaged then 6 else 1]))
      ++ bytes4 (s.jack k).pos.count ++ bytes4 (s.jack k).pos.latched
      ++ P (if (s.jack k).record.datumKnown then some (bytes4 (field32 (s.jack k).latchedHeight)) else none)
      ++ nat2 (s.jack k).link.held
      ++ [byteOf (s.jack k).link.miss, byteOf (slotOutcomes.idxOf (s.jack k).link.outcome), markByte (s.jack k).mon.slipMark,
        byteOf (s.jack k).mon.slipRun, markByte (s.jack k).mon.gateOpen] := by
  unfold stationContent settingsBytes
  simp only [optional_eq hP, hC _, carAndCorner_eq, Option.map_map, Function.comp_def, slotCode_eq, faultCode_eq, priorCode_eq,
    List.append_assoc, apply_ite (Option.map _), Option.map_some, Option.map_none]

/-- A corner's imbalance byte in a CAR_GET reply (R194). -/
def imbalanceByte (s : State) (o : Option Sta) : Byte :=
  match o with
  | some k => markByte (s.jack k).imbalance
  | none => 0xFF

theorem carContent_eq (hP : Presents P) (s : State) {n : Nat} (hn : n ≠ 0) : carContent s n = byteOf s.cars.length ::
    P ((s.cars[n - 1]?).map (fun c =>
      [cornerByte c.fl, cornerByte c.fr, cornerByte c.rl, cornerByte c.rr] ++ nat2 c.twistLimit ++ [markByte c.coupled]
        ++ nat2 c.couplingLimit ++ P (c.lastTwist.map (fun x => bytes4 (field32 x))) ++ [markByte c.warnRaised]
        ++ P (c.lastStep.map (fun x => bytes4 (field32 x))) ++ [markByte c.couplingSet]
        ++ [c.fl, c.fr, c.rl, c.rr].map (imbalanceByte s))) := by
  unfold carContent
  rw [if_neg hn]
  simp only [optional_eq hP]
  rfl

theorem snapshotContent_eq (hC : Codes C) (s : State) : snapshotBytes s =
    [s.group.cycle, byteOf (assignedStations s).length] ++ nat4 s.sync.ref.toNat
      ++ nat2 (refDirCode s.sync.dir * 16384 + s.sync.speed) ++ (assignedStations s).flatMap (fun k =>
        [byteOf (slotOutcomes.idxOf (s.jack k).link.outcome * 32 + k.val),
         byteOf (C (s.jack k).record * 16 + (markByte (s.jack k).mon.slipMark).toNat * 8
           + (markByte (s.jack k).gen.ceiling).toNat * 4 + (markByte (s.jack k).link.fresh).toNat * 2
           + (markByte (s.jack k).mon.gateOpen).toNat)]
          ++ bytes4 (field32 ((s.jack k).latchedHeight - (s.jack k).record.contact.getD 0))
          ++ int2 (saturate16 (roundNearest (s.jack k).err 100)) ++ int2 (saturate16 (s.jack k).rate)
          ++ nat2 (s.jack k).link.held) := by
  have hlift (j : Jack) : j.liftOrHeight = j.latchedHeight - j.record.contact.getD 0 := by
    unfold Jack.liftOrHeight
    cases j.record.contact with
    | none => exact (Int.sub_zero _).symm
    | some c => rfl
  unfold snapshotBytes snapshotEntry
  simp only [hlift, slotCode_eq, bit_eq, hC _]
  rfl

/-- The group states in the order of their codes. -/
def groupStates : List GroupState := [.setup, .prepared, .engaging, .poised, .moving, .holding, .stopping, .stopped, .landing,
  .lockedOut]

theorem groupCode_eq (g : GroupState) : groupCode g = groupStates.idxOf g := by cases g <;> rfl

theorem groupContent_eq (s : State) : groupContent s = s.group.params.toList.flatMap nat4
    ++ [byteOf (groupStates.idxOf s.group.state), markByte s.group.validated]
    ++ [causeCode s.group.cause, causeSubject s.group.cause] ++ [markByte s.group.permit] ++ nat2 s.group.waitCount
    ++ [s.group.cycle, byteOf s.group.faults.length, markByte s.group.overflow, markByte s.group.slot.isSome] := by
  unfold groupContent
  simp only [groupCode_eq, List.append_assoc]
  rfl

theorem segmentCode_eq (k : SegmentKind) : byteOf (segmentCode k) = if k = .move then 1 else 2 := by cases k <;> rfl

theorem planContent_eq (hP : Presents P) (s : State) (pending : Bool) (i : Nat) : planContent s pending i =
    (if pending then [markByte (s.plan.active == .a), byteOf s.plan.pendingBank.length, markByte s.plan.commit.isSome,
        byteOf (commitCode s.plan.commit)]
      else [markByte (s.plan.active == .b), byteOf s.plan.activeBank.length, byteOf s.sync.planPos, byteOf (modeCode s.plan.segMode)])
      ++ P ((if pending then s.plan.pendingBank else s.plan.activeBank)[i]?.map (fun g =>
        [if g.kind = .move then 1 else 2, markByte g.stopAfter] ++ nat2 g.accel ++ nat4 g.target ++ nat2 g.cruise ++ nat2 g.dwell)) := by
  have ha : byteOf (bankCode s.plan.active) = markByte (s.plan.active == .b) := by cases s.plan.active <;> rfl
  have hb : byteOf (bankCode s.plan.pendingLetter) = markByte (s.plan.active == .a) := by
    unfold Plan.pendingLetter
    cases s.plan.active <;> rfl
  unfold planContent
  have hs : segmentBytes = fun g => [if g.kind = .move then 1 else 2, markByte g.stopAfter] ++ nat2 g.accel ++ nat4 g.target
      ++ nat2 g.cruise ++ nat2 g.dwell := funext fun g => by rw [segmentBytes, segmentCode_eq]
  simp only [optional_eq hP, hs]
  cases pending with
  | false => simp only [ha, Bool.false_eq_true, if_false]; rfl
  | true => simp only [hb, if_true]; rfl

end

/-- Settles O27. -/
theorem readingRequestsReport : Obligations.ReadingRequestsReport := by
  intro tag s h mark signed report present stateCode outcomes kinds groups corner listings counts stationPart carPart groupPart
    snapshotPart planPart
  have content {k : Byte} {t : State} {a b : List Byte} (hab : a = b) :
      (.next (answered k tag .done a t) : Host.Outcome State Fault Refusal) = .next (answered k tag .done b t) := by rw [hab]
  have presents : Presents present := ⟨rfl, fun _ => rfl⟩
  have codes : Codes stateCode := fun ⟨state, settings, offset, datum, contact, start, attempts, confirm, kind, prior, move⟩ => by
    cases state with
    | faulted => exact stationCode_faulted prior
    | _ => rfl
  refine ⟨pendingKinds_getLsbD s, ?_, ?_, fun c h0 h1 => ?_, fun k => ?_, fun i hi => ?_, fun n h1 h8 => ?_, fun n hn => ?_, ?_, ?_,
    fun r k hr hk => ?_, fun r k hrk => ?_⟩
  · exact (exec_done (exec_status tag 0 s) h (if_pos rfl) rfl).trans (content (statusContent_eq s _))
  · exact (exec_done (exec_status tag 1 s) h ((if_neg (by decide)).trans (if_pos rfl)) rfl).trans (content (statusContent_eq _ _))
  · exact exec_refuses (exec_status tag c s) h ((if_neg h0).trans (if_neg h1))
  · refine (exec_done (exec_stationGet tag (byteOf k.val) s) h (withStation_byteOf k s _) rfl).trans ?_
    exact content (stationContent_eq presents codes s k)
  · exact exec_refuses (exec_stationGet tag i s) h (withStation_of_le hi s _)
  · refine (exec_done (exec_carGet tag n s) h (if_pos ⟨h1, h8⟩) rfl).trans ?_
    exact content (carContent_eq presents s (by omega))
  · refine exec_refuses (exec_carGet tag n s) h (if_neg ?_)
    rintro ⟨h1, h8⟩
    rcases hn with rfl | hn
    · exact absurd h1 (by decide)
    · exact absurd h8 (by rw [show Config.maxCars = 8 from rfl]; omega)
  · refine (exec_done (exec_groupGet tag s) h rfl rfl).trans (content ((groupContent_eq s).trans ?_))
    cases hc : s.group.cause with
    | fault f x =>
      simp only [groupPart, hc, causeCode, causeSubject, faultCode_eq]
      cases x <;> rfl
    | _ =>
      simp only [groupPart, hc]
      rfl
  · refine (exec_done (exec_snapshot tag s) h rfl rfl).trans (content (snapshotContent_eq codes s))
  · refine (exec_done (exec_planRead tag r k s) h (if_pos ⟨hr, hk⟩) rfl).trans ?_
    refine content ((planContent_eq presents s _ _).trans ?_)
    cases r == 1 with
    | false => rcases hm : s.plan.segMode with - | (_ | _) <;> simp only [planPart, hm] <;> rfl
    | true => rcases hc : s.plan.commit with - | (_ | _) <;> simp only [planPart, hc] <;> rfl
  · refine exec_refuses (exec_planRead tag r k s) h (if_neg ?_)
    rintro ⟨h1, h2⟩
    rw [show Config.bankSize = 16 from rfl] at h2
    omega

end Sys2Proof.Machine

/-! PROOF. The car table's edits and the assignment of R2 they apply (O30). -/

namespace Sys2Proof.Machine

-- One theorem after another, as in the tests: a thread each for this many proofs would pass the memory limit.
set_option Elab.async false

variable {s t u : State} {k i : Sta}

/-! ### A counted move ended in the stop form (R6, R47) -/

/-- A station whose counted move, unless it has ended before, ends in the stop form. -/
def Jack.moveStopped (j : Jack) : Jack :=
  match j.record.move with
  | none => j
  | some m =>
    if m.done then j
    else { j with gen := j.gen.stopForm, record := { j.record with move := some { m with done := true } } }

theorem stopMove_jack (k : Sta) (r : OpResult) (s : State) (i : Sta) :
    (stopMove k r s).jack i = if i = k then (s.jack i).moveStopped else s.jack i := by
  by_cases h : i = k
  · subst h
    rw [if_pos rfl]
    unfold stopMove Jack.moveStopped
    cases (s.jack i).record.move with
    | none => rfl
    | some m =>
      simp only
      split
      · rfl
      · rw [raise_jack, updRec_jack_self, updGen_jack_self]
  · rw [if_neg h, stopMove_jack_ne r s h]

theorem Generator.stopForm_same (g : Generator) :
    g.stopForm = { g with remaining := g.stopForm.remaining, pending := g.stopForm.pending } := by
  unfold Generator.stopForm
  split
  · rfl
  · split <;> rfl
  · rfl

/-- Ending a move in the stop form writes the move, and of the generator the steps that remain and what is pending. -/
theorem Jack.moveStopped_same (j : Jack) : ∃ m n p, j.moveStopped =
    { j with record := { j.record with move := m }, gen := { j.gen with remaining := n, pending := p } } := by
  unfold Jack.moveStopped
  split
  · exact ⟨_, _, _, rfl⟩
  · split
    · exact ⟨_, _, _, rfl⟩
    · rw [Generator.stopForm_same]
      exact ⟨_, _, _, rfl⟩

theorem Jack.moveStopped_of_none {j : Jack} (h : j.record.move = none) : j.moveStopped = j := by
  unfold Jack.moveStopped
  rw [h]

theorem Jack.moveStopped_of_counted {j : Jack} {m : Move} (h : j.record.move = some m) (hd : m.done = false) (hr : j.gen.run = .counted) :
    j.moveStopped.gen.remaining = 0 ∧ j.moveStopped.gen.pending = none := by
  unfold Jack.moveStopped
  rw [h]
  simp [hd, Generator.stopForm, hr]

/-! ### The assignment of R2 -/

/-- A station that the change leaves listed by no car. -/
def Jack.unassigned (j : Jack) : Jack :=
  { j.moveStopped with
    record := { j.record with
      state := .unassigned, faultKind := none, prior := none, contact := none, start := none, pendingOffset := none
      attempts := 0, confirm := 0, move := none }
    mon := if j.mon.gateOpen then
        { j.mon with gateOpen := false, stepTally := 0, edgeTally := 0, openCycles := 0, gate := none }
      else j.mon }

theorem unassign_jack (k : Sta) (s : State) (i : Sta) :
    (unassign k s).jack i = if i = k then (s.jack i).unassigned else s.jack i := by
  unfold unassign
  rw [updJack_jack, stopMove_jack]
  by_cases h : i = k
  · subst h
    rw [if_pos rfl, if_pos rfl, if_pos rfl]
    obtain ⟨m, n, p, e⟩ := (s.jack i).moveStopped_same
    unfold Jack.unassigned
    rw [e]
  · rw [if_neg h, if_neg h, if_neg h]

/-- The assigned station `k` is listed by no car. -/
def dropsStation (s : State) (k : Sta) : Bool := (s.jack k).assigned && !listed s.cars k

/-- A station after the assignment, before the test of R17. -/
def State.reassigned (s : State) (k : Sta) : Jack :=
  if dropsStation s k then (s.jack k).unassigned
  else if (s.jack k).isIn .unassigned && listed s.cars k then { s.jack k with record := { (s.jack k).record with state := .idle } }
  else s.jack k

/-- The entries that name no station dropped. -/
def keptEntries (s : State) : List FaultEntry :=
  s.group.faults.filter (fun e => !Sta.all.any (fun k => dropsStation s k && e.subject == .station k))

theorem unassign_group (k : Sta) (s : State) : (unassign k s).group = s.group := by simp [unassign]

theorem unassign_cars (k : Sta) (s : State) : (unassign k s).cars = s.cars := by simp [unassign]

theorem foldl_keeps {α : Type} {P : State → Prop} {f : State → α → State} (h : ∀ t x, P t → P (f t x)) (l : List α) (hs : P s) :
    P (l.foldl f s) := by
  induction l generalizing s with
  | nil => exact hs
  | cons x l ih => exact ih (h s x hs)

theorem applyAssignment_spec (s : State) : ∃ u : State, (∀ k, u.jack k = s.reassigned k) ∧ u.group = s.group ∧ u.cars = s.cars ∧
    applyAssignment s = if (keptEntries s).length = s.group.faults.length then u else returnFaulted (setFaults (keptEntries s) u) := by
  unfold applyAssignment
  extract_lets dropped t u kept
  have htg : t.group = s.group := foldl_keeps (P := fun t => t.group = s.group) (fun t k h => (unassign_group k t).trans h) _ rfl
  have htc : t.cars = s.cars := foldl_keeps (P := fun t => t.cars = s.cars) (fun t k h => (unassign_cars k t).trans h) _ rfl
  have hkept : kept = keptEntries s := by
    show t.group.faults.filter _ = _
    rw [htg]
    unfold keptEntries
    simp only [dropped, List.any_filter]
    rfl
  refine ⟨u, fun k => ?_, htg, htc, ?_⟩
  · have hj := foldl_jack (P := fun _ => True) (f := unassign) (g := fun _ => Jack.unassigned)
      (fun k t _ => ⟨trivial, unassign_jack k t⟩) dropped (List.Nodup.filter _ (List.nodup_finRange 32)) s trivial k
    have hmem : k ∈ dropped ↔ dropsStation s k = true := by simp [dropped, dropsStation]
    have htj : t.jack k = if dropsStation s k = true then (s.jack k).unassigned else s.jack k := hj.trans (if_congr hmem rfl rfl)
    rw [show u.jack k = _ from updAll_jack _ _ _, htj, State.reassigned]
    by_cases hd : dropsStation s k = true
    · have hl : listed s.cars k = false := by
        unfold dropsStation at hd
        simpa using (Bool.and_eq_true_iff.mp hd).2
      simp [hd, hl]
    · simp [hd]
  · rw [hkept, show u.group = s.group from htg]

theorem keptEntries_eq (h : (keptEntries s).length = s.group.faults.length) : keptEntries s = s.group.faults :=
  List.Sublist.eq_of_length List.filter_sublist h

theorem applyAssignment_faults (s : State) : (applyAssignment s).group = { s.group with
    faults := keptEntries s
    overflow := s.group.overflow && (keptEntries s == s.group.faults || decide (16 ≤ (keptEntries s).length)) } := by
  obtain ⟨u, -, hg, -, e⟩ := applyAssignment_spec s
  rw [e]
  by_cases h : (keptEntries s).length = s.group.faults.length
  · rw [if_pos h, hg, keptEntries_eq h]
    simp
  · have hne : keptEntries s ≠ s.group.faults := fun e => h (congrArg List.length e)
    rw [if_neg h]
    rw [show (returnFaulted (setFaults (keptEntries s) u)).group = { u.group with
      faults := keptEntries s, overflow := u.group.overflow && decide (16 ≤ (keptEntries s).length) } from rfl, hg,
      beq_eq_false_iff_ne.mpr hne]
    simp

/-- The test of R17 gives a FAULTED station the record of `tested`. -/
theorem StationRec.retest_eq (r : StationRec) (k : Sta) (l : List FaultEntry) :
    r.retest (oldestFault l k) = if r.state = .faulted then r.tested k l else r := by
  by_cases h : r.state = .faulted
  · rw [if_pos h]
    unfold StationRec.retest StationRec.tested oldestFault
    rw [if_pos h]
    have hm : (match r.move with
        | some m => m.underFault
        | none => false) = r.move.any (fun m => m.underFault) := by cases r.move <;> rfl
    cases l.find? (fun e => e.subject == .station k) with
    | some e => rfl
    | none =>
      simp only [Option.map_none]
      rcases hp : r.prior with - | (_ | _) <;> cases hm : r.move <;> simp
  · rw [if_neg h]
    unfold StationRec.retest
    rw [if_neg h]

theorem applyAssignment_jack (s : State) (k : Sta) : (applyAssignment s).jack k = { s.reassigned k with
    record := if (s.reassigned k).record.state = .faulted ∧ keptEntries s ≠ s.group.faults then
        (s.reassigned k).record.tested k (keptEntries s) else (s.reassigned k).record } := by
  obtain ⟨u, hj, hg, -, e⟩ := applyAssignment_spec s
  rw [e]
  by_cases h : (keptEntries s).length = s.group.faults.length
  · rw [if_pos h, hj, if_neg (fun hn => hn.2 (keptEntries_eq h))]
  · have hne : keptEntries s ≠ s.group.faults := fun e => h (congrArg List.length e)
    rw [if_neg h, returnFaulted_jack, setFaults_jack, hj]
    simp only [hne, ne_eq, not_false_eq_true, and_true]
    rw [show (setFaults (keptEntries s) u).group.faults = keptEntries s from rfl, StationRec.retest_eq]

theorem applyAssignment_rest (s : State) : (applyAssignment s).cars = s.cars ∧ (applyAssignment s).sync = s.sync ∧
    (applyAssignment s).plan = s.plan ∧ (applyAssignment s).pins = s.pins := by
  have hu (k : Sta) (t : State) (h : t.sync = s.sync ∧ t.plan = s.plan ∧ t.pins = s.pins) :
      (unassign k t).sync = s.sync ∧ (unassign k t).plan = s.plan ∧ (unassign k t).pins = s.pins := by
    simpa [unassign] using h
  refine ⟨?_, ?_⟩
  · obtain ⟨u, -, -, hc, e⟩ := applyAssignment_spec s
    rw [e]
    split_ifs
    · exact hc
    · exact hc
  · unfold applyAssignment
    extract_lets dropped t u kept
    have ht : t.sync = s.sync ∧ t.plan = s.plan ∧ t.pins = s.pins :=
      foldl_keeps (P := fun t => t.sync = s.sync ∧ t.plan = s.plan ∧ t.pins = s.pins) (fun t k h => hu k t h) _ ⟨rfl, rfl, rfl⟩
    split_ifs <;> exact ht

/-- What a change of the table, made of `s` with imbalance marks ARMED, leaves of the assignment. -/
theorem assignmentApplied {v : State} (hg : v.group = s.group) (hj : ∀ k, ∃ b, v.jack k = { s.jack k with imbalance := b })
    (hc : t.cars = v.cars) (htg : t.group = (applyAssignment v).group)
    (htj : ∀ k, ∃ b, t.jack k = { (applyAssignment v).jack k with gen := { ((applyAssignment v).jack k).gen with brake := b } }) :
    AssignmentApplied s t := by
  have hrec (k : Sta) : (v.jack k).record = (s.jack k).record := by obtain ⟨b, e⟩ := hj k; rw [e]
  have hdrop (k : Sta) : dropsStation v k = ((s.jack k).assigned && !listed t.cars k) := by
    unfold dropsStation Jack.assigned
    rw [hrec, hc]
  have hkept : keptEntries v = s.group.faults.filter (fun e =>
      !Sta.all.any (fun k => ((s.jack k).assigned && !listed t.cars k) && e.subject == .station k)) := by
    unfold keptEntries
    simp only [hdrop, hg]
  have hgroup := htg.trans (applyAssignment_faults v)
  rw [hg] at hgroup
  have hfaults : t.group.faults = keptEntries v := by rw [hgroup]
  refine ⟨hfaults.trans hkept, ?_, fun k => ?_⟩
  · rw [hfaults, hgroup]
  · obtain ⟨b, e⟩ := htj k
    obtain ⟨c, e'⟩ := hj k
    simp only [← hdrop, hfaults]
    rw [e, applyAssignment_jack, hg]
    have hstate : ¬ dropsStation v k = true → ((s.jack k).assigned = false ∧ listed t.cars k = true ↔
        ((v.jack k).isIn .unassigned && listed v.cars k) = true) := fun _ => by
      rw [hc, Bool.and_eq_true, Jack.isIn_eq_true, hrec, Jack.assigned_eq_false]
    by_cases hd : dropsStation v k = true
    · have hv : v.reassigned k = (v.jack k).unassigned := if_pos hd
      rw [hv, e']
      obtain ⟨m, n, p, hsame⟩ := Jack.moveStopped_same { s.jack k with imbalance := c }
      refine ⟨?_, ?_, ?_, ?_, fun _ hrun ⟨m', hm', hdone⟩ => ?_, fun h => ?_⟩
      · simp [Jack.unassigned, hsame]
      · simp [hd, Jack.unassigned]
      · simp [hd, Jack.unassigned]
      · simp [Jack.unassigned, hsame]
      · exact Jack.moveStopped_of_counted (j := { s.jack k with imbalance := c }) hm' hdone hrun
      · rcases h with h | h
        · exact absurd hd (by simp [h])
        · have hnone := Jack.moveStopped_of_none (j := { s.jack k with imbalance := c }) h
          simp [Jack.unassigned, hnone]
    · by_cases hn : ((v.jack k).isIn .unassigned && listed v.cars k) = true
      · have hv : v.reassigned k = { v.jack k with record := { (v.jack k).record with state := .idle } } :=
          (if_neg hd).trans (if_pos hn)
        rw [hv, e']
        simp [hd, (hstate hd).mpr hn]
      · have hv : v.reassigned k = v.jack k := (if_neg hd).trans (if_neg hn)
        rw [hv, e']
        simp only [hd, mt (hstate hd).mp hn, if_false]
        simp

/-! ### An edit of the table -/

/-- `v` is `s` with the cars `cars` for its table and the imbalance marks of the stations that the cars `changed` list ARMED. -/
structure TableEdited (s v : State) (cars changed : List Car) : Prop where
  cars : v.cars = cars
  group : v.group = s.group
  sync : v.sync = s.sync
  plan : v.plan = s.plan
  pins : v.pins = s.pins
  line : v.line = s.line
  jack : ∀ k, v.jack k = { s.jack k with imbalance := (s.jack k).imbalance && !listed changed k }

theorem armImbalance_jack (c : Car) (s : State) (k : Sta) :
    (armImbalance c s).jack k = { s.jack k with imbalance := (s.jack k).imbalance && !listed [c] k } := by
  unfold armImbalance
  rw [updAll_jack, show listed [c] k = c.corners.any (fun o => o == some k) by simp [listed]]
  cases h : c.corners.any (fun o => o == some k) <;> simp

theorem listed_append (l m : List Car) (k : Sta) : listed (l ++ m) k = (listed l k || listed m k) := List.any_append

theorem TableEdited.refl (s : State) : TableEdited s s s.cars [] where
  cars := rfl
  group := rfl
  sync := rfl
  plan := rfl
  pins := rfl
  line := rfl
  jack := fun k => by simp [listed]

theorem TableEdited.place {v : State} {l m : List Car} (h : TableEdited s v l m) (l' : List Car) :
    TableEdited s { v with cars := l' } l' m where
  cars := rfl
  group := h.group
  sync := h.sync
  plan := h.plan
  pins := h.pins
  line := h.line
  jack := h.jack

theorem TableEdited.arm {v : State} {l m : List Car} (h : TableEdited s v l m) (c : Car) :
    TableEdited s (armImbalance c v) l (m ++ [c]) where
  cars := h.cars
  group := h.group
  sync := h.sync
  plan := h.plan
  pins := h.pins
  line := h.line
  jack := fun k => by rw [armImbalance_jack, h.jack, listed_append, Bool.not_or, Bool.and_assoc]

theorem summary_congr (hg : t.group.state = s.group.state) (hp : t.group.permit = s.group.permit) (hs : t.group.slot = s.group.slot)
    (hc : t.line.cold = s.line.cold) (hl : t.line.pending = s.line.pending) (hw : t.sync.waiting = s.sync.waiting)
    (hpl : t.plan = s.plan) : summary t = summary s := by
  unfold summary
  rw [hg, hp, hs, hc, hl, hw, hpl]

theorem handOver_queue (s : State) : ∃ l, (handOver s).line.queue = s.line.queue ++ l :=
  foldl_handEvent_queue s.line.raised { s with line := { s.line with raised := [] } }

theorem reassigned_same (s : State) (k : Sta) : (s.reassigned k).link = (s.jack k).link ∧
    (s.reassigned k).imbalance = (s.jack k).imbalance := by
  unfold State.reassigned
  split_ifs
  · obtain ⟨m, n, p, e⟩ := (s.jack k).moveStopped_same
    unfold Jack.unassigned
    rw [e]
    exact ⟨rfl, rfl⟩
  · exact ⟨rfl, rfl⟩
  · exact ⟨rfl, rfl⟩

theorem finishRequest_group (cls : FrameClass) (kind tag : Byte) (a : Answer) :
    (finishRequest cls kind tag a).group = a.state.group := by
  unfold finishRequest
  rw [handOver_group]
  cases a.reply <;> rfl

theorem finishRequest_jack (cls : FrameClass) (kind tag : Byte) (a : Answer) (k : Sta) :
    (finishRequest cls kind tag a).jack k = a.state.jack k := by
  unfold finishRequest
  rw [handOver_jack]
  cases a.reply <;> rfl

/-- What an accepted edit of the table leaves, and how it is answered. -/
theorem exec_tableEdit {row : Instr} {tag : Byte} {serve : State → Answer} {v : State} {cars changed : List Car}
    (hrow : exec row s = .next (takeKind 0x05 tag serve s)) (h : Ready s)
    (hs : serve s = Answer.done (settleBrakes (applyAssignment v)) []) (hv : TableEdited s v cars changed) :
    ∃ t notices, exec row s = .next t ∧
      t.line.queue = s.line.queue ++ { cls := .reply, kind := 0x85, tag := tag, body := 0x00 :: bytes2 (summary s) } :: notices ∧
      t.cars = cars ∧ t.group = { s.group with faults := t.group.faults, overflow := t.group.overflow } ∧ t.sync = s.sync ∧
      t.plan = s.plan ∧ t.pins = s.pins ∧ AssignmentApplied s t ∧
      ∀ k, (t.jack k).link = (s.jack k).link ∧ (t.jack k).imbalance = ((s.jack k).imbalance && !listed changed k) := by
  obtain ⟨hline, -⟩ := Quiet.applyAssignment v
  obtain ⟨acars, async, aplan, apins⟩ := applyAssignment_rest v
  have hfaults := applyAssignment_faults v
  have hsum : summary (settleBrakes (applyAssignment v)) = summary s := by
    refine summary_congr ?_ ?_ ?_ ?_ ?_ ?_ (aplan.trans hv.plan)
    · rw [settleBrakes_group, hfaults, hv.group]
    · rw [settleBrakes_group, hfaults, hv.group]
    · rw [settleBrakes_group, hfaults, hv.group]
    · rw [settleBrakes_line, hline, hv.line]
    · rw [settleBrakes_line, hline, hv.line]
    · rw [settleBrakes_sync, async, hv.sync]
  obtain ⟨l, hl⟩ := handOver_queue (enqueue (replyFrame .reply 0x85 tag { outcome := .done, content := [] }
    (settleBrakes (applyAssignment v))) (settleBrakes (applyAssignment v)))
  have hqueue : (enqueue (replyFrame .reply 0x85 tag { outcome := .done, content := [] }
      (settleBrakes (applyAssignment v))) (settleBrakes (applyAssignment v))).line.queue =
      s.line.queue ++ [{ cls := .reply, kind := 0x85, tag := tag, body := 0x00 :: bytes2 (summary s) }] := by
    show (applyAssignment v).line.queue ++ _ = _
    rw [hline, hv.line]
    simp [replyFrame, hsum, outcomeCode]
  refine ⟨_, l, hrow.trans (congrArg Host.Outcome.next ((takeKind_of_ready h _ _ _).trans (congrArg (finishRequest .reply 0x05 tag) hs))),
    hl.trans ?_, (handOver_cars _).trans (acars.trans hv.cars), ?_, (handOver_sync _).trans (async.trans hv.sync),
    (handOver_plan _).trans (aplan.trans hv.plan), (handOver_pins _).trans (apins.trans hv.pins), ?_, fun k => ?_⟩
  · rw [hqueue, List.append_assoc]
    rfl
  · rw [finishRequest_group, show (Answer.done (settleBrakes (applyAssignment v)) []).state.group = _ from hfaults, hv.group]
  · exact assignmentApplied hv.group (fun k => ⟨_, hv.jack k⟩) ((handOver_cars _).trans acars) (handOver_group _)
      fun k => ⟨_, (handOver_jack _ k).trans (settleBrakes_jack _ k)⟩
  · rw [finishRequest_jack, show (Answer.done (settleBrakes (applyAssignment v)) []).state.jack k = _ from settleBrakes_jack _ k,
      applyAssignment_jack]
    obtain ⟨hlink, himb⟩ := reassigned_same v k
    exact ⟨hlink.trans (by rw [hv.jack]), himb.trans (by rw [hv.jack])⟩

/-! ### The two forms of CAR_SET (R23, R24) -/

theorem serveCarSet_accepts {n : Byte} {r : RawCar} (hs : s.group.state = .setup) (h1 : 1 ≤ n.toNat) (h8 : n.toNat ≤ 8)
    (hn : n.toNat ≤ s.cars.length + 1) (hc : ∀ b ∈ [r.fl, r.fr, r.rl, r.rr], b = 0xFF ∨ b.toNat < 32)
    (ht : 100 ≤ r.twistLimit.toNat ∧ r.twistLimit.toNat ≤ 50000)
    (hl : r.coupled ≠ 0 → 100 ≤ r.couplingLimit.toNat ∧ r.couplingLimit.toNat ≤ 50000) :
    ∃ v, serveCarSet n r s = Answer.done (settleBrakes (applyAssignment v)) [] ∧
      TableEdited s v (placeCar s.cars n.toNat (carOf r)) (s.cars[n.toNat - 1]?.toList ++ [carOf r]) := by
  have hcorner (b : Byte) (hb : b ∈ [r.fl, r.fr, r.rl, r.rr]) : cornerValid b = true := by
    unfold cornerValid stationIndex
    rcases hc b hb with e | e
    · simp [e]
    · simp [e]
  have hcorners : (cornerValid r.fl && cornerValid r.fr && cornerValid r.rl && cornerValid r.rr) = true := by
    rw [hcorner _ (by simp), hcorner _ (by simp), hcorner _ (by simp), hcorner _ (by simp)]
    rfl
  unfold serveCarSet
  simp only
  rw [if_neg (not_not.mpr ⟨h1, h8⟩), if_neg (not_not.mpr hs), if_neg (by omega), if_neg (by simp [hcorners]),
    if_neg (by simp [inRange_eq_true.mpr ht]), if_neg (fun h => by simp [inRange_eq_true.mpr (hl h.1)] at h)]
  cases s.cars[n.toNat - 1]? with
  | none => exact ⟨_, rfl, ((TableEdited.refl s).place _).arm (carOf r)⟩
  | some old => exact ⟨_, rfl, (((TableEdited.refl s).arm old).place _).arm (carOf r)⟩

theorem serveCarSet_of_number {n : Byte} (h : n.toNat < 1 ∨ 8 < n.toNat) (r : RawCar) (s : State) :
    serveCarSet n r s = Answer.refused .badValue s ∧ serveCarDelete n s = Answer.refused .badValue s := by
  have hn : ¬ (1 ≤ n.toNat ∧ n.toNat ≤ Config.maxCars) := by
    rw [show Config.maxCars = 8 from rfl]
    omega
  exact ⟨if_pos hn, if_pos hn⟩

theorem serveCarSet_outside_setup {n : Byte} (h : ¬ (n.toNat < 1 ∨ 8 < n.toNat)) (r : RawCar) (hs : s.group.state ≠ .setup) :
    serveCarSet n r s = Answer.refused .wrongState s ∧ serveCarDelete n s = Answer.refused .wrongState s := by
  have hn : 1 ≤ n.toNat ∧ n.toNat ≤ Config.maxCars := by
    rw [show Config.maxCars = 8 from rfl]
    omega
  exact ⟨(if_neg (not_not.mpr hn)).trans (if_pos hs), (if_neg (not_not.mpr hn)).trans (if_pos hs)⟩

theorem serveCarSet_of_bad {n : Byte} {r : RawCar} (h : ¬ (n.toNat < 1 ∨ 8 < n.toNat)) (hs : s.group.state = .setup)
    (hbad : s.cars.length + 1 < n.toNat ∨ (∃ b ∈ [r.fl, r.fr, r.rl, r.rr], b ≠ 0xFF ∧ 32 ≤ b.toNat) ∨ r.twistLimit.toNat < 100 ∨
      50000 < r.twistLimit.toNat ∨ (r.coupled ≠ 0 ∧ (r.couplingLimit.toNat < 100 ∨ 50000 < r.couplingLimit.toNat))) :
    serveCarSet n r s = Answer.refused .badValue s := by
  have hn : 1 ≤ n.toNat ∧ n.toNat ≤ Config.maxCars := by
    rw [show Config.maxCars = 8 from rfl]
    omega
  unfold serveCarSet
  simp only
  rw [if_neg (not_not.mpr hn), if_neg (not_not.mpr hs)]
  rcases hbad with h | ⟨b, hb, hff, h32⟩ | h | h | ⟨hc, h⟩
  · rw [if_pos h]
  · have hv : cornerValid b = false := by
      unfold cornerValid stationIndex
      rw [dif_neg (by omega)]
      simpa using hff
    have hcorners : (cornerValid r.fl && cornerValid r.fr && cornerValid r.rl && cornerValid r.rr) = false := by
      simp only [List.mem_cons, List.not_mem_nil, or_false] at hb
      rcases hb with rfl | rfl | rfl | rfl <;> simp [hv]
    rw [if_pos hcorners, ite_self]
  · have hr : inRange 100 50000 r.twistLimit.toNat = false := by simp [inRange]; omega
    rw [if_pos hr, ite_self, ite_self]
  · have hr : inRange 100 50000 r.twistLimit.toNat = false := by simp [inRange]; omega
    rw [if_pos hr, ite_self, ite_self]
  · have hr : inRange 100 50000 r.couplingLimit.toNat = false := by
      rw [Bool.eq_false_iff, Ne, inRange_eq_true]
      omega
    rw [if_pos (c := r.coupled ≠ 0 ∧ inRange 100 50000 r.couplingLimit.toNat = false) ⟨hc, hr⟩, ite_self, ite_self, ite_self]

theorem serveCarDelete_accepts {n : Byte} (hs : s.group.state = .setup) (h1 : 1 ≤ n.toNat) (h8 : n.toNat ≤ 8)
    (hn : n.toNat = s.cars.length) : ∃ v, serveCarDelete n s = Answer.done (settleBrakes (applyAssignment v)) [] ∧
      TableEdited s v (dropCar s.cars) s.cars.getLast?.toList := by
  unfold serveCarDelete
  simp only
  rw [if_neg (not_not.mpr ⟨h1, h8⟩), if_neg (not_not.mpr hs), if_neg (not_not.mpr hn)]
  cases s.cars.getLast? with
  | none => exact ⟨_, rfl, (TableEdited.refl s).place _⟩
  | some old => exact ⟨_, rfl, ((TableEdited.refl s).arm old).place _⟩

theorem serveCarDelete_of_lower {n : Byte} (hs : s.group.state = .setup) (h1 : 1 ≤ n.toNat) (h8 : n.toNat ≤ 8)
    (hn : n.toNat ≠ s.cars.length) : serveCarDelete n s = Answer.refused .badValue s := by
  unfold serveCarDelete
  simp only
  rw [if_neg (not_not.mpr ⟨h1, h8⟩), if_neg (not_not.mpr hs), if_pos hn]

/-! ### The cars of the edited table -/

section
variable {cars : List Car} {n i : Nat} {c : Car}

theorem placeCar_length (h1 : 1 ≤ n) (hn : n ≤ cars.length + 1) : (placeCar cars n c).length = max cars.length n := by
  unfold placeCar
  simp only
  split_ifs <;> simp <;> omega

theorem getElem?_placeCar (h1 : 1 ≤ n) (hn : n ≤ cars.length + 1) : (placeCar cars n c)[i]? =
    if i + 1 = n then some c else if i + 2 = n then cars[i]?.map Car.clearCoupling else cars[i]? := by
  have hl : (if n ≤ cars.length then cars.set (n - 1) c else cars ++ [c])[i]? = if i + 1 = n then some c else cars[i]? := by
    split_ifs with h h' h'
    · rw [List.getElem?_set, if_pos (by omega), if_pos (by omega)]
    · rw [List.getElem?_set, if_neg (by omega)]
    · rw [List.getElem?_append_right (by omega), show i - cars.length = 0 by omega]
      rfl
    · rcases lt_or_ge i cars.length with hi | hi
      · rw [List.getElem?_append_left hi]
      · rw [List.getElem?_eq_none (by simp; omega), List.getElem?_eq_none hi]
  unfold placeCar
  simp only
  by_cases h2 : 2 ≤ n
  · rw [if_pos h2, List.getElem?_modify, hl]
    by_cases hi : i + 2 = n
    · rw [if_neg (by omega), if_neg (by omega), if_pos hi, show n - 2 = i by omega]
      simp
    · simp [show n - 2 ≠ i by omega, hi]
  · rw [if_neg h2, hl, if_neg (by omega : ¬ i + 2 = n)]

theorem dropCar_length (h : 1 ≤ cars.length) : (dropCar cars).length + 1 = cars.length := by
  unfold dropCar
  simp only
  split_ifs <;> simp <;> omega

theorem getElem?_dropCar (h : i + 1 < cars.length) : (dropCar cars)[i]? =
    if i + 2 = cars.length then cars[i]?.map Car.clearCoupling else cars[i]? := by
  have hd : cars.dropLast[i]? = cars[i]? := by rw [List.getElem?_dropLast, if_pos (by omega)]
  have hne : cars.dropLast.isEmpty = false := by
    rw [List.isEmpty_eq_false_iff]
    intro e
    have := congrArg List.length e
    simp at this
    omega
  unfold dropCar
  simp only
  rw [hne, if_neg (by simp), List.getElem?_modify, hd, List.length_dropLast]
  by_cases hi : i + 2 = cars.length
  · rw [if_pos hi, show cars.length - 1 - 1 = i by omega]
    simp
  · simp [show cars.length - 1 - 1 ≠ i by omega, hi]

end

/-- Settles O30. -/
theorem carSetEditsTheTable : Obligations.CarSetEditsTheTable := by
  refine ⟨fun tag n form rest s h ha h0 h1 hlen => ?form, fun tag n r s h => ?refused, fun tag n r s h hs h1 h8 hn hc ht ht' hl => ?record,
    fun tag n s h hs h1 h8 => ⟨fun hn => ?lower, fun hn => ?delete⟩⟩
  case form =>
    have hframe := framesAreJudgedAtTheirEnd 0x05 tag (n :: form :: rest) (crc16 (coveredBytes 0x05 tag (n :: form :: rest))) s
      (by simp [hlen]) h.1 ha
    refine hframe.trans (congrArg Host.Outcome.next ?_)
    rw [if_neg (by have := h.2.1; simp; omega)]
    simp only [show bodyLength 0x05 = some 11 from rfl]
    rw [if_neg (by simp [hlen])]
    have hreq : requestOf 0x05 (n :: form :: rest) = .carBadForm n form := (if_neg h0).trans (if_neg h1)
    rw [hreq]
    exact takeKind_refuses h (serve := Answer.refused .badValue) rfl
  case refused =>
    refine ⟨fun hb => ?_, fun hb hs => ?_, fun hb hs hbad => ?_⟩
    · obtain ⟨hset, hdel⟩ := serveCarSet_of_number hb r s
      exact ⟨exec_refuses (exec_carSet tag n r s) h hset, exec_refuses (exec_carSetDelete tag n s) h hdel⟩
    · obtain ⟨hset, hdel⟩ := serveCarSet_outside_setup hb r hs
      exact ⟨exec_refuses (exec_carSet tag n r s) h hset, exec_refuses (exec_carSetDelete tag n s) h hdel⟩
    · exact exec_refuses (exec_carSet tag n r s) h (serveCarSet_of_bad hb hs hbad)
  case record =>
    obtain ⟨v, hserve, hv⟩ := serveCarSet_accepts hs h1 h8 hn hc ⟨ht, ht'⟩ hl
    obtain ⟨t, notices, hexec, hq, hcars, hg, hy, hp, hpins, hassign, hj⟩ := exec_tableEdit (exec_carSet tag n r s) h hserve hv
    have hlast : t.cars[n.toNat - 1]? = some (carOf r) := by
      rw [hcars, getElem?_placeCar h1 hn, if_pos (by omega)]
    refine ⟨t, notices, hexec, hq, by rw [hcars, placeCar_length h1 hn], hlast, fun i hi hi' => ?_, fun i c hi hi' => ?_, hg, hy, hp,
      hpins, hassign, fun k => ?_⟩
    · rw [hcars, getElem?_placeCar h1 hn, if_neg hi, if_neg hi']
    · rw [hcars, getElem?_placeCar h1 hn, if_neg (by omega), if_pos hi, hi']
      rfl
    · rw [hlast]
      exact hj k
  case lower => exact exec_refuses (exec_carSetDelete tag n s) h (serveCarDelete_of_lower hs h1 h8 hn)
  case delete =>
    obtain ⟨v, hserve, hv⟩ := serveCarDelete_accepts hs h1 h8 hn
    obtain ⟨t, notices, hexec, hq, hcars, hg, hy, hp, hpins, hassign, hj⟩ := exec_tableEdit (exec_carSetDelete tag n s) h hserve hv
    refine ⟨t, notices, hexec, hq, by rw [hcars, dropCar_length (by omega)], fun i hi => ?_, fun i c hi hi' => ?_, hg, hy, hp,
      hpins, hassign, hj⟩
    · rw [hcars, getElem?_dropCar (by omega), if_neg (by omega)]
    · rw [hcars, getElem?_dropCar (by omega), if_pos hi, hi']
      rfl

end Sys2Proof.Machine

/-! PROOF. The execution of a group command: its first checks (O42), RESETUP (O44), ENGAGE (O45), RUN and CONTINUE (O46), STOP (O48). -/

namespace Sys2Proof.Machine

-- One theorem after another, as in the tests: a thread each for this many proofs would pass the memory limit.
set_option Elab.async false

variable {s t : State} {c : GroupCommand} {tag : Byte} {n : Nat}

/-! ### The execution of a waiting command (R95) -/

/-- A waiting command executes. -/
theorem exec_execution (hw : Waiting c tag n s) : exec (c.row .execution) s =
    .next (settleBrakes (executeCommand { tag := tag, command := c } s)) := by
  obtain ⟨hr, hslot, -⟩ := hw
  rw [exec_row_execution, unlessReset_of_running hr]
  unfold executeWaiting
  rw [hslot]
  simp only [if_true]

/-- Past the first two checks. -/
theorem runCommand_taken (ht : takenIn c s.group.state = true) (hp : needsPermit c = true → s.group.permit = true) :
    runCommand c s = runChecked c s := by
  unfold runCommand
  rw [if_neg (by simp [ht]), if_neg (fun h => by simp [hp h.1] at h)]

theorem Waiting.room (hw : Waiting c tag n s) : RoomFor (n + 1) s := hw.2.2

theorem Waiting.brakes (hw : Waiting c tag n s) (hb : BrakesSafe s) (k : Sta) : BrakeSafe s (s.jack k) := hb hw.1 k

/-- The brake of a station stands as called for in another state that calls for the same. -/
theorem BrakeSafe.congr {j : Jack} (h : BrakeSafe s j) (hp : t.group.permit = s.group.permit)
    (hc : brakeCalled t.group.state j = brakeCalled s.group.state j) : BrakeSafe t j := by
  unfold BrakeSafe
  rw [hp, hc]
  exact h

/-- A refused command leaves the slot empty, its reply in the queue, and everything else as it was. -/
theorem exec_execution_unmoved {o : ReplyOutcome} {check index : Nat} {extra : List Byte} (hw : Waiting c tag n s) (hb : BrakesSafe s)
    (he : runCommand c (clearSlot s) = { state := clearSlot s, outcome := o, check := check, index := index, extra := extra }) :
    exec (c.row .execution) s = .next (answered 0xC0 tag o ([byteOf check, byteOf index, commandCode c, s.group.cycle] ++ extra)
      { s with group := { s.group with slot := none } }) := by
  have hraised : s.line.raised = [] := hw.room.2.2.1
  rw [exec_execution hw]
  unfold executeCommand
  simp only [he]
  rw [handOver_of_none (by exact hraised), settleBrakes_of_safe]
  · rfl
  · exact fun k => (hw.brakes hb k).congr rfl rfl

/-- A refusal without check number, index or further content. -/
theorem exec_execution_refused {o : ReplyOutcome} (hw : Waiting c tag n s) (hb : BrakesSafe s)
    (he : runCommand c (clearSlot s) = .refused o (clearSlot s)) : exec (c.row .execution) s =
    .next (answered 0xC0 tag o [0, 0, commandCode c, s.group.cycle] { s with group := { s.group with slot := none } }) :=
  exec_execution_unmoved hw hb he

/-- The state of a command that took effect, before its events are handed over. -/
theorem exec_execution_done (hw : Waiting c tag n s) (he : runCommand c (clearSlot s) = .done t) : exec (c.row .execution) s =
    .next (settleBrakes (handOver (answered 0xC0 tag .done [0, 0, commandCode c, t.group.cycle] t))) := by
  rw [exec_execution hw]
  unfold executeCommand
  simp only [he]
  rfl

/-- A command that took effect and raised one event: its notice follows the reply. -/
theorem exec_execution_one {e : Event} (hw : Waiting c tag (n + 1) s) (he : runCommand c (clearSlot s) = .done (raise e t))
    (hl : t.line = s.line) : exec (c.row .execution) s =
    .next (settleBrakes (noticed e (answered 0xC0 tag .done [0, 0, commandCode c, t.group.cycle] t))) := by
  have hroom : RoomFor (n + 1 + 1) t := by
    have := hw.room
    unfold RoomFor at this ⊢
    rwa [hl]
  rw [exec_execution_done hw he, ← handOver_raise e ((hroom.answered _ _ _ _).mono (by omega))]
  rfl

/-- A command that took effect and raised two events: their notices follow the reply in order. -/
theorem exec_execution_two {e f : Event} (hw : Waiting c tag (n + 2) s)
    (he : runCommand c (clearSlot s) = .done (raise f (raise e t))) (hl : t.line = s.line) : exec (c.row .execution) s =
    .next (settleBrakes (noticed f (noticed e (answered 0xC0 tag .done [0, 0, commandCode c, t.group.cycle] t)))) := by
  have hroom : RoomFor (n + 2 + 1) t := by
    have := hw.room
    unfold RoomFor at this ⊢
    rwa [hl]
  rw [exec_execution_done hw he, ← handOver_raise_raise e f ((hroom.answered _ _ _ _).mono (by omega))]
  rfl

/-! ### The first checks (R95) -/

/-- Settles O42. -/
theorem executionIsRefusedByStateAndPermit : Obligations.ExecutionIsRefusedByStateAndPermit := by
  intro c tag s hw hb taken refused
  have htaken : s.group.state ∈ taken ↔ takenIn c s.group.state = true := by
    cases c <;> simp [taken, takenIn, or_assoc]
  have hneeds : c ∈ [.engage, .run, .continueRun, .resume, .land] ↔ needsPermit c = true := by
    cases c <;> simp [needsPermit]
  rw [htaken, hneeds, Bool.not_eq_true]
  refine ⟨fun h => exec_execution_refused hw hb ?_, fun ht hn hp => exec_execution_refused hw hb ?_⟩
  · exact if_pos h
  · exact (if_neg (by simp [clearSlot, ht])).trans (if_pos ⟨hn, hp⟩)

/-! ### RESETUP (R97) -/

/-- With no trim in progress, ending them changes nothing. -/
theorem endTrims_of_none (h : ∀ k m, (s.jack k).record.move = some m → m.op ≠ .trim) : endTrims s = s :=
  forStations_keeps (P := fun t => t = s) (fun k t ht => by
    subst ht
    split
    · rename_i m hm
      exact if_neg (h k m hm)
    · rfl) rfl

theorem leaveStopped_of_none (h : ∀ k m, (s.jack k).record.move = some m → m.op ≠ .trim) : leaveStopped s = s := by
  unfold leaveStopped
  rw [endTrims_of_none h, ite_self]

/-- Settles O44. -/
theorem resetupReopensTheConfiguration : Obligations.ResetupReopensTheConfiguration := by
  intro tag s hw hb
  have hrun (ht : s.group.state = .prepared ∨ s.group.state = .stopped) :
      runCommand .resetup (clearSlot s) = runResetup (clearSlot s) :=
    runCommand_taken (by simpa [takenIn, clearSlot] using ht) nofun
  refine ⟨fun hstate hmoves => ?_, fun hstate hcontact => ?_⟩
  · have hleft : leaveStopped (clearSlot s) = clearSlot s := leaveStopped_of_none hmoves
    have hnot : ¬ ((clearSlot s).group.state = .stopped ∧ anyContact (clearSlot s) = true) := by
      obtain h | ⟨-, h⟩ := hstate
      · simp [clearSlot, h]
      · exact fun ⟨_, h'⟩ => by simp [show anyContact (clearSlot s) = anyContact s from rfl, h] at h'
    have hdone := exec_execution_one (n := 0) (e := .state s.group.state .setup)
      (t := { s with
        group := { s.group with slot := none, validated := false, cause := .none, state := .setup }
        sync := { s.sync with ref := 0, speed := 0, dir := .none } }) hw (by
          rw [hrun (hstate.imp id And.left)]
          unfold runResetup
          rw [if_neg hnot, hleft]
          rfl) rfl
    refine hdone.trans (congrArg _ (settleBrakes_of_safe fun k => (hw.brakes hb k).congr rfl ?_))
    obtain h | ⟨h, -⟩ := hstate <;> rw [h] <;> rfl
  · refine exec_execution_refused hw hb ((hrun (.inr hstate)).trans (if_pos ⟨hstate, hcontact⟩))

/-! ### STOP (R101), RUN and CONTINUE (R99) -/

/-- The states in which an ENGAGED station's brake is called for RELEASED call alike. -/
theorem brakeCalled_lifting {g h : GroupState} (hg : g ∈ [.poised, .moving, .holding, .stopping, .landing])
    (hh : h ∈ [.poised, .moving, .holding, .stopping, .landing]) (j : Jack) : brakeCalled g j = brakeCalled h j := by
  have key : ∀ g ∈ [GroupState.poised, .moving, .holding, .stopping, .landing], brakeCalled g j = brakeCalled .poised j := by
    simp [brakeCalled]
  rw [key g hg, key h hh]

/-- The direction and the dwell count at the start of a segment from speed 0. -/
theorem startedSync_of_rest {p : GroupParams} {g : Segment} {y : Sync} (h : y.speed = 0) : startedSync p g y = { y with
    dir := if g.kind = .dwell then .none else dirToward (effectiveTarget p g) y.ref
    dwell := if g.kind = .dwell then some (y.dwell.getD g.dwell) else y.dwell } := by
  unfold startedSync
  cases hk : g.kind <;> simp [h]

/-- The group enters MOVING with segment `g` starting. -/
def movingWith (g : Segment) (s : State) : State :=
  { s with
    group := { s.group with cause := .none, state := .moving }
    plan := { s.plan with segMode := some s.plan.mode }
    sync := startedSync s.group.params g s.sync }

theorem enterMoving_eq {g : Segment} (hg : s.plan.activeBank[s.sync.planPos]? = some g) : enterMoving s =
    if planLowNow s then raise (.planLow s.plan.active s.sync.planPos) (raise (.state s.group.state .moving) (movingWith g s))
    else raise (.state s.group.state .moving) (movingWith g s) := by
  have hseg : (enterGroup .moving (setCause .none s)).segment = some g := hg
  unfold enterMoving startSegment
  rw [hseg]
  rfl

/-- The execution of a command that enters MOVING. -/
theorem exec_execution_moving {g : Segment} {u : State} (hw : Waiting c tag 2 s)
    (he : runCommand c (clearSlot s) = .done (enterMoving u)) (hl : u.line = s.line)
    (hg : u.plan.activeBank[u.sync.planPos]? = some g) :
    let moving : State := noticed (.state u.group.state .moving)
      (answered 0xC0 tag .done [0, 0, commandCode c, u.group.cycle] (movingWith g u))
    exec (c.row .execution) s = .next (settleBrakes
      (if planLowNow u then noticed (.planLow u.plan.active u.sync.planPos) moving else moving)) := by
  intro moving
  rw [enterMoving_eq hg] at he
  split_ifs at he ⊢ with hlow
  · exact exec_execution_two (n := 0) hw he hl
  · exact exec_execution_one (n := 1) hw he hl

/-- Settles O46. -/
theorem runAndContinueStartTheSegment : Obligations.RunAndContinueStartTheSegment := by
  intro tag s hb hp c start hc hw hstart
  let u : State := { s with group := { s.group with slot := none, waitCount := if c = .run then 0 else s.group.waitCount } }
  obtain ⟨hlift, hrun⟩ : start ∈ [.poised, .moving, .holding, .stopping, .landing] ∧ runCommand c (clearSlot s) =
      if (clearSlot s).segment.isNone then .refused .empty (clearSlot s) else .done (enterMoving u) := by
    simp only [List.mem_cons, List.not_mem_nil, or_false, Prod.mk.injEq] at hc
    obtain ⟨rfl, rfl⟩ | ⟨rfl, rfl⟩ := hc <;>
      exact ⟨by simp, runCommand_taken (by simp [takenIn, clearSlot, hstart]) fun _ => hp⟩
  have hseg : (clearSlot s).segment = s.plan.activeBank[s.sync.planPos]? := rfl
  refine ⟨fun hlen => exec_execution_refused hw hb ?_, fun g hg hspeed => ?_⟩
  · rw [hrun, if_pos]
    rw [hseg, List.getElem?_eq_none hlen]
    rfl
  · intro target low moving
    rw [if_neg (by rw [hseg, hg]; simp)] at hrun
    have hsync : startedSync s.group.params g s.sync = { s.sync with
        dir := if g.kind = .dwell then .none
          else if s.sync.ref < target then .up else if target < s.sync.ref then .down else .none
        dwell := if g.kind = .dwell then some (s.sync.dwell.getD g.dwell) else s.sync.dwell } := startedSync_of_rest hspeed
    have hmoving : noticed (.state u.group.state .moving)
        (answered 0xC0 tag .done [0, 0, commandCode c, u.group.cycle] (movingWith g u)) = moving := by
      show noticed (.state s.group.state .moving) (answered 0xC0 tag .done [0, 0, commandCode c, s.group.cycle]
        { s with
          group := { s.group with
            slot := none, cause := .none, state := .moving
            waitCount := if c = .run then 0 else s.group.waitCount }
          plan := { s.plan with segMode := some s.plan.mode }
          sync := startedSync s.group.params g s.sync }) = _
      rw [hsync, hstart]
    refine (exec_execution_moving hw hrun rfl hg).trans (congrArg _ ?_)
    simp only [hmoving]
    refine settleBrakes_of_safe fun k => ?_
    have hcall := brakeCalled_lifting (g := .moving) (by simp) hlift (s.jack k)
    rw [← hstart] at hcall
    split_ifs <;> exact (hw.brakes hb k).congr rfl hcall

/-! ### ENGAGE (R98, R142) -/

/-- A brake that stands as called for is what settling makes of it. -/
theorem settledBrake_of_safe {j : Jack} (h : BrakeSafe s j) : settledBrake s.group.permit s.group.state j = j.gen.brake := by
  obtain ⟨hlow, hreleased, happlied⟩ := h
  unfold settledBrake
  cases hp : s.group.permit with
  | false => exact (hlow hp).symm
  | true =>
    cases hc : brakeCalled s.group.state j with
    | released => exact (hreleased hp hc).symm
    | applied =>
      cases hr : j.gen.run with
      | idle => simpa [Generator.running, hr] using (happlied hp hc hr).symm
      | rate => simp [Generator.running, hr]
      | counted => simp [Generator.running, hr]

/-- A station taken into SEEKING, its brake settled in ENGAGING. -/
theorem settled_seek {j t : Jack} (h : settledBrake true .prepared j = j.gen.brake)
    (ht : t = if j.isIn .idle then { j with record := j.record.toSeeking j.latchedHeight } else j) :
    ({ t with gen := { t.gen with brake := settledBrake true .engaging t } } : Jack) = if j.record.state = .idle then
      { j with
        record := { j.record with
          state := .seeking, start := some j.latchedHeight, attempts := 0, confirm := 0, contact := none }
        gen := { j.gen with brake := .released } } else j := by
  by_cases hi : j.record.state = .idle
  · rw [ht, if_pos (by simp [Jack.isIn, hi]), if_pos hi]
    rfl
  · rw [ht, if_neg (by simp [Jack.isIn, hi]), if_neg hi]
    show ({ j with gen := { j.gen with brake := settledBrake true .prepared j } } : Jack) = j
    rw [h]

/-- Settles O45. -/
theorem engageTakesEveryStationIntoSeeking : Obligations.EngageTakesEveryStationIntoSeeking := by
  intro tag s hw hb hstate hp refused idle known closed
  have hrun : runCommand .engage (clearSlot s) = runEngage (clearSlot s) :=
    runCommand_taken (by simp [takenIn, clearSlot, hstate]) fun _ => hp
  have hidle : allAssigned (clearSlot s) (fun j => j.isIn .idle) = true ↔ idle := by
    rw [allAssigned_iff]
    simp [idle, Jack.isIn, Jack.assigned, clearSlot, State.jack]
  have hknown : allAssigned (clearSlot s) (fun j => j.record.datumKnown) = true ↔ known := by
    rw [allAssigned_iff]
    simp [known, Jack.assigned, clearSlot, State.jack]
  have hclosed : anyJack (clearSlot s) (fun j => j.mon.gateOpen) = false ↔ closed := by
    simp [closed, anyJack, clearSlot, State.jack, Sta.all]
  rw [← hidle, ← hknown, ← hclosed, Bool.not_eq_true, Bool.not_eq_true, Bool.not_eq_false]
  refine ⟨fun h => exec_execution_refused hw hb (hrun.trans (if_pos h)), fun h h' => exec_execution_refused hw hb (hrun.trans ?_),
    fun h h' h'' => exec_execution_refused hw hb (hrun.trans ?_), fun h h' h'' => ?_⟩
  · exact (if_neg (by simp [h])).trans (if_pos h')
  · exact (if_neg (by simp [h])).trans ((if_neg (by simp [h'])).trans (if_pos h''))
  · have he : runEngage (clearSlot s) = .done (raise (.state s.group.state .engaging) (seekAll
        { s with group := { s.group with slot := none, cause := .none, waitCount := 0, state := .engaging } })) :=
      (if_neg (by simp [h])).trans ((if_neg (by simp [h'])).trans (if_neg (by simp [h''])))
    refine (exec_execution_one (n := 0) hw (hrun.trans he) rfl).trans (congrArg _ ?_)
    rw [hstate]
    refine State.ext_jack (fun k => ?_) rfl rfl rfl rfl rfl rfl rfl rfl
    have hsafe := settledBrake_of_safe (hw.brakes hb k)
    rw [hstate, hp] at hsafe
    rw [settleBrakes_jack]
    refine Eq.trans ?_ (updAll_jack s k _).symm
    have hseek := settled_seek hsafe (seekAll_jack s k)
    rw [← hp] at hseek
    exact hseek

/-- Settles the STOP part of O48. -/
theorem exec_stop_execution (hw : Waiting .stop tag 1 s) (hb : BrakesSafe s)
    (hstate : s.group.state = .poised ∨ s.group.state = .moving ∨ s.group.state = .holding) :
    exec (GroupCommand.stop.row .execution) s = .next (noticed (.state s.group.state .stopping)
      (answered 0xC0 tag .done [0, 0, 0x06, s.group.cycle]
        { s with group := { s.group with slot := none, cause := .command, state := .stopping, ratesForced := false } })) := by
  have hrun : runCommand .stop (clearSlot s) = .done (raise (.state s.group.state .stopping)
      { s with group := { s.group with slot := none, cause := .command, state := .stopping, ratesForced := false } }) := by
    rw [runCommand_taken (by simpa [takenIn, clearSlot, or_assoc] using hstate) (by simp [needsPermit])]
    show Executed.done (enterStopping _) = _
    unfold enterStopping
    rw [if_neg (by show s.group.state ≠ .stopping; rcases hstate with h | h | h <;> simp [h])]
    rfl
  refine (exec_execution_one (n := 0) hw hrun rfl).trans (congrArg _ (settleBrakes_of_safe fun k => (hw.brakes hb k).congr rfl ?_))
  refine brakeCalled_lifting (by simp [answered, noticed]) ?_ _
  rcases hstate with h | h | h <;> simp [h]

end Sys2Proof.Machine

/-! PROOF. Events raised and reported, and the commands that end the trims in progress: LAND (O48) and RESUME (O47). -/

namespace Sys2Proof.Machine

-- One theorem after another, as in the tests: a thread each for this many proofs would pass the memory limit.
set_option Elab.async false

variable {s t u : State} {c : GroupCommand} {tag : Byte} {n : Nat} {k : Sta}

/-! ### Events on their way to the transmit queue (R181, R182) -/

/-- The event `e` of cycle `c` is reported, or waits to be handed over. -/
def Told (e : Event) (c : Byte) (t : State) : Prop := Reported e c t ∨ { event := e, cycle := c } ∈ t.line.raised

/-- From `s` to `t` no event on its way is lost. -/
def Tells (s t : State) : Prop := ∀ e c, Told e c s → Told e c t

theorem Tells.refl (s : State) : Tells s s := fun _ _ h => h

theorem Tells.trans (h : Tells s t) (g : Tells t u) : Tells s u := fun e c he => g e c (h e c he)

theorem Tells.of_raises (h : Raises s t) : Tells s t := by
  obtain ⟨l, hl⟩ := h
  intro e c he
  refine he.imp (fun hr => ?_) (fun hr => ?_)
  · unfold Reported
    rw [hl]
    exact hr
  · rw [hl]
    exact List.mem_append_left _ hr

theorem Tells.of_line (h : t.line = s.line) : Tells s t := .of_raises (.of_line h)

theorem Tells.raise (e : Event) (s : State) : Tells s (raise e s) := .of_raises (.raise e s)

theorem told_raise (e : Event) (s : State) : Told e s.group.cycle (raise e s) := .inr (by simp [raise])

theorem told_enterGroup (g : GroupState) (s : State) : Told (.state s.group.state g) s.group.cycle (enterGroup g s) := by
  right
  rw [enterGroup_line]
  exact List.mem_append_right _ (List.mem_singleton_self _)

theorem Tells.enqueue (f : Frame) (s : State) : Tells s (enqueue f s) := fun _ _ h =>
  h.imp (Or.imp (fun ⟨f, hf, hp⟩ => ⟨f, List.mem_append_left _ hf, hp⟩) id) id

theorem mem_insertPending (p q : PendingEvent) (l : List PendingEvent) : q ∈ insertPending p l ↔ q = p ∨ q ∈ l := by
  induction l with
  | nil => simp [insertPending]
  | cons x l ih =>
    unfold insertPending
    split_ifs
    · simp
    · simp [ih, or_left_comm]

/-- An event handed over loses no report. -/
theorem Reported.handEvent {e : Event} {c : Byte} (h : Reported e c s) (r : Raised) : Reported e c (handEvent r s) := by
  obtain ⟨-, he⟩ | ⟨-, -, -, he⟩ | ⟨-, -, he⟩ := handEvent_cases r s <;> rw [he]
  · refine h.imp id fun ⟨p, hp, hk⟩ => ⟨_, List.mem_map_of_mem hp, ?_⟩
    split_ifs <;> exact hk
  · exact h.imp (fun ⟨f, hf, hb⟩ => ⟨f, List.mem_append_left _ hf, hb⟩) id
  · exact h.imp id fun ⟨p, hp, hk⟩ => ⟨p, (mem_insertPending _ p _).mpr (.inr hp), hk⟩

/-- An event handed over is reported. -/
theorem reported_handEvent (r : Raised) (s : State) : Reported r.event r.cycle (handEvent r s) := by
  obtain ⟨ha, he⟩ | ⟨-, -, -, he⟩ | ⟨-, -, he⟩ := handEvent_cases r s <;> rw [he]
  · obtain ⟨p, hp, hk⟩ := List.any_eq_true.mp ha
    have hk' : p.raised.event.priority = r.event.priority := by simpa [sameKind] using hk
    exact .inr ⟨_, List.mem_map_of_mem hp, by split_ifs; all_goals exact hk'⟩
  · exact .inl ⟨eventFrame r false s, List.mem_append_right _ (List.mem_singleton_self _), rfl, rfl⟩
  · exact .inr ⟨_, (mem_insertPending _ _ _).mpr (.inl rfl), rfl⟩

/-- Once handed over, every event on its way is reported. -/
theorem Told.handOver {e : Event} {c : Byte} (h : Told e c s) : Reported e c (handOver s) := by
  have key (l : List Raised) (t : State) (ht : Reported e c t ∨ { event := e, cycle := c } ∈ l) :
      Reported e c (l.foldl (fun t r => Machine.handEvent r t) t) := by
    induction l generalizing t with
    | nil => exact ht.resolve_right (by simp)
    | cons r l ih =>
      refine ih _ ?_
      obtain ht | ht := ht
      · exact .inl (ht.handEvent r)
      · obtain rfl | ht := List.mem_cons.mp ht
        · exact .inl (reported_handEvent _ t)
        · exact .inr ht
  exact key s.line.raised { s with line := { s.line with raised := [] } } h

theorem Tells.handOver (s : State) : Tells s (handOver s) := fun _ _ h => .inl h.handOver

/-- Work carried out for every station, that leaves `P` standing until it comes to station `k`, makes of it `Q` there, and leaves `Q`
standing. -/
theorem forStations_reaches {P Q : State → Prop} {f : Sta → State → State} (k : Sta) (hP : ∀ i t, i ≠ k → P t → P (f i t))
    (hk : ∀ t, P t → Q (f k t)) (hQ : ∀ i t, Q t → Q (f i t)) (hs : P s) : Q (forStations f s) := by
  have keep (l : List Sta) (t : State) (ht : Q t) : Q (l.foldl (fun t k => f k t) t) := by
    induction l generalizing t with
    | nil => exact ht
    | cons i l ih => exact ih _ (hQ i t ht)
  have key (l : List Sta) (t : State) (hmem : k ∈ l) (ht : P t) : Q (l.foldl (fun t k => f k t) t) := by
    induction l generalizing t with
    | nil => cases hmem
    | cons i l ih =>
      by_cases hi : i = k
      · subst hi
        exact keep l _ (hk t ht)
      · exact ih _ ((List.mem_cons.mp hmem).resolve_left (Ne.symm hi)) (hP i t hi ht)
  exact key Sta.all s (Sta.mem_all k) hs

/-! ### The end of every trim in progress (R12) -/

/-- A station whose trim, unless it has ended before, ends in the stop form. -/
def Jack.trimEnded (j : Jack) : Jack :=
  match j.record.move with
  | some m => if m.op = .trim then j.moveStopped else j
  | none => j

/-- One station's trim ended. -/
def endTrim (k : Sta) (t : State) : State :=
  match (t.jack k).record.move with
  | some m => if m.op = .trim then stopMove k .aborted t else t
  | none => t

theorem endTrim_jack (k : Sta) (t : State) (i : Sta) : (endTrim k t).jack i = if i = k then (t.jack i).trimEnded else t.jack i := by
  unfold endTrim Jack.trimEnded
  by_cases h : i = k
  · subst h
    rw [if_pos rfl]
    cases (t.jack i).record.move with
    | none => rfl
    | some m =>
      simp only
      split_ifs
      · rw [stopMove_jack, if_pos rfl]
      · rfl
  · rw [if_neg h]
    split
    · split_ifs
      · exact stopMove_jack_ne _ t h
      · rfl
    · rfl

theorem endTrims_jack (s : State) (k : Sta) : (endTrims s).jack k = (s.jack k).trimEnded :=
  forStations_jack_of (P := fun _ => True) (g := fun _ => Jack.trimEnded) (fun k t _ => ⟨trivial, endTrim_jack k t⟩) trivial k

theorem Raises.stopMove (k : Sta) (r : OpResult) (s : State) : Raises s (stopMove k r s) := by
  unfold Machine.stopMove
  split
  · exact .refl s
  · split_ifs
    · exact .refl s
    · exact Raises.raise (.stationDone k _ r) ((s.updGen k Generator.stopForm).updRec k _)

theorem Raises.endTrim (k : Sta) (s : State) : Raises s (endTrim k s) := by
  unfold Machine.endTrim
  split
  · split_ifs
    · exact .stopMove k _ s
    · exact .refl s
  · exact .refl s

theorem Raises.endTrims (s : State) : Raises s (endTrims s) := .forStations .endTrim s

/-- A station's trim is in progress. -/
def Jack.trimOpen (j : Jack) : Bool := j.record.move.any (fun m => m.op == .trim && !m.done)

/-- The end of a trim in progress is told. -/
theorem told_endTrims (h : (s.jack k).trimOpen = true) : Told (.stationDone k .trim .aborted) s.group.cycle (endTrims s) := by
  refine forStations_reaches (P := fun t => t.jack k = s.jack k ∧ t.group = s.group) k (fun i t hi ht => ?_) (fun t ht => ?_)
    (fun i t ht => Tells.of_raises (.endTrim i t) _ _ ht) ⟨rfl, rfl⟩
  · refine ⟨(endTrim_jack i t k).trans ((if_neg (Ne.symm hi)).trans ht.1), Eq.trans ?_ ht.2⟩
    split
    · split_ifs
      · exact stopMove_group i _ t
      · rfl
    · rfl
  · obtain ⟨hj, hg⟩ := ht
    unfold Jack.trimOpen at h
    obtain ⟨m, hm, hop, hdone⟩ : ∃ m, (s.jack k).record.move = some m ∧ m.op = .trim ∧ m.done = false := by
      simpa [Option.any_eq_true] using h
    show Told _ _ (endTrim k t)
    unfold endTrim
    rw [hj, hm]
    simp only
    rw [if_pos hop]
    unfold stopMove
    rw [hj, hm]
    simp only [hdone, Bool.false_eq_true, if_false, hop, ← hg]
    exact told_raise (.stationDone k .trim .aborted) _

/-- What the end of a trim leaves of a station. -/
theorem Jack.trimEnded_eq (j : Jack) : j.trimEnded = { j with
    record := { j.record with move := j.record.move.map (fun m => { m with done := m.done || m.op == .trim }) }
    gen := if j.trimOpen then j.gen.stopForm else j.gen } := by
  unfold Jack.trimEnded Jack.trimOpen
  obtain ⟨r, g, _⟩ := j
  obtain ⟨st, se, po, dk, ct, sta, att, cf, fk, pr, m⟩ := r
  cases m with
  | none => rfl
  | some m =>
    obtain ⟨op, uf, d⟩ := m
    by_cases ho : op = .trim
    · subst ho
      cases d <;> simp [Jack.moveStopped]
    · simp [ho]

/-! ### A command that took effect, whatever waits before its events -/

/-- What the execution of a command that took effect leaves: its work's state with the brakes settled, its reply in the first free
place, and every event on its way reported. -/
theorem exec_execution_reports (hw : Waiting c tag n s) (he : runCommand c (clearSlot s) = .done t)
    (hcycle : t.group.cycle = s.group.cycle) : ∃ u, exec (c.row .execution) s = .next u ∧ u.cars = t.cars ∧ u.plan = t.plan ∧
      u.group = t.group ∧ u.sync = t.sync ∧
      u.line.queue[s.line.queue.length]? = some
        { cls := .reply, kind := 0xC0, tag := tag
          body := 0x00 :: bytes2 (summary { u with line := s.line }) ++ [0, 0, commandCode c, s.group.cycle] } ∧
      (∀ e x, Told e x t → Reported e x u) ∧
      ∀ k, u.jack k = { t.jack k with gen := { (t.jack k).gen with brake := settledBrake t.group.permit t.group.state (t.jack k) } } := by
  have hline : t.line = { s.line with raised := t.line.raised } := by
    have := (Quiet.runCommand c (clearSlot s)).1
    rwa [he] at this
  let v := answered 0xC0 tag .done [0, 0, commandCode c, t.group.cycle] t
  refine ⟨settleBrakes (handOver v), exec_execution_done hw he, by simp [v, answered], by simp [v, answered], by simp [v, answered],
    by simp [v, answered], ?_, fun e x h => ?_, fun k => ?_⟩
  · obtain ⟨l, hl⟩ := handOver_queue v
    have hq : v.line.queue = s.line.queue ++ [{ cls := .reply, kind := 0xC0, tag := tag
                                                body := outcomeCode .done :: bytes2 (summary t) ++
                                                  [0, 0, commandCode c, t.group.cycle] }] := by
      show t.line.queue ++ _ = _
      rw [show t.line.queue = s.line.queue from (congrArg Line.queue hline).trans rfl]
    have hsum : summary t = summary { settleBrakes (handOver v) with line := s.line } := by
      refine summary_congr ?_ ?_ ?_ ((congrArg Line.cold hline).trans rfl) ((congrArg Line.pending hline).trans rfl) ?_ ?_ <;> simp [v, answered]
    rw [settleBrakes_line, hl, hq, List.append_assoc, List.getElem?_append_right (Nat.le_refl _), Nat.sub_self, hsum, hcycle]
    rfl
  · exact Told.handOver (Tells.enqueue _ t e x h)
  · rw [settleBrakes_jack, handOver_group, handOver_jack]
    rfl

/-- The brakes of a group that leaves STOPPED for a lift: those of the ENGAGED stations are released, and the others stand. -/
theorem settledBrake_trimEnded {j : Jack} {g : GroupState} (h : settledBrake true .stopped j = j.gen.brake)
    (hg : g ∈ [.poised, .moving, .holding, .stopping, .landing]) : settledBrake true g j.trimEnded =
      if j.record.state = .engaged then .released else j.gen.brake := by
  have hmoves : j.trimEnded.movesWhileFaulted = j.movesWhileFaulted := by
    rw [Jack.trimEnded_eq]
    unfold Jack.movesWhileFaulted Jack.isIn Generator.running
    have hrun : (if j.trimOpen then j.gen.stopForm else j.gen).run = j.gen.run := by
      split_ifs
      · rw [Generator.stopForm_same]
      · rfl
    simp only [hrun]
    cases j.record.move <;> rfl
  have hkeep : j.trimEnded.gen.brake = j.gen.brake ∧ j.trimEnded.gen.running = j.gen.running ∧ j.trimEnded.record.state = j.record.state := by
    rw [Jack.trimEnded_eq]
    refine ⟨?_, ?_, rfl⟩ <;> simp only <;> split_ifs <;> try rw [Generator.stopForm_same]
    all_goals rfl
  obtain ⟨hbrake, hrunning, hstate⟩ := hkeep
  rw [← h]
  by_cases he : j.record.state = .engaged
  · rw [if_pos he, settledBrake, brakeCalled_lifting hg (h := .poised) (by simp), brakeCalled, hstate, he]
    rfl
  · rw [if_neg he]
    have hcall : brakeCalled g j.trimEnded = brakeCalled .stopped j := by
      unfold brakeCalled
      rw [hstate, hmoves]
      cases hj : j.record.state <;> simp_all
    simp only [settledBrake, hcall, hbrake, hrunning]

/-- A station of a group that leaves STOPPED for a lift, every trim ended and the brakes settled. -/
def Jack.trimLeft (j : Jack) : Jack :=
  { j.trimEnded with gen := { j.trimEnded.gen with brake := if j.record.state = .engaged then .released else j.gen.brake } }

theorem Jack.trimLeft_eq (j : Jack) : j.trimLeft = { j with
    record := { j.record with move := j.record.move.map (fun m => { m with done := m.done || m.op == .trim }) }
    gen := { (if j.trimOpen then j.gen.stopForm else j.gen) with
      brake := if j.record.state = .engaged then .released else j.gen.brake } } := by
  unfold Jack.trimLeft
  rw [Jack.trimEnded_eq]

/-- Settled after it leaves STOPPED for a lift, a group without a counted move in progress has the brakes of its ENGAGED stations
released. -/
theorem settleBrakes_leftStopped (h : ∀ k, settledBrake true .stopped (s.jack k) = (s.jack k).gen.brake)
    (hm : ∀ k, (s.jack k).record.move = none) (hj : t.jacks = s.jacks) (hp : t.group.permit = true)
    (hg : t.group.state ∈ [.poised, .moving, .holding, .stopping, .landing]) : settleBrakes t =
      t.updAll (fun _ j => if j.record.state = .engaged then { j with gen := { j.gen with brake := .released } } else j) := by
  refine State.ext_jack (fun k => ?_) rfl rfl rfl rfl rfl rfl rfl rfl
  have hk : t.jack k = s.jack k := congrArg (·.get k) hj
  have hnone : (s.jack k).trimEnded = s.jack k := by
    unfold Jack.trimEnded
    rw [hm k]
  have hsettled := settledBrake_trimEnded (h k) hg
  rw [hnone] at hsettled
  rw [settleBrakes_jack, updAll_jack, hk, hp, hsettled]
  split_ifs <;> rfl

theorem settledBrake_of_stopped (hb : ∀ k, BrakeSafe s (s.jack k)) (hs : s.group.state = .stopped) (hp : s.group.permit = true) (k : Sta) :
    settledBrake true .stopped (s.jack k) = (s.jack k).gen.brake := by
  have := settledBrake_of_safe (hb k)
  rwa [hs, hp] at this

/-- What a command leaves of the stations of a group that leaves STOPPED for a lift. -/
theorem trimLeft_reports {x : State} {e : GroupState} (hb : ∀ k, BrakeSafe s (s.jack k)) (hs : s.group.state = .stopped)
    (hp : s.group.permit = true) (he : e ∈ [.poised, .moving, .holding, .stopping, .landing]) {k : Sta}
    (hx : x.jack k = (s.jack k).trimEnded) : ({ x.jack k with gen := { (x.jack k).gen with
      brake := settledBrake true e (x.jack k) } } : Jack) = (s.jack k).trimLeft := by
  rw [hx, settledBrake_trimEnded (settledBrake_of_stopped hb hs hp k) he]
  rfl

/-! ### LAND (R100, R129) -/

theorem allIdle_iff (s : State) : allAssigned s (fun j => j.isIn .idle) = true ↔
    ∀ k, (s.jack k).record.state = .idle ∨ (s.jack k).record.state = .unassigned := by
  rw [allAssigned_iff]
  refine forall_congr' fun k => ?_
  cases h : (s.jack k).record.state <;> simp [Jack.isIn, h]

theorem anyFaulted_iff (s : State) : anyJack s (fun j => j.isIn .faulted) = true ↔ ∃ k, (s.jack k).record.state = .faulted := by
  simp [anyJack, Jack.isIn]

/-- The descent begun in LANDING. -/
def landed (s : State) : State := { s with
  group := { s.group with cause := .none, state := .landing }
  sync := { s.sync with descent := true, speed := 0, dir := if 0 < s.sync.ref then .down else .none } }

theorem landed_jack (s : State) (k : Sta) : (landed s).jack k = s.jack k := rfl

theorem tells_landed (e : Event) (s : State) : Tells s (raise e (landed s)) :=
  (Tells.of_line (t := landed s) rfl).trans (.raise e _)

theorem runLand_eq (hf : s.group.state = .stopped → ∀ k, (s.jack k).record.state ≠ .faulted)
    (hi : ∃ k, (s.jack k).record.state ≠ .idle ∧ (s.jack k).record.state ≠ .unassigned) : runLand s =
      .done (raise (.state s.group.state .landing) (landed (leaveStopped s))) := by
  have hnot : ¬ (s.group.state = .stopped ∧ anyJack s (fun j => j.isIn .faulted) = true) := by
    rw [anyFaulted_iff]
    exact fun ⟨h, k, hk⟩ => hf h k hk
  have hstate (k : Sta) : ((leaveStopped s).jack k).record.state = (s.jack k).record.state := by
    unfold leaveStopped
    split_ifs
    · rw [endTrims_jack, Jack.trimEnded_eq]
    · rfl
  have hgroup : (leaveStopped s).group = s.group := by
    unfold leaveStopped
    split_ifs
    · exact endTrims_group s
    · rfl
  have heq : beginDescent (enterGroup .landing (setCause .none (leaveStopped s))) =
      raise (.state s.group.state .landing) (landed (leaveStopped s)) := by
    rw [← hgroup]
    rfl
  unfold runLand
  rw [if_neg hnot]
  simp only [heq]
  rw [if_neg]
  rw [allIdle_iff]
  obtain ⟨k, h1, h2⟩ := hi
  exact fun h => (h k).elim (fun h => h1 ((hstate k).symm.trans h)) (fun h => h2 ((hstate k).symm.trans h))

/-- Settles O48. -/
theorem stopAndLandLeaveTheLift : Obligations.StopAndLandLeaveTheLift := by
  refine ⟨fun tag s hw hb hstate => exec_stop_execution hw hb hstate, fun tag s hb hp => ?_⟩
  have hrun (hs : s.group.state ∈ [.poised, .holding, .stopped]) : runCommand .land (clearSlot s) = runLand (clearSlot s) :=
    runCommand_taken (by simpa [takenIn, clearSlot, or_assoc] using hs) fun _ => hp
  refine ⟨fun hw hstate hi => ?lift, fun hw hstate hf => ?faulted, fun hw hstate hf hm hi => ?still,
    fun hw hstate hf hi => ?trims, fun hw hstate hi hm => ?through⟩
  case lift =>
    have hstopped : s.group.state ≠ .stopped := by obtain h | h := hstate <;> simp [h]
    have he : runCommand .land (clearSlot s) = .done (raise (.state s.group.state .landing) (landed (clearSlot s))) := by
      have hleft : leaveStopped (clearSlot s) = clearSlot s := if_neg hstopped
      rw [hrun (by obtain h | h := hstate <;> simp [h]), runLand_eq (s := clearSlot s) (fun h => absurd h hstopped) hi, hleft]
      rfl
    refine (exec_execution_one (n := 0) hw he rfl).trans (congrArg _ (settleBrakes_of_safe fun k => (hw.brakes hb k).congr rfl ?_))
    exact brakeCalled_lifting (by simp [answered, noticed, landed]) (by obtain h | h := hstate <;> simp [h]) _
  case faulted =>
    refine exec_execution_refused hw hb ((hrun (by simp [hstate])).trans (if_pos ⟨hstate, ?_⟩))
    exact (anyFaulted_iff s).mpr hf
  case still =>
    have he : runCommand .land (clearSlot s) = .done (raise (.state .stopped .landing) (landed (clearSlot s))) := by
      rw [hrun (by simp [hstate]), runLand_eq (s := clearSlot s) (fun _ => hf) hi, leaveStopped_of_none (fun k m h => by
        rw [show ((clearSlot s).jack k).record.move = none from hm k] at h
        cases h), ← hstate]
      rfl
    intro landing
    exact (exec_execution_one (n := 0) hw he rfl).trans (congrArg _
      (settleBrakes_leftStopped (settledBrake_of_stopped (hw.brakes hb) hstate hp) hm rfl hp (by simp [answered, noticed, landed])))
  case trims =>
    intro trims
    have he : runCommand .land (clearSlot s) = .done (raise (.state .stopped .landing) (landed (endTrims (clearSlot s)))) := by
      have hleft : leaveStopped (clearSlot s) = endTrims (clearSlot s) := if_pos hstate
      rw [hrun (by simp [hstate]), runLand_eq (s := clearSlot s) (fun _ => hf) hi, hleft, ← hstate]
      rfl
    obtain ⟨u, hexec, hcars, hplan, hgroup, hsync, hqueue, hreport, hjack⟩ := exec_execution_reports hw he (by simp [landed, clearSlot])
    refine ⟨u, hexec, ?_, ?_, ?_, ?_, hqueue, ?_, fun k => ?_⟩
    · simp [hcars, landed, clearSlot]
    · simp [hplan, landed, clearSlot]
    · simp [hgroup, landed, clearSlot]
    · simp [hsync, landed, clearSlot]
    · refine hreport _ _ ?_
      have := told_raise (.state .stopped .landing) (landed (endTrims (clearSlot s)))
      simpa [landed, clearSlot] using this
    · have hk : u.jack k = (s.jack k).trimLeft := by
        rw [hjack k]
        have hpermit : (landed (endTrims (clearSlot s))).group.permit = true := by simpa [landed, clearSlot] using hp
        rw [raise_group, hpermit]
        refine trimLeft_reports (e := .landing) (hw.brakes hb) hstate hp (by simp) ?_
        rw [raise_jack, landed_jack, endTrims_jack]
        rfl
      rw [hk, Jack.trimLeft_eq]
      refine ⟨rfl, rfl, rfl, fun h => hreport _ _ ?_, rfl, ?_⟩
      · exact tells_landed _ _ _ _ (told_endTrims (s := clearSlot s) h)
      · show (({ (if trims (s.jack k) = true then (s.jack k).gen.stopForm else (s.jack k).gen) with brake := _ } : Generator)) = _
        generalize (s.jack k).gen = g
        obtain ⟨run, divisor, dir, pending, remaining, ceiling, brake, stepHigh, dirHigh⟩ := g
        cases trims (s.jack k) with
        | false => rfl
        | true =>
          cases run with
          | idle => rfl
          | counted => rfl
          | rate => rcases pending with _ | _ | _ | _ <;> rfl
  case through =>
    have he : runCommand .land (clearSlot s) = .done (raise (.state .landing .prepared) (raise (.state .stopped .landing) { s with
        group := { s.group with slot := none, cause := .none, state := .prepared }
        sync := { s.sync with descent := false, ref := 0, speed := 0, dir := .none } })) := by
      have hleft : leaveStopped (clearSlot s) = clearSlot s := leaveStopped_of_none (fun k m h => by
        rw [show ((clearSlot s).jack k).record.move = none from hm k] at h
        cases h)
      rw [hrun (by simp [hstate])]
      unfold runLand
      rw [if_neg, hleft]
      · simp only
        rw [if_pos]
        · rw [← hstate]
          rfl
        · exact (allIdle_iff s).mpr hi
      · rw [anyFaulted_iff]
        rintro ⟨-, k, hk⟩
        obtain h | h := hi k <;> · rw [show ((clearSlot s).jack k) = s.jack k from rfl, h] at hk; cases hk
    refine (exec_execution_two (n := 0) hw he rfl).trans (congrArg _ (settleBrakes_of_safe fun k => (hw.brakes hb k).congr rfl ?_))
    show brakeCalled .prepared (s.jack k) = _
    rw [hstate]
    rfl

/-! ### RESUME (R100, R122, R12) -/

theorem resumes_iff (s : State) : allAssigned s (fun j => j.isIn .engaged || j.isIn .trimming) = true ↔
    ∀ k, (s.jack k).record.state ∈ [.engaged, .trimming, .unassigned] := by
  rw [allAssigned_iff]
  refine forall_congr' fun k => ?_
  cases h : (s.jack k).record.state <;> simp [Jack.isIn, h]

/-- The group in MOVING from the present reference, with its segment starting, or in HOLDING without one. -/
def resumed (g : Option Segment) (s : State) : State :=
  match g with
  | some g => movingWith g (freezeReference s)
  | none => { s with
      group := { s.group with cause := .none, state := .holding }
      sync := { s.sync with speed := 0, dir := .none } }

theorem resumed_group (g : Option Segment) (s : State) : (resumed g s).group =
    { s.group with cause := .none, state := if g.isSome then .moving else .holding } := by cases g <;> rfl

theorem resumed_plan (g : Option Segment) (s : State) : (resumed g s).plan =
    { s.plan with segMode := if g.isSome then some s.plan.mode else s.plan.segMode } := by cases g <;> rfl

/-- The synchronisation unit's items at the start of a segment from rest, or without one. -/
def startedOr (p : GroupParams) (g : Option Segment) (y : Sync) : Sync :=
  match g with
  | some g => startedSync p g { y with speed := 0 }
  | none => { y with speed := 0, dir := .none }

theorem resumed_sync (g : Option Segment) (s : State) : (resumed g s).sync = startedOr s.group.params g s.sync := by
  cases g <;> rfl

/-- The events of RESUME, raised in the state it leaves. -/
def resumeRaised (low : Bool) (g : Option Segment) (s : State) : State :=
  let t := raise (.state s.group.state (if g.isSome then .moving else .holding)) (resumed g s)
  if low then raise (.planLow s.plan.active s.sync.planPos) t else t

theorem enterHolding_eq (s : State) : enterHolding (setCause .none s) = resumeRaised false none s := rfl

theorem enterMoving_resumed {g : Segment} (hg : s.plan.activeBank[s.sync.planPos]? = some g) :
    enterMoving (freezeReference s) = resumeRaised (planLowNow s) (some g) s :=
  enterMoving_eq (s := freezeReference s) hg

theorem runResume_eq (hs : s.group.state = .stopped) (ha : ∀ k, (s.jack k).record.state ∈ [.engaged, .trimming, .unassigned]) :
    runResume s = .done (resumeRaised (planLowNow s) s.segment (endTrims s)) := by
  have hfaulted : anyJack s (fun j => j.isIn .faulted) = false := by
    rw [← Bool.not_eq_true, anyFaulted_iff]
    rintro ⟨k, hk⟩
    have := ha k
    rw [hk] at this
    simp at this
  have hleft : leaveStopped s = endTrims s := if_pos hs
  have hseg : (endTrims s).segment = s.segment := by
    unfold State.segment
    rw [endTrims_plan, endTrims_sync]
  have hlow : planLowNow (endTrims s) = planLowNow s := by simp [planLowNow]
  unfold runResume
  rw [if_neg (by simp [hfaulted]), if_neg (by simp [(resumes_iff s).mpr ha])]
  simp only [hleft, hseg]
  cases hg : s.segment with
  | none =>
    have hnone : planLowNow s = false := by
      have hlen : s.plan.activeBank.length ≤ s.sync.planPos := List.getElem?_eq_none_iff.mp hg
      have : ¬ s.sync.planPos + 1 = s.plan.activeBank.length := by omega
      simp [planLowNow, this]
    rw [if_neg (by simp), hnone]
    exact congrArg Executed.done (enterHolding_eq (endTrims s))
  | some g =>
    rw [if_pos (by simp), ← hlow]
    exact congrArg Executed.done (enterMoving_resumed (by rw [endTrims_plan, endTrims_sync]; exact hg))

@[simp] theorem resumeRaised_jack (low : Bool) (g : Option Segment) (s : State) (k : Sta) : (resumeRaised low g s).jack k = s.jack k := by
  cases low <;> cases g <;> rfl

theorem resumeRaised_fields (low : Bool) (g : Option Segment) (s : State) : (resumeRaised low g s).cars = s.cars ∧
    (resumeRaised low g s).plan = (resumed g s).plan ∧ (resumeRaised low g s).group = (resumed g s).group ∧
    (resumeRaised low g s).sync = (resumed g s).sync := by
  cases low <;> cases g <;> exact ⟨rfl, rfl, rfl, rfl⟩

theorem resumeRaised_told (low : Bool) (g : Option Segment) (s : State) : Tells s (resumeRaised low g s) ∧
    Told (.state s.group.state (if g.isSome then .moving else .holding)) s.group.cycle (resumeRaised low g s) ∧
    (low = true → Told (.planLow s.plan.active s.sync.planPos) s.group.cycle (resumeRaised low g s)) := by
  have hcycle : (resumed g s).group.cycle = s.group.cycle := by cases g <;> rfl
  have hline : (resumed g s).line = s.line := by cases g <;> rfl
  have hfirst := told_raise (.state s.group.state (if g.isSome then .moving else .holding)) (resumed g s)
  have hkeeps := (Tells.of_line hline).trans (.raise (.state s.group.state (if g.isSome then .moving else .holding)) (resumed g s))
  rw [hcycle] at hfirst
  cases low with
  | false => exact ⟨hkeeps, hfirst, nofun⟩
  | true =>
    refine ⟨hkeeps.trans (.raise _ _), Tells.raise _ _ _ _ hfirst, fun _ => ?_⟩
    rw [← hcycle]
    exact told_raise (.planLow s.plan.active s.sync.planPos) (raise _ (resumed g s))

/-- Settles O47. -/
theorem resumeGoesOnFromTheReference : Obligations.ResumeGoesOnFromTheReference := by
  intro tag s hw hb hstate hp freed
  have hrun : runCommand .resume (clearSlot s) = runResume (clearSlot s) :=
    runCommand_taken (by simp [takenIn, clearSlot, hstate]) fun _ => hp
  have heq (ha : ∀ k, (s.jack k).record.state ∈ [.engaged, .trimming, .unassigned]) :
      runCommand .resume (clearSlot s) =
        .done (resumeRaised (planLowNow s) s.plan.activeBank[s.sync.planPos]? (endTrims (clearSlot s))) :=
    hrun.trans (runResume_eq (s := clearSlot s) hstate ha)
  refine ⟨fun hf => ?faulted, fun hf ha => ?refused, fun ha hm => ?still, fun ha => ?trims⟩
  case faulted => exact exec_execution_refused hw hb (hrun.trans (if_pos ((anyFaulted_iff s).mpr hf)))
  case refused =>
    refine exec_execution_refused hw hb (hrun.trans ((if_neg fun h => ?_).trans (if_pos (Bool.eq_false_iff.mpr fun h => ?_))))
    · obtain ⟨k, hk⟩ := (anyFaulted_iff s).mp h
      exact hf k hk
    · obtain ⟨k, hk⟩ := ha
      exact hk ((resumes_iff s).mp h k)
  case still =>
    have hends : endTrims (clearSlot s) = clearSlot s := endTrims_of_none fun k m h => by
      rw [show ((clearSlot s).jack k).record.move = none from hm k] at h
      cases h
    have ha' (k : Sta) : (s.jack k).record.state ∈ [.engaged, .trimming, .unassigned] := by
      obtain h | h := ha k <;> simp [h]
    have hsettled (t : State) (ht : t.jacks = s.jacks) (hpt : t.group.permit = true)
        (hgt : t.group.state ∈ [.poised, .moving, .holding, .stopping, .landing]) : settleBrakes t = freed t :=
      settleBrakes_leftStopped (settledBrake_of_stopped (hw.brakes hb) hstate hp) hm ht hpt hgt
    have heq := heq ha'
    rw [hends] at heq
    refine ⟨fun g hg hlast hk => ?_, fun hlen => ?_⟩
    · have hlow : planLowNow s = false := by
        have : ¬ s.sync.planPos + 1 = s.plan.activeBank.length := by omega
        simp [planLowNow, this]
      have hsync : startedSync s.group.params g { s.sync with speed := 0 } = { s.sync with
          speed := 0
          dir := if s.sync.ref < effectiveTarget s.group.params g then .up
            else if effectiveTarget s.group.params g < s.sync.ref then .down else .none } := by
        rw [startedSync_of_rest rfl, hk]
        rfl
      rw [hg, hlow] at heq
      refine (exec_execution_one (n := 0) hw heq rfl).trans (congrArg _ ?_)
      refine Eq.trans (hsettled _ rfl hp (by simp [answered, noticed, resumed, movingWith])) ?_
      show freed (noticed (.state s.group.state .moving) (answered 0xC0 tag .done [0, 0, 0x07, s.group.cycle] { s with
        group := { s.group with slot := none, cause := .none, state := .moving }
        plan := { s.plan with segMode := some s.plan.mode }
        sync := startedSync s.group.params g { s.sync with speed := 0 } })) = _
      rw [hsync, hstate]
    · have hg : s.plan.activeBank[s.sync.planPos]? = none := List.getElem?_eq_none hlen
      have hlow : planLowNow s = false := by
        have : ¬ s.sync.planPos + 1 = s.plan.activeBank.length := by omega
        simp [planLowNow, this]
      rw [hg, hlow] at heq
      refine (exec_execution_one (n := 0) hw heq rfl).trans (congrArg _ ?_)
      refine Eq.trans (hsettled _ rfl hp (by simp [answered, noticed, resumed])) ?_
      rw [← hstate]
      rfl
  case trims =>
    have heq := heq ha
    have hsync := resumed_sync s.plan.activeBank[s.sync.planPos]? (endTrims (clearSlot s))
    obtain ⟨hcars, hplan, hgroup, hsync'⟩ := resumeRaised_fields (planLowNow s) s.plan.activeBank[s.sync.planPos]? (endTrims (clearSlot s))
    obtain ⟨htells, htold, hlow⟩ := resumeRaised_told (planLowNow s) s.plan.activeBank[s.sync.planPos]? (endTrims (clearSlot s))
    obtain ⟨u, hexec, hcars', hplan', hgroup', hsync'', hqueue, hreport, hjack⟩ := exec_execution_reports hw heq
      (by rw [hgroup, resumed_group, endTrims_group]; rfl)
    rw [hcars, endTrims_cars] at hcars'
    rw [hplan, resumed_plan, endTrims_plan] at hplan'
    rw [hgroup, resumed_group, endTrims_group] at hgroup'
    rw [hsync', hsync, endTrims_sync, endTrims_group] at hsync''
    rw [endTrims_group] at htold hlow
    rw [endTrims_plan, endTrims_sync] at hlow
    intro g target next low trims
    refine ⟨u, hexec, hcars', hgroup', hplan', ?_, hqueue, hstate ▸ hreport _ _ htold, fun h => hreport _ _ (hlow h), fun k => ?_⟩
    · rw [hsync'']
      show startedOr s.group.params g s.sync = _
      clear_value g
      cases g with
      | none => rfl
      | some h => exact startedSync_of_rest (y := { s.sync with speed := 0 }) rfl
    · have hk : u.jack k = (s.jack k).trimLeft := by
        have hpermit : (resumeRaised (planLowNow s) s.plan.activeBank[s.sync.planPos]? (endTrims (clearSlot s))).group.permit = true := by
          rw [hgroup, resumed_group, endTrims_group]
          exact hp
        rw [hjack k, hpermit]
        refine trimLeft_reports (hw.brakes hb) hstate hp ?_ ?_
        · rw [hgroup, resumed_group]
          show (if g.isSome then GroupState.moving else .holding) ∈ _
          split_ifs <;> simp
        · rw [resumeRaised_jack, endTrims_jack]
          rfl
      rw [hk, Jack.trimLeft_eq]
      refine ⟨rfl, rfl, rfl, fun h => hreport _ _ (htells _ _ (told_endTrims (s := clearSlot s) h)), rfl, ?_⟩
      show (({ (if trims (s.jack k) = true then (s.jack k).gen.stopForm else (s.jack k).gen) with brake := _ } : Generator)) = _
      generalize (s.jack k).gen = g
      obtain ⟨run, divisor, dir, pending, remaining, ceiling, brake, stepHigh, dirHigh⟩ := g
      cases trims (s.jack k) with
      | false => rfl
      | true =>
        cases run with
        | idle => rfl
        | counted => rfl
        | rate => rcases pending with _ | _ | _ | _ <;> rfl

end Sys2Proof.Machine

/-! PROOF. SETUP_DONE and its eight checks (O43), and CLEAR_LOCKOUT (O50). -/

namespace Sys2Proof.Machine

-- One theorem after another, as in the tests: a thread each for this many proofs would pass the memory limit.
set_option Elab.async false

variable {s t u : State} {tag : Byte} {k : Sta}

/-! ### The lowest station (R96, R110) -/

theorem find?_all {p : Sta → Bool} (hk : p k = true) (hlow : ∀ i, i < k → p i = false) : Sta.all.find? p = some k := by
  rw [List.find?_eq_some_iff_getElem]
  refine ⟨hk, k.val, by simp [Sta.all], by simp [Sta.all], fun j hj => ?_⟩
  have := hlow ⟨j, by omega⟩ (Fin.lt_def.mpr hj)
  simp [Sta.all, this]

theorem find?_all_eq_none {p : Sta → Bool} : Sta.all.find? p = none ↔ ∀ i, p i = false := by
  simp [List.find?_eq_none]

/-! ### CLEAR_LOCKOUT (R110) -/

/-- The group state entered, before the event that reports it. -/
def entered (g : GroupState) (s : State) : State := { s with
  group := { s.group with state := g }
  sync := if g = .setup ∨ g = .prepared then { s.sync with ref := 0, speed := 0, dir := .none } else s.sync }

theorem enterGroup_eq (g : GroupState) (s : State) : enterGroup g s = raise (.state s.group.state g) (entered g s) := by
  unfold enterGroup entered
  simp only
  split_ifs <;> rfl

/-- The RUNAWAY entries removed and the group's motion re-based, before the group enters its next state. -/
def lockoutCleared (s : State) : State :=
  motionReset true (returnFaulted (setFaults (s.group.faults.filter (fun e => e.kind != .runaway)) s))

theorem runClearLockout_none (h : ∀ k, (s.jack k).mon.runaway = 0) : runClearLockout s =
    .done (enterGroup (stateAfterLockout (lockoutCleared s)) (lockoutCleared s)) := by
  have : lowestStation s (fun j => j.mon.runaway != 0) = none := find?_all_eq_none.mpr fun i => by simp [h i]
  unfold runClearLockout
  rw [this]
  rfl

theorem lockoutCleared_record (s : State) (k : Sta) : ((lockoutCleared s).jack k).record =
    if (s.jack k).record.state = .faulted then
      (s.jack k).record.tested k (s.group.faults.filter (fun e => e.kind != .runaway)) else (s.jack k).record := by
  rw [← StationRec.retest_eq]
  unfold lockoutCleared
  rw [motionReset_jack, returnFaulted_jack]
  rfl

theorem lockoutCleared_jack (s : State) (k : Sta) : (lockoutCleared s).jack k = { s.jack k with
    record := ((lockoutCleared s).jack k).record, mon := { (s.jack k).mon with rest := (s.jack k).pos.count } } := by
  unfold lockoutCleared
  rw [motionReset_jack, returnFaulted_jack]
  rfl

theorem StationRec.tested_contact (r : StationRec) (k : Sta) (l : List FaultEntry) :
    (r.tested k l).contact = r.contact ∧ (r.tested k l).settings = r.settings := by
  unfold StationRec.tested
  simp only
  split <;> exact ⟨rfl, rfl⟩

theorem lockoutCleared_contact (s : State) (k : Sta) : ((lockoutCleared s).jack k).record.contact = (s.jack k).record.contact := by
  rw [lockoutCleared_record]
  split_ifs
  · exact (StationRec.tested_contact _ _ _).1
  · rfl

theorem anyContact_lockoutCleared (s : State) : anyContact (lockoutCleared s) = anyContact s :=
  anyContact_congr fun k => by rw [lockoutCleared_contact]

theorem lockoutCleared_sync (s : State) : (lockoutCleared s).sync =
    { s.sync with ref := rebasedReference true s, speed := 0, dir := .none } := by
  have : rebasedReference true (returnFaulted (setFaults (s.group.faults.filter (fun e => e.kind != .runaway)) s)) =
      rebasedReference true s := by
    refine rebasedReference_congr (fun k => ?_) rfl
    have hj := returnFaulted_jack (setFaults (s.group.faults.filter (fun e => e.kind != .runaway)) s) k
    have hk : (setFaults (s.group.faults.filter (fun e => e.kind != .runaway)) s).jack k = s.jack k := rfl
    rw [StationRec.retest_eq, hk] at hj
    obtain ⟨hcontact, hsettings⟩ := StationRec.tested_contact (s.jack k).record k (s.group.faults.filter (fun e => e.kind != .runaway))
    rw [hj]
    split_ifs
    · simp only [Jack.rebaseValue, Jack.latchedHeight, Jack.liveHeight, setFaults, hcontact, hsettings]
    · rfl
  unfold lockoutCleared
  rw [motionReset_sync, this]
  rfl

/-- Settles O50. -/
theorem clearLockoutNeedsStillness : Obligations.ClearLockoutNeedsStillness := by
  intro tag s hw hb hstate
  have hrun : runCommand .clearLockout (clearSlot s) = runClearLockout (clearSlot s) :=
    runCommand_taken (by simp [takenIn, clearSlot, hstate]) (by simp [needsPermit])
  refine ⟨fun k hk hlow => ?_, fun h => ?_⟩
  · have hfind : lowestStation (clearSlot s) (fun j => j.mon.runaway != 0) = some k := by
      refine find?_all (by simpa [clearSlot, State.jack, Nat.pos_iff_ne_zero] using hk) fun i hi => ?_
      simpa [clearSlot, State.jack] using hlow i hi
    have he : runClearLockout (clearSlot s) =
        { state := clearSlot s, outcome := .motionSeen, check := 0, index := 0, extra := [byteOf k.val] } := by
      unfold runClearLockout
      rw [hfind]
      rfl
    exact exec_execution_unmoved hw hb (hrun.trans he)
  · let v : State := lockoutCleared (clearSlot s)
    have hafter : stateAfterLockout v = if anyContact s then .stopped else if s.group.validated then .prepared else .setup := by
      unfold stateAfterLockout
      rw [anyContact_lockoutCleared]
      rfl
    have hsync : (entered (stateAfterLockout v) v).sync =
        { s.sync with ref := if anyContact s then rebasedReference true s else 0, speed := 0, dir := .none } := by
      unfold entered
      rw [hafter, show v.sync = _ from lockoutCleared_sync (clearSlot s)]
      cases anyContact s with
      | true => rfl
      | false => cases s.group.validated <;> rfl
    have he := hrun.trans (runClearLockout_none h)
    rw [enterGroup_eq] at he
    refine ⟨_, exec_execution_one (n := 0) hw he rfl, ?_, ?_, hsync, rfl, rfl, fun k => ?_⟩
    · rw [← hafter]
      rfl
    · rw [← hstate]
      rfl
    · have hjack := lockoutCleared_jack (clearSlot s) k
      have hrecord := lockoutCleared_record (clearSlot s) k
      rw [settleBrakes_jack]
      show (v.jack k).pos = _ ∧ (v.jack k).mon = _ ∧ ({ (v.jack k).gen with brake := _ } : Generator) = _ ∧ (v.jack k).record = _
      refine ⟨?_, ?_, ?_, hrecord⟩ <;> rw [show v.jack k = _ from hjack] <;> rfl

/-! ### The checks of SETUP_DONE (R96) -/

theorem firstRepeat_eq_none {seen l : List Sta} : firstRepeat seen l = none ↔ l.Nodup ∧ ∀ k ∈ l, k ∉ seen := by
  induction l generalizing seen with
  | nil => simp [firstRepeat]
  | cons k l ih =>
    unfold firstRepeat
    by_cases hk : k ∈ seen
    · simp [hk]
    · rw [if_neg (by simpa using hk), ih, List.nodup_cons, List.forall_mem_cons]
      simp only [List.mem_cons, not_or]
      exact ⟨fun ⟨hl, h⟩ => ⟨⟨fun hm => (h k hm).1 rfl, hl⟩, hk, fun i hi => (h i hi).2⟩,
        fun ⟨⟨hkl, hl⟩, _, h⟩ => ⟨hl, fun i hi => ⟨fun e => hkl (e ▸ hi), h i hi⟩⟩⟩

theorem firstRepeat_eq_some {before behind seen : List Sta} {k : Sta} (hb : before.Nodup) (hd : ∀ i ∈ before, i ∉ seen)
    (hk : k ∈ before ∨ k ∈ seen) : firstRepeat seen (before ++ k :: behind) = some k := by
  induction before generalizing seen with
  | nil =>
    unfold firstRepeat
    exact if_pos (by simpa using hk)
  | cons i before ih =>
    obtain ⟨hi, hb⟩ := List.nodup_cons.mp hb
    rw [List.cons_append]
    unfold firstRepeat
    rw [if_neg (by simpa using hd i (by simp))]
    refine ih hb (fun j hj => ?_) ?_
    · simp only [List.mem_cons, not_or]
      exact ⟨fun e => hi (e ▸ hj), hd j (by simp [hj])⟩
    · obtain hk | hk := hk
      · obtain rfl | hk := List.mem_cons.mp hk
        · exact .inr (by simp)
        · exact .inl hk
      · exact .inr (by simp [hk])

/-- The stations listed, in the order of their listings. -/
theorem map_listings (cars : List Car) :
    (listings cars).map (fun l => l.1) = cars.flatMap (fun c => [c.fl, c.fr, c.rl, c.rr].filterMap id) := by
  have hcar (c : Car) (i : Nat) : ((c.corners.zipIdx.filterMap (fun (o, corner) => o.map (fun k => (k, i + 1, corner)))).map (fun l => l.1)) =
      [c.fl, c.fr, c.rl, c.rr].filterMap id := by
    obtain ⟨fl, fr, rl, rr, _⟩ := c
    cases fl <;> cases fr <;> cases rl <;> cases rr <;> rfl
  unfold listings
  rw [List.map_flatMap]
  simp only [hcar]
  have key (l : List Car) (n : Nat) : (l.zipIdx n).flatMap (fun a => [a.1.fl, a.1.fr, a.1.rl, a.1.rr].filterMap id) =
      l.flatMap (fun c => [c.fl, c.fr, c.rl, c.rr].filterMap id) := by
    induction l generalizing n with
    | nil => rfl
    | cons c l ih => rw [List.zipIdx_cons, List.flatMap_cons, List.flatMap_cons, ih]
  exact key cars 0

theorem find?_assigned (s : State) (p : Sta → Bool) :
    (assignedStations s).find? p = Sta.all.find? (fun k => (s.jack k).assigned && p k) := by
  unfold assignedStations
  rw [List.find?_filter]
  simp only [Bool.decide_and, Bool.decide_eq_true]

/-- The better of two stations by `f`, the earlier of two alike. -/
def pickBetter (f : Sta → Nat) (best : Option Sta) (k : Sta) : Option Sta :=
  best.elim (some k) (fun b => if f k < f b then some k else some b)

theorem smallestTravel_eq (s : State) :
    smallestTravel s = (assignedStations s).foldl (pickBetter fun k => (s.jack k).record.settings.hMax) none := by
  unfold smallestTravel
  refine congrArg (fun f => List.foldl f none (assignedStations s)) (funext fun best => funext fun k => ?_)
  cases best <;> rfl

theorem foldl_pickBetter_of_le {f : Sta → Nat} {l : List Sta} (h : ∀ i ∈ l, f k ≤ f i) : l.foldl (pickBetter f) (some k) = some k := by
  induction l with
  | nil => rfl
  | cons i l ih =>
    obtain ⟨hi, hl⟩ := List.forall_mem_cons.mp h
    rw [List.foldl_cons, show pickBetter f (some k) i = some k from if_neg (Nat.not_lt.mpr hi), ih hl]

theorem foldl_pickBetter_of_lt {f : Sta → Nat} {n : Nat} {l : List Sta} (h : ∀ i ∈ l, n < f i) {best : Option Sta} (hb : ∀ b ∈ best, n < f b) :
    ∀ b ∈ l.foldl (pickBetter f) best, n < f b := by
  induction l generalizing best with
  | nil => exact hb
  | cons i l ih =>
    obtain ⟨hi, hl⟩ := List.forall_mem_cons.mp h
    refine ih hl ?_
    cases best with
    | none => simpa [pickBetter] using hi
    | some b =>
      have hb : n < f b := hb b rfl
      unfold pickBetter
      simp only [Option.elim]
      split_ifs <;> simpa

/-- The lowest station with the smallest travel. -/
theorem smallestTravel_eq_some (hk : (s.jack k).assigned = true)
    (hall : ∀ i, (s.jack i).assigned = true → (s.jack k).record.settings.hMax ≤ (s.jack i).record.settings.hMax)
    (hlow : ∀ i, i < k → (s.jack i).assigned = true → (s.jack k).record.settings.hMax < (s.jack i).record.settings.hMax) :
    smallestTravel s = some k := by
  have hmem (i : Sta) : i ∈ assignedStations s ↔ (s.jack i).assigned = true := by simp [assignedStations]
  have hsorted : (assignedStations s).Pairwise (· < ·) := (List.pairwise_lt_finRange 32).filter _
  obtain ⟨before, after, hl⟩ := List.append_of_mem ((hmem k).mpr hk)
  have hbefore (i : Sta) (hi : i ∈ before) : (s.jack k).record.settings.hMax < (s.jack i).record.settings.hMax := by
    rw [hl] at hsorted
    exact hlow i ((List.pairwise_append.mp hsorted).2.2 i hi k (by simp)) ((hmem i).mp (by simp [hl, hi]))
  have hafter (i : Sta) (hi : i ∈ after) : (s.jack k).record.settings.hMax ≤ (s.jack i).record.settings.hMax :=
    hall i ((hmem i).mp (by simp [hl, hi]))
  rw [smallestTravel_eq, hl, List.foldl_append, List.foldl_cons]
  have hb := foldl_pickBetter_of_lt (best := none) hbefore nofun
  generalize before.foldl _ none = best at hb ⊢
  have hpick : pickBetter (fun k => (s.jack k).record.settings.hMax) best k = some k := by
    cases best with
    | none => rfl
    | some b => exact if_pos (hb b rfl)
  rw [hpick, foldl_pickBetter_of_le hafter]

theorem liftLimitFailure_eq_none (h0 : 0 < s.group.params.lMax)
    (hall : ∀ i, (s.jack i).assigned = true → s.group.params.lMax ≤ (s.jack i).record.settings.hMax) : liftLimitFailure s = none := by
  have hmem : ∀ b ∈ smallestTravel s, s.group.params.lMax - 1 < (s.jack b).record.settings.hMax := by
    rw [smallestTravel_eq]
    refine foldl_pickBetter_of_lt (f := fun k => (s.jack k).record.settings.hMax) (fun i hi => ?_) nofun
    have := hall i (by simpa [assignedStations] using hi)
    omega
  unfold liftLimitFailure
  rw [if_neg (by omega)]
  cases hsmall : smallestTravel s with
  | none => rfl
  | some b =>
    have := hmem b hsmall
    exact if_neg (by omega)

/-- The eight checks in order, `c 1` to `c 8` being what each fails with. -/
theorem configFailure_eq {c1 c2 c3 c4 c5 c6 c7 c8 : Option Nat}
    (h1 : (if s.cars.isEmpty then some 0 else none) = c1)
    (h2 : (s.cars.findIdx? (fun c => !c.hasEnds)).map (fun i => i + 1) = c2)
    (h3 : (firstRepeat [] ((listings s.cars).map (fun l => l.1))).map (fun k => k.val) = c3)
    (h4 : (if (s.cars.getLast?.map (fun c => c.coupled)).getD false then some s.cars.length else none) = c4)
    (h5 : ((assignedStations s).find? (fun k => !thresholdsOrdered (s.jack k).record.settings)).map (fun k => k.val) = c5)
    (h6 : (if s.group.params.deadband < s.group.params.holdBand ∧ s.group.params.holdBand < s.group.params.tripBand then none
      else some 0) = c6)
    (h7 : liftLimitFailure s = c7) (h8 : offsetFailure s.cars (fun k => (s.jack k).record.settings.offset) = c8) :
    configFailure s = [(1, c1), (2, c2), (3, c3), (4, c4), (5, c5), (6, c6), (7, c7), (8, c8)].findSome?
      (fun c => c.2.map (fun i => (c.1, i))) := by
  subst h1 h2 h3 h4 h5 h6 h7 h8
  rfl

theorem hasEnds_iff (c : Car) : c.hasEnds = true ↔ (c.fl.isSome ∨ c.fr.isSome) ∧ (c.rl.isSome ∨ c.rr.isSome) := by
  simp [Car.hasEnds]

theorem thresholdsOrdered_iff (g : Settings) :
    thresholdsOrdered g = true ↔ g.loss < g.tRelease ∧ g.tRelease < g.tContact ∧ g.tContact < g.overload := by
  simp [thresholdsOrdered, and_assoc]

/-- Settles O43. -/
theorem setupDoneValidatesTheConfiguration : Obligations.SetupDoneValidatesTheConfiguration := by
  intro tag s hw hb hstate p hMax assigned ends listing ordered ok1 ok2 ok3 ok4 ok5 ok6 ok7 offsets fails
  have hrun : runCommand .setupDone (clearSlot s) = runSetupDone (clearSlot s) :=
    runCommand_taken (by simp [takenIn, clearSlot, hstate]) (by simp [needsPermit])
  have hfails {check index : Nat} (h : configFailure s = some (check, index)) : fails check index := by
    have he : runSetupDone (clearSlot s) =
        { state := clearSlot s, outcome := .badConfig, check := check, index := index, extra := [] } := by
      unfold runSetupDone
      rw [show configFailure (clearSlot s) = some (check, index) from h]
      rfl
    exact exec_execution_unmoved hw hb (hrun.trans he)
  have pass1 (h : ok1) : (if s.cars.isEmpty then some 0 else none) = none := if_neg (by simpa using h)
  have pass2 (h : ok2) : (s.cars.findIdx? (fun c => !c.hasEnds)).map (fun i => i + 1) = none := by
    rw [Option.map_eq_none_iff, List.findIdx?_eq_none_iff]
    exact fun c hc => by simpa using (hasEnds_iff c).mpr (h.2 c hc)
  have pass3 (h : ok3) : (firstRepeat [] ((listings s.cars).map (fun l => l.1))).map (fun k => k.val) = none := by
    rw [Option.map_eq_none_iff, map_listings, firstRepeat_eq_none]
    exact ⟨h.2, by simp⟩
  have pass4 (h : ok4) : (if (s.cars.getLast?.map (fun c => c.coupled)).getD false then some s.cars.length else none) = none := by
    cases hl : s.cars.getLast? with
    | none => rfl
    | some c => exact if_neg (by simp [h.2 c hl])
  have pass5 (h : ok5) :
      ((assignedStations s).find? (fun k => !thresholdsOrdered (s.jack k).record.settings)).map (fun k => k.val) = none := by
    rw [Option.map_eq_none_iff, List.find?_eq_none]
    exact fun k hk => by simpa using (thresholdsOrdered_iff _).mpr (h.2 k (by simpa [assignedStations, assigned] using hk))
  have pass6 (h : ok6) : (if p.deadband < p.holdBand ∧ p.holdBand < p.tripBand then none else some 0) = none := if_pos h.2
  have pass7 (h : ok7) : liftLimitFailure s = none := liftLimitFailure_eq_none h.2.1 h.2.2
  refine ⟨fun h7 h8 => ?_, fun h => ?_, fun i c h1 hc he hlow => ?_, fun before k behind h2 hl hn hk => ?_, fun c h3 hl hc => ?_,
    fun k h4 hk ho hlow => ?_, fun h5 ho => ?_, fun h6 h0 => ?_, fun k h6 h0 hk hlt hall hlow => ?_, fun n h7 h8 => ?_⟩
  · have ⟨h6, _⟩ := h7; have ⟨h5, _⟩ := h6; have ⟨h4, _⟩ := h5; have ⟨h3, _⟩ := h4; have ⟨h2, _⟩ := h3; have ⟨h1, _⟩ := h2
    have hnone : configFailure s = none :=
      configFailure_eq (pass1 h1) (pass2 h2) (pass3 h3) (pass4 h4) (pass5 h5) (pass6 h6) (pass7 h7) h8
    have he : runSetupDone (clearSlot s) = .done (raise (.state s.group.state .prepared) { s with
        group := { s.group with slot := none, validated := true, state := .prepared }
        sync := { s.sync with ref := 0, speed := 0, dir := .none } }) := by
      unfold runSetupDone
      rw [show configFailure (clearSlot s) = none from hnone]
      rfl
    rw [hstate] at he
    refine (exec_execution_one (n := 0) hw (hrun.trans he) rfl).trans (congrArg _ (settleBrakes_of_safe fun k =>
      (hw.brakes hb k).congr rfl ?_))
    rw [hstate]
    rfl
  · exact hfails (configFailure_eq (if_pos (by simpa [ok1] using h)) rfl rfl rfl rfl rfl rfl rfl)
  · refine hfails (configFailure_eq (pass1 h1) (c2 := some (i + 1)) ?_ rfl rfl rfl rfl rfl rfl)
    have hi := List.getElem?_eq_some_iff.mp hc
    have : s.cars.findIdx? (fun c => !c.hasEnds) = some i := by
      rw [List.findIdx?_eq_some_iff_getElem]
      refine ⟨hi.1, ?_, fun j hj => ?_⟩
      · rw [hi.2]
        simpa using mt (hasEnds_iff c).mp he
      · have hlen : j < s.cars.length := Nat.lt_trans hj hi.1
        simp [(hasEnds_iff _).mpr (hlow j s.cars[j] hj (List.getElem?_eq_getElem hlen))]
    rw [this]
    rfl
  · have ⟨h1, _⟩ := h2
    refine hfails (configFailure_eq (pass1 h1) (pass2 h2) (c3 := some k.val) ?_ rfl rfl rfl rfl rfl)
    rw [map_listings, show s.cars.flatMap (fun c => [c.fl, c.fr, c.rl, c.rr].filterMap id) = _ from hl,
      firstRepeat_eq_some hn (by simp) (.inl hk)]
    rfl
  · have ⟨h2, _⟩ := h3; have ⟨h1, _⟩ := h2
    refine hfails (configFailure_eq (pass1 h1) (pass2 h2) (pass3 h3) (c4 := some s.cars.length) ?_ rfl rfl rfl rfl)
    rw [hl]
    exact if_pos (by simpa using hc)
  · have ⟨h3, _⟩ := h4; have ⟨h2, _⟩ := h3; have ⟨h1, _⟩ := h2
    refine hfails (configFailure_eq (pass1 h1) (pass2 h2) (pass3 h3) (pass4 h4) (c5 := some k.val) ?_ rfl rfl rfl)
    rw [find?_assigned, find?_all (k := k)]
    · rfl
    · rw [hk, Bool.true_and, Bool.not_eq_true']
      exact Bool.eq_false_iff.mpr (mt (thresholdsOrdered_iff _).mp ho)
    · intro i hi
      cases ha : (s.jack i).assigned with
      | false => rfl
      | true => simpa using (thresholdsOrdered_iff _).mpr (hlow i hi ha)
  · have ⟨h4, _⟩ := h5; have ⟨h3, _⟩ := h4; have ⟨h2, _⟩ := h3; have ⟨h1, _⟩ := h2
    exact hfails (configFailure_eq (pass1 h1) (pass2 h2) (pass3 h3) (pass4 h4) (pass5 h5) (if_neg ho) rfl rfl)
  · have ⟨h5, _⟩ := h6; have ⟨h4, _⟩ := h5; have ⟨h3, _⟩ := h4; have ⟨h2, _⟩ := h3; have ⟨h1, _⟩ := h2
    exact hfails (configFailure_eq (pass1 h1) (pass2 h2) (pass3 h3) (pass4 h4) (pass5 h5) (pass6 h6) (if_pos h0) rfl)
  · have ⟨h5, _⟩ := h6; have ⟨h4, _⟩ := h5; have ⟨h3, _⟩ := h4; have ⟨h2, _⟩ := h3; have ⟨h1, _⟩ := h2
    refine hfails (configFailure_eq (pass1 h1) (pass2 h2) (pass3 h3) (pass4 h4) (pass5 h5) (pass6 h6)
      (c7 := some k.val) ?_ rfl)
    unfold liftLimitFailure
    rw [if_neg (Nat.pos_iff_ne_zero.mp h0), smallestTravel_eq_some hk hall hlow]
    exact if_pos hlt
  · have ⟨h6, _⟩ := h7; have ⟨h5, _⟩ := h6; have ⟨h4, _⟩ := h5; have ⟨h3, _⟩ := h4; have ⟨h2, _⟩ := h3; have ⟨h1, _⟩ := h2
    exact hfails (configFailure_eq (pass1 h1) (pass2 h2) (pass3 h3) (pass4 h4) (pass5 h5) (pass6 h6) (pass7 h7) h8)

end Sys2Proof.Machine

/-! PROOF. ACK_FAULTS: the entries it removes and the geometry it computes afresh (O49). -/

namespace Sys2Proof.Machine

-- One theorem after another, as in the tests: a thread each for this many proofs would pass the memory limit.
set_option Elab.async false

variable {s t u : State} {tag : Byte} {k : Sta} {l : List FaultEntry}

/-! ### Twists and steps (R27 to R31) -/

/-- A car's twist, from the lifts at its four corners. -/
theorem twistOf_eq (s : State) (c : Car) : twistOf s c = (cornerLift s c.fl).bind fun fl => (cornerLift s c.fr).bind fun fr =>
    (cornerLift s c.rl).bind fun rl => (cornerLift s c.rr).map fun rr => (fl + rr) - (fr + rl) := by
  unfold twistOf
  cases cornerLift s c.fl with
  | none => rfl
  | some fl => cases cornerLift s c.fr with
    | none => rfl
    | some fr => cases cornerLift s c.rl with
      | none => rfl
      | some rl => cases cornerLift s c.rr <;> rfl

theorem stepBetween_eq (s : State) (c b : Car) :
    stepBetween s c b = (rearLift s c).bind fun r => (frontLift s b).map fun f => r - f := by
  unfold stepBetween
  cases rearLift s c with
  | none => rfl
  | some r => cases frontLift s b <;> rfl

theorem beyond_eq (x : Option Int) (limit : Nat) : beyond x limit = x.any (fun v => decide (limit < v.natAbs)) := by
  cases x <;> rfl

theorem carBehind_eq (cars : List Car) (i : Nat) : carBehind cars i = cars[i]?.bind fun c => if c.coupled then cars[i + 1]? else none := by
  unfold carBehind
  cases cars[i]? <;> rfl

/-! ### The geometry computed afresh (R31) -/

/-- The entry names the twist of the car at list index `i`. -/
def namesTwist (i : Nat) (e : FaultEntry) : Bool := match e.kind, e.subject with
  | .twist, .car n => n - 1 == i
  | _, _ => false

/-- The entry names the coupling behind the car at list index `i`. -/
def namesStep (i : Nat) (e : FaultEntry) : Bool := match e.kind, e.subject with
  | .coupling, .coupling n => n - 1 == i
  | _, _ => false

theorem namesTwist_iff {i : Nat} {e : FaultEntry} :
    namesTwist i e = true ↔ e.kind = .twist ∧ ∃ n, n - 1 = i ∧ e.subject = .car n := by
  obtain ⟨kind, subject, cycle⟩ := e
  by_cases hk : kind = .twist
  · subst hk
    cases subject <;> simp [namesTwist]
  · cases kind <;> simp_all [namesTwist]

theorem namesStep_iff {i : Nat} {e : FaultEntry} :
    namesStep i e = true ↔ e.kind = .coupling ∧ ∃ n, n - 1 = i ∧ e.subject = .coupling n := by
  obtain ⟨kind, subject, cycle⟩ := e
  by_cases hk : kind = .coupling
  · subst hk
    cases subject <;> simp [namesStep]
  · cases kind <;> simp_all [namesStep]

/-- The car at list index `i` with what the entries of `l` name of it computed afresh. -/
def refreshedCar (s : State) (l : List FaultEntry) (i : Nat) (c : Car) : Car :=
  { c with
    lastTwist := if l.any (namesTwist i) then twistOf s c else c.lastTwist
    lastStep := if l.any (namesStep i) then (carBehind s.cars i).elim c.lastStep (stepBetween s c) else c.lastStep
    couplingSet := if l.any (namesStep i) then
        (carBehind s.cars i).elim c.couplingSet (fun b => beyond (stepBetween s c b) c.couplingLimit)
      else c.couplingSet }

/-- The geometry of the entries `l` computed afresh in `s` gives `t`. -/
def Refreshed (s : State) (l : List FaultEntry) (t : State) : Prop :=
  t.jacks = s.jacks ∧ (t.sync = s.sync ∧ t.line = s.line) ∧ t.plan = s.plan ∧ ∀ i : Nat, t.cars[i]? = s.cars[i]?.map (refreshedCar s l i)

theorem Refreshed.jack (h : Refreshed s l t) (k : Sta) : t.jack k = s.jack k := congrArg (·.get k) h.1

theorem Refreshed.twistOf (h : Refreshed s l t) (i : Nat) (c : Car) : twistOf t (refreshedCar s l i c) = Machine.twistOf s c := by
  simp only [twistOf_eq, cornerLift, h.jack]
  rfl

theorem Refreshed.stepBetween (h : Refreshed s l t) (i j : Nat) (c b : Car) :
    stepBetween t (refreshedCar s l i c) (refreshedCar s l j b) = Machine.stepBetween s c b := by
  simp only [stepBetween_eq, rearLift, frontLift, cornerLift, h.jack]
  rfl

theorem Refreshed.carBehind (h : Refreshed s l t) (i : Nat) :
    carBehind t.cars i = (Machine.carBehind s.cars i).map (refreshedCar s l (i + 1)) := by
  rw [carBehind_eq, carBehind_eq, h.2.2.2 i, h.2.2.2 (i + 1)]
  cases s.cars[i]? with
  | none => rfl
  | some c =>
    show (if c.coupled = true then _ else _) = Option.map _ (if c.coupled = true then _ else _)
    split_ifs <;> rfl

theorem Refreshed.same {e : FaultEntry} (h : Refreshed s l t)
    (he : ∀ i c, s.cars[i]? = some c → refreshedCar s (l ++ [e]) i c = refreshedCar s l i c) : Refreshed s (l ++ [e]) t := by
  obtain ⟨hj, hs, hp, hc⟩ := h
  refine ⟨hj, hs, hp, fun i => (hc i).trans ?_⟩
  cases hi : s.cars[i]? with
  | none => rfl
  | some c => exact congrArg some (he i c hi).symm

theorem Refreshed.updCar {e : FaultEntry} {f : Car → Car} (n : Nat) (h : Refreshed s l t)
    (hne : ∀ i c, n ≠ i → refreshedCar s (l ++ [e]) i c = refreshedCar s l i c)
    (hn : ∀ c, s.cars[n]? = some c → refreshedCar s (l ++ [e]) n c = f (refreshedCar s l n c)) :
    Refreshed s (l ++ [e]) (t.updCar n f) := by
  obtain ⟨hj, hs, hp, hc⟩ := h
  refine ⟨hj, hs, hp, fun i => ?_⟩
  show (t.cars.modify n f)[i]? = _
  rw [List.getElem?_modify, hc i]
  cases hi : s.cars[i]? with
  | none => by_cases hni : n = i <;> simp [hni]
  | some c =>
    by_cases hni : n = i
    · subst hni
      simp [hn c hi]
    · simp [hni, hne i c hni]

/-- A twist computed afresh. -/
theorem Refreshed.refreshTwist {e : FaultEntry} {n : Nat} (h : Refreshed s l t) (ht : ∀ i, namesTwist i e = (n == i))
    (hs : ∀ i, namesStep i e = false) : Refreshed s (l ++ [e]) (refreshTwist n t) := by
  have hcar (i : Nat) (c : Car) : refreshedCar s (l ++ [e]) i c =
      if n = i then { refreshedCar s l i c with lastTwist := Machine.twistOf s c } else refreshedCar s l i c := by
    simp only [refreshedCar, List.any_append, List.any_cons, List.any_nil, Bool.or_false, ht, hs]
    by_cases hn : n = i <;> simp [hn]
  have hn := h.2.2.2 n
  unfold Machine.refreshTwist
  cases hc : s.cars[n]? with
  | none =>
    rw [hn, hc]
    exact h.same fun i c hi => by rw [hcar, if_neg (fun e => by rw [e, hi] at hc; cases hc)]
  | some c =>
    rw [hn, hc]
    refine h.updCar n (fun i c hi => by rw [hcar, if_neg hi]) fun d hd => ?_
    rw [hcar, if_pos rfl, h.twistOf]
    rw [hc] at hd
    cases hd
    rfl

/-- A step computed afresh. -/
theorem Refreshed.refreshStep {e : FaultEntry} {n : Nat} (h : Refreshed s l t) (ht : ∀ i, namesTwist i e = false)
    (hs : ∀ i, namesStep i e = (n == i)) : Refreshed s (l ++ [e]) (refreshStep n t) := by
  have hne (i : Nat) (c : Car) (hi : n ≠ i) : refreshedCar s (l ++ [e]) i c = refreshedCar s l i c := by
    simp [refreshedCar, ht, hs, hi]
  have hn := h.2.2.2 n
  have hbehind := h.carBehind n
  unfold Machine.refreshStep
  cases hb : Machine.carBehind s.cars n with
  | none =>
    rw [hbehind, hb, hn]
    have hsame : Refreshed s (l ++ [e]) t := h.same fun i c hi => by
      by_cases hni : n = i
      · subst hni
        simp [refreshedCar, ht, hb]
      · exact hne i c hni
    cases s.cars[n]? <;> exact hsame
  | some b =>
    obtain ⟨c, hc⟩ : ∃ c, s.cars[n]? = some c := by
      rw [carBehind_eq] at hb
      cases hc : s.cars[n]? with
      | none => rw [hc] at hb; cases hb
      | some c => exact ⟨c, rfl⟩
    rw [hbehind, hb, hn, hc]
    refine h.updCar n hne fun d hd => ?_
    obtain rfl : c = d := Option.some.inj (hc.symm.trans hd)
    rw [h.stepBetween]
    simp [refreshedCar, ht, hs, hb]

theorem refreshGeometry_refreshed (s : State) : Refreshed s s.group.faults (refreshGeometry s) := by
  unfold refreshGeometry
  induction s.group.faults using List.reverseRecOn with
  | nil =>
    refine ⟨rfl, ⟨rfl, rfl⟩, rfl, fun i => ?_⟩
    show s.cars[i]? = _
    cases s.cars[i]? <;> rfl
  | append_singleton l e ih =>
    rw [List.foldl_append, List.foldl_cons, List.foldl_nil]
    obtain ⟨kind, subject, cycle⟩ := e
    have hsame (ht : ∀ i, namesTwist i ⟨kind, subject, cycle⟩ = false) (hs : ∀ i, namesStep i ⟨kind, subject, cycle⟩ = false) :
        Refreshed s (l ++ [⟨kind, subject, cycle⟩]) (l.foldl _ s) := ih.same fun i c _ => by simp [refreshedCar, ht, hs]
    cases kind
    case twist => cases subject with
      | car n => exact ih.refreshTwist (n := n - 1) (fun i => rfl) (fun i => rfl)
      | station k => exact hsame (fun i => rfl) (fun i => rfl)
      | coupling n => exact hsame (fun i => rfl) (fun i => rfl)
      | none => exact hsame (fun i => rfl) (fun i => rfl)
    case coupling => cases subject with
      | coupling n => exact ih.refreshStep (n := n - 1) (fun i => rfl) (fun i => rfl)
      | station k => exact hsame (fun i => rfl) (fun i => rfl)
      | car n => exact hsame (fun i => rfl) (fun i => rfl)
      | none => exact hsame (fun i => rfl) (fun i => rfl)
    all_goals exact hsame (fun i => rfl) (fun i => rfl)

/-! ### The conditions of the entries (R107) -/

theorem classOf_eq_two (f : FaultKind) : (classOf f == 2) = (f == .runaway) := by cases f <;> rfl

theorem classOf_eq_one (f : FaultKind) : (classOf f == 1) =
    [FaultKind.overload, .loadLoss, .loadSilent, .travelLimit, .twist, .coupling].contains f := by cases f <;> rfl

theorem twistHolds_eq (i : Nat) (s : State) :
    twistHolds i s = s.cars[i]?.elim false fun c => beyond (twistOf s c) c.twistLimit := by
  unfold twistHolds
  cases s.cars[i]? <;> rfl

theorem stepHolds_eq (i : Nat) (s : State) : stepHolds i s = s.cars[i]?.elim false fun c =>
    s.cars[i + 1]?.elim false fun b => c.coupled && beyond (stepBetween s c b) c.couplingLimit := by
  unfold stepHolds
  rw [carBehind_eq]
  cases hc : s.cars[i]? with
  | none => rfl
  | some c =>
    cases hcoupled : c.coupled with
    | false => cases s.cars[i + 1]? <;> simp [hcoupled]
    | true => cases s.cars[i + 1]? <;> simp [hcoupled]

/-- Settles O49. -/
theorem ackFaultsRemovesWhatNoLongerHolds : Obligations.AckFaultsRemovesWhatNoLongerHolds := by
  intro tag s hw hstate lift endLift twist stepTo past holds names
  have hrun : runCommand .ackFaults (clearSlot s) = runAckFaults (clearSlot s) :=
    runCommand_taken (by simpa [takenIn, clearSlot] using hstate) (by simp [needsPermit])
  have hraised : s.line.raised = [] := hw.room.2.2.1
  have htwist (c : Car) : twistOf s c = twist c := by
    unfold twistOf
    show _ = twist c
    simp only [twist]
    change (match c.fl.bind lift, c.fr.bind lift, c.rl.bind lift, c.rr.bind lift with
      | some fl, some fr, some rl, some rr => some ((fl + rr) - (fr + rl))
      | _, _, _, _ => none) = _
    cases c.fl.bind lift with
    | none => rfl
    | some fl => cases c.fr.bind lift with
      | none => rfl
      | some fr => cases c.rl.bind lift with
        | none => rfl
        | some rl => cases c.rr.bind lift <;> rfl
  have hstep (c d : Car) : stepBetween s c d = stepTo c d := by
    unfold stepBetween
    simp only [stepTo]
    change (match endLift c.rl c.rr, endLift d.fl d.fr with
      | some rear, some front => some (rear - front)
      | _, _ => none) = _
    cases endLift c.rl c.rr with
    | none => rfl
    | some r => cases endLift d.fl d.fr <;> rfl
  have hpast (x : Option Int) (n : Nat) : beyond x n = past x n := beyond_eq x n
  have hholds (e : FaultEntry) : conditionHolds (clearSlot s) e = holds e := by
    obtain ⟨kind, subject, cycle⟩ := e
    cases kind
    case twist => cases subject with
      | car n =>
        refine (twistHolds_eq (n - 1) (clearSlot s)).trans ?_
        show (s.cars[n - 1]?.elim false fun c => beyond (twistOf s c) c.twistLimit) = _
        simp only [holds]
        cases hc : s.cars[n - 1]? with
        | none => rfl
        | some c => exact (hpast _ _).trans (by rw [htwist])
      | station k => rfl
      | coupling n => rfl
      | none => rfl
    case coupling => cases subject with
      | coupling n =>
        refine (stepHolds_eq (n - 1) (clearSlot s)).trans ?_
        show (s.cars[n - 1]?.elim false fun c =>
          s.cars[n - 1 + 1]?.elim false fun b => c.coupled && beyond (stepBetween s c b) c.couplingLimit) = _
        simp only [holds]
        cases hc : s.cars[n - 1]? with
        | none => rfl
        | some c => cases hb : s.cars[n - 1 + 1]? with
          | none => rfl
          | some b =>
            show (c.coupled && beyond (stepBetween s c b) c.couplingLimit) = _
            rw [hpast, hstep]
      | station k => rfl
      | car n => rfl
      | none => rfl
    case travelLimit => cases subject with
      | station k =>
        show ((s.jack k).record.datumKnown && (decide ((s.jack k).latchedHeight < 0) ||
          decide (((s.jack k).record.settings.hMax : Int) < (s.jack k).latchedHeight))) = ((s.jack k).record.datumKnown &&
          decide ((s.jack k).latchedHeight < 0 ∨ ((s.jack k).record.settings.hMax : Int) < (s.jack k).latchedHeight))
        rw [Bool.decide_or]
      | car n => rfl
      | coupling n => rfl
      | none => rfl
    all_goals cases subject <;> rfl
  let kept := s.group.faults.filter (fun e => e.kind == .runaway ||
    ([FaultKind.overload, .loadLoss, .loadSilent, .travelLimit, .twist, .coupling].contains e.kind && holds e))
  have hkept : (clearSlot s).group.faults.filter (keptByAck (clearSlot s)) = kept := by
    refine List.filter_congr fun e _ => ?_
    rw [keptByAck, classOf_eq_two, classOf_eq_one, hholds]
  obtain ⟨hjacks, ⟨hsync, hline⟩, hplan, hcars⟩ := refreshGeometry_refreshed (clearSlot s)
  have hgroup := refreshGeometry_group (clearSlot s)
  let v : State := returnFaulted (setFaults kept (refreshGeometry (clearSlot s)))
  have he : runCommand .ackFaults (clearSlot s) = { state := v, outcome := .done, check := 0, index := 0
                                                    extra := [byteOf (s.group.faults.length - kept.length), byteOf kept.length] } := by
    rw [hrun, runAckFaults, hkept]
    rfl
  have hv : v.group = { s.group with slot := none, faults := kept, overflow := s.group.overflow && decide (16 ≤ kept.length) } := by
    show { (refreshGeometry (clearSlot s)).group with
      faults := kept, overflow := (refreshGeometry (clearSlot s)).group.overflow && decide (16 ≤ kept.length) } = _
    rw [hgroup]
    rfl
  have hexec : exec (.ackFaults .execution) s = .next (settleBrakes (answered 0xC0 tag .done [0, 0, 0x09, s.group.cycle,
      byteOf (s.group.faults.length - kept.length), byteOf kept.length] v)) := by
    refine (exec_execution hw).trans (congrArg (fun x => Host.Outcome.next (settleBrakes x)) ?_)
    unfold executeCommand
    simp only [he]
    rw [handOver_of_none (by
      show v.line.raised = []
      rw [show v.line = (refreshGeometry (clearSlot s)).line from rfl, hline]
      exact hraised)]
    have hcycle : v.group.cycle = s.group.cycle := (congrArg Group.cycle hv).trans rfl
    rw [← hcycle]
    rfl
  have hjack (k : Sta) : v.jack k = { s.jack k with record :=
      if (s.jack k).record.state = .faulted then (s.jack k).record.tested k kept else (s.jack k).record } := by
    rw [← StationRec.retest_eq, ← show (setFaults kept (refreshGeometry (clearSlot s))).jack k = s.jack k from
      congrArg (·.get k) hjacks]
    exact returnFaulted_jack (setFaults kept (refreshGeometry (clearSlot s))) k
  have hfaults : v.group.faults = kept := (congrArg Group.faults hv).trans rfl
  have hcar (i : Nat) : v.cars[i]? = s.cars[i]?.map (refreshedCar (clearSlot s) s.group.faults i) := hcars i
  refine ⟨_, hexec, hfaults, ?_, ?_, hsync, hplan, ?_, fun i c hc => ?_, fun k => ?_⟩
  · show v.group = { s.group with
      slot := none, faults := v.group.faults, overflow := s.group.overflow && decide (16 ≤ v.group.faults.length) }
    rw [hfaults, hv]
  · show v.line.queue ++ _ = _
    rw [show v.line.queue = s.line.queue from congrArg Line.queue hline, ← hfaults]
    rfl
  · refine Nat.le_antisymm (List.getElem?_eq_none_iff.mp ?_) (List.getElem?_eq_none_iff.mp ?_)
    · exact (hcar s.cars.length).trans (by rw [List.getElem?_eq_none (Nat.le_refl _)]; rfl)
    · have := hcar v.cars.length
      rw [List.getElem?_eq_none (Nat.le_refl _)] at this
      exact Option.map_eq_none_iff.mp this.symm
  · have hnt : names .twist i ↔ s.group.faults.any (namesTwist i) = true := by
      simp only [List.any_eq_true, namesTwist_iff]
      exact Iff.rfl
    have hns : names .coupling i ↔ s.group.faults.any (namesStep i) = true := by
      simp only [List.any_eq_true, namesStep_iff]
      exact Iff.rfl
    have hbehind : carBehind (clearSlot s).cars i = if c.coupled then s.cars[i + 1]? else none := by
      rw [carBehind_eq, show (clearSlot s).cars[i]? = some c from hc]
      rfl
    refine ⟨refreshedCar (clearSlot s) s.group.faults i c, (hcar i).trans (by rw [hc]; rfl), rfl, fun h => ?_, fun h => ?_,
      fun b h hcoupled hb => ?_, fun h => ?_⟩
    · exact (if_pos (hnt.mp h)).trans (htwist c)
    · exact if_neg (mt hnt.mpr h)
    · rw [if_pos hcoupled, hb] at hbehind
      unfold refreshedCar
      simp only [hns.mp h, if_true, hbehind, Option.elim]
      exact ⟨hstep c b, (hpast _ _).trans (by rw [show stepBetween (clearSlot s) c b = _ from hstep c b])⟩
    · unfold refreshedCar
      by_cases hn : s.group.faults.any (namesStep i) = true
      · have hnone : carBehind (clearSlot s).cars i = none := by
          obtain h | h | h := h
          · exact absurd (hns.mpr hn) h
          · rw [hbehind, h]
            rfl
          · rw [hbehind, h, ite_self]
        simp only [hn, if_true, hnone, Option.elim, and_self]
      · simp only [if_neg hn, and_self]
  · rw [settleBrakes_jack]
    show (v.jack k).pos = _ ∧ (v.jack k).link = _ ∧ (v.jack k).mon = _ ∧ (v.jack k).record = ite _ ((s.jack k).record.tested k v.group.faults) _
    rw [hjack k, hfaults]
    exact ⟨rfl, rfl, rfl, rfl⟩

end Sys2Proof.Machine

/-! PROOF. The arithmetic of divisors, of corrections and rates, and of the reference's step toward a target (O51). -/

namespace Sys2Proof.Machine

-- One theorem after another, as in the tests: a thread each for this many proofs would pass the memory limit.
set_option Elab.async false

/-! ### From rate to divisor (R40, R41) -/

/-- The length of the divisor of a rate: the quotient, held between its limits. -/
theorem divisorOf_length (rate kStep : Nat) : (divisorOf rate kStep).length = min 262143 (max 992 (rawDivisor rate kStep)) := by
  unfold divisorOf Divisor.length
  simp only
  omega

theorem rawDivisor_lt_iff {rate kStep n : Nat} (h : 0 < rate * kStep) :
    rawDivisor rate kStep < n ↔ 32000000000 + rate * kStep < n * (2 * (rate * kStep)) := by
  unfold rawDivisor
  rw [Nat.mul_assoc 2, Nat.div_lt_iff_lt_mul (by omega)]

theorem divisorOf_nearest {rate kStep : Nat} (h : 0 < rate * kStep) :
    let d := (divisorOf rate kStep).length
    (d < 262143 → 32000000000 < (2 * d + 1) * (rate * kStep)) ∧ (992 < d → (2 * d - 1) * (rate * kStep) ≤ 32000000000) := by
  intro d
  have hd : d = min 262143 (max 992 (rawDivisor rate kStep)) := divisorOf_length rate kStep
  refine ⟨fun hlt => ?_, fun hgt => ?_⟩
  · have := (rawDivisor_lt_iff (n := d + 1) h).mp (by omega)
    rw [show (d + 1) * (2 * (rate * kStep)) = (2 * d + 1) * (rate * kStep) + rate * kStep by ring] at this
    omega
  · have := mt (rawDivisor_lt_iff (n := d) h).mpr (by omega)
    have hsplit : d * (2 * (rate * kStep)) = (2 * d - 1) * (rate * kStep) + rate * kStep := by
      obtain ⟨m, hm⟩ : ∃ m, d = m + 1 := ⟨d - 1, by omega⟩
      rw [hm, show 2 * (m + 1) - 1 = 2 * m + 1 by omega]
      ring
    omega

theorem heldAtCeiling_iff (r : Int) {kStep : Nat} (h : 0 < kStep) :
    heldAtCeiling r kStep = true ↔ 32000000000 < 1983 * (r.natAbs * kStep) := by
  by_cases hr : r = 0
  · simp [heldAtCeiling, hr]
  · have hpos : 0 < r.natAbs * kStep := Nat.mul_pos (Int.natAbs_pos.mpr hr) h
    have hraw := rawDivisor_lt_iff (n := 992) hpos
    simp only [heldAtCeiling, bne_iff_ne, ne_eq, hr, not_false_eq_true, Bool.and_eq_true, decide_eq_true_eq, true_and, hraw]
    omega

/-! ### Corrections and rates (R132 to R134) -/

theorem roundNearest_nonneg {num : Int} (h : 0 ≤ num) (den : Nat) : 0 ≤ roundNearest num den := by
  unfold roundNearest
  rw [if_neg (by omega)]
  exact Int.natCast_nonneg _

theorem roundNearest_nonpos {num : Int} (h : num ≤ 0) {den : Nat} (hd : 0 < den) : roundNearest num den ≤ 0 := by
  unfold roundNearest
  split_ifs with hneg
  · exact neg_nonpos.mpr (Int.natCast_nonneg _)
  · obtain rfl : num = 0 := by omega
    have : (2 * (0 : Int).natAbs + den) / (2 * den) = 0 := Nat.div_eq_of_lt (by simp; omega)
    rw [this]
    rfl

theorem rate_bounds (p : GroupParams) (v : Nat) (j : Jack) :
    let top : Int := j.record.settings.rMax
    let c := correction p j
    (2 * (1600 * c - j.err * p.gain)).natAbs ≤ 1600 ∧
    0 ≤ rateOf p .up v j ∧ rateOf p .up v j ≤ top ∧
    (0 ≤ v + c → v + c ≤ top → rateOf p .up v j = v + c) ∧
    rateOf p .down v j ≤ 0 ∧ -top ≤ rateOf p .down v j ∧
    (-v + c ≤ 0 → -top ≤ -v + c → rateOf p .down v j = -v + c) ∧
    (j.err.natAbs ≤ 100 * p.deadband → rateOf p .none v j = 0) ∧
    (100 * p.deadband < j.err.natAbs → -top ≤ c → c ≤ top → rateOf p .none v j = c) ∧
    (rateOf p .none v j).natAbs ≤ j.record.settings.rMax ∧ (0 < j.err → 0 ≤ rateOf p .none v j) ∧
    (j.err < 0 → rateOf p .none v j ≤ 0) := by
  intro top c
  have htop : 0 ≤ top := Int.natCast_nonneg _
  have hup : rateOf p .up v j = clampInt 0 top (v + c) := by simp [rateOf, RefDir.sign, top, c]
  have hdown : rateOf p .down v j = clampInt (-top) 0 (-v + c) := by simp [rateOf, RefDir.sign, top, c]
  have hnone : rateOf p .none v j = if j.err.natAbs ≤ 100 * p.deadband then 0 else clampInt (-top) top c := rfl
  have hnearest : (2 * (1600 * c - j.err * p.gain)).natAbs ≤ 1600 := by
    rw [Int.natAbs_mul]
    exact natAbs_mul_roundNearest (j.err * p.gain) (den := 1600) (by omega)
  have hpos (h : 0 < j.err) : 0 ≤ c := roundNearest_nonneg (Int.mul_nonneg (by omega) (Int.natCast_nonneg _)) _
  have hneg (h : j.err < 0) : c ≤ 0 :=
    roundNearest_nonpos (Int.mul_nonpos_of_nonpos_of_nonneg (by omega) (Int.natCast_nonneg _)) (by omega)
  rw [hup, hdown, hnone]
  unfold clampInt
  refine ⟨hnearest, by omega, by omega, fun _ _ => by omega, by omega, by omega, fun _ _ => by omega, fun h => if_pos h,
    fun h _ _ => (if_neg (by omega)).trans (by omega), ?_, fun h => ?_, fun h => ?_⟩
  · split_ifs <;> omega
  · have := hpos h
    split_ifs <;> omega
  · have := hneg h
    split_ifs <;> omega

/-! ### The reference's step toward a target (R123) -/

/-- The stopping distance, the first step's fall taken off. -/
theorem stoppingDistance_sub {a : Nat} (h : 0 < a) (v : Nat) : stoppingDistance a v = (v - a) + stoppingDistance a (v - a) := by
  by_cases hv : v < a
  · have h0 : v - a = 0 := by omega
    simp [stoppingDistance, Nat.div_eq_of_lt hv, h0]
  · obtain ⟨w, rfl⟩ : ∃ w, v = w + a := ⟨v - a, by omega⟩
    obtain ⟨n, hn⟩ : ∃ n, w / a = n := ⟨_, rfl⟩
    obtain ⟨T, hT⟩ : ∃ T, n * (n + 1) = 2 * T := (Nat.even_mul_succ_self n).two_dvd
    have hle : a * n ≤ w := by rw [← hn]; exact Nat.mul_div_le w a
    have h1 : a * (n * (n + 1)) / 2 = a * T := by
      rw [hT, show a * (2 * T) = 2 * (a * T) by ring, Nat.mul_div_cancel_left _ (by omega)]
    have h2 : a * ((n + 1) * (n + 1 + 1)) / 2 = a * T + a * (n + 1) := by
      rw [show (n + 1) * (n + 1 + 1) = n * (n + 1) + 2 * (n + 1) by ring, hT,
        show a * (2 * T + 2 * (n + 1)) = 2 * (a * T + a * (n + 1)) by ring, Nat.mul_div_cancel_left _ (by omega)]
    have h3 : a * T ≤ n * w := by
      have hTn : T ≤ n * n := by
        have := Nat.le_mul_self n
        rw [Nat.mul_succ] at hT
        omega
      calc a * T ≤ a * (n * n) := Nat.mul_le_mul_left a hTn
        _ = n * (a * n) := by ring
        _ ≤ n * w := Nat.mul_le_mul_left n hle
    unfold stoppingDistance
    rw [Nat.add_sub_cancel, Nat.add_div_right _ h, hn, h1, h2,
      show (n + 1) * (w + a) = n * w + w + a * (n + 1) by ring]
    omega

theorem stoppingDistance_eq_sum {a : Nat} (h : 0 < a) (v : Nat) :
    stoppingDistance a v = ((List.range v).map (fun i => v - (i + 1) * a)).sum := by
  have key (n v : Nat) (hv : v ≤ n) : stoppingDistance a v = ((List.range n).map (fun i => v - (i + 1) * a)).sum := by
    induction n generalizing v with
    | zero =>
      obtain rfl : v = 0 := by omega
      simp [stoppingDistance]
    | succ n ih =>
      have hshift (i : Nat) : v - (i + 1 + 1) * a = (v - a) - (i + 1) * a := by
        rw [Nat.add_mul (i + 1) 1 a]
        omega
      rw [stoppingDistance_sub h, ih (v - a) (by omega), List.range_succ_eq_map, List.map_cons, List.sum_cons, List.map_map]
      simp [Function.comp_def, hshift]
  exact key v v (Nat.le_refl _)

/-- The speed chosen, case by case. -/
theorem chooseSpeed_cases {a cruise : Nat} (v dist : Nat) (ha : 0 < a) (hc : 0 < cruise) :
    let fits (x : Nat) : Prop := x + stoppingDistance a x ≤ dist
    let c := min (v + a) cruise
    let h := min v cruise
    (fits c → chooseSpeed a cruise v dist = c) ∧ (¬ fits c → fits h → 0 < h → chooseSpeed a cruise v dist = h) ∧
    (¬ fits c → ¬ fits h → 0 < v - a → chooseSpeed a cruise v dist = min (v - a) dist) ∧
    (¬ fits c → (fits h → h = 0) → (¬ fits h → v - a = 0) → chooseSpeed a cruise v dist = min a dist) := by
  intro fits c h
  have hc0 : 0 < c := by omega
  refine ⟨fun h1 => ?_, fun h1 h2 h3 => ?_, fun h1 h2 h3 => ?_, fun h1 h2 h3 => ?_⟩
  · have : c ≤ dist := Nat.le_trans (Nat.le_add_right _ _) h1
    unfold chooseSpeed
    simp only [show min (v + a) cruise + stoppingDistance a (min (v + a) cruise) ≤ dist from h1, if_true]
    rw [if_neg (by omega)]
    omega
  · have : h ≤ dist := Nat.le_trans (Nat.le_add_right _ _) h2
    unfold chooseSpeed
    simp only [show ¬ min (v + a) cruise + stoppingDistance a (min (v + a) cruise) ≤ dist from h1,
      show min v cruise + stoppingDistance a (min v cruise) ≤ dist from h2, if_true, if_false]
    rw [if_neg (by omega)]
    omega
  · unfold chooseSpeed
    simp only [show ¬ min (v + a) cruise + stoppingDistance a (min (v + a) cruise) ≤ dist from h1,
      show ¬ min v cruise + stoppingDistance a (min v cruise) ≤ dist from h2, if_false]
    rw [if_neg (by omega)]
  · unfold chooseSpeed
    simp only [show ¬ min (v + a) cruise + stoppingDistance a (min (v + a) cruise) ≤ dist from h1, if_false]
    by_cases hf : fits h
    · simp only [show min v cruise + stoppingDistance a (min v cruise) ≤ dist from hf, if_true]
      rw [if_pos (h2 hf)]
      omega
    · simp only [show ¬ min v cruise + stoppingDistance a (min v cruise) ≤ dist from hf, if_false]
      rw [if_pos (h3 hf)]
      omega

/-- The speed chosen is 1 at least, rises by the acceleration at most, and does not fall while the present speed can be stopped. -/
theorem chooseSpeed_bounds {a cruise dist : Nat} (v : Nat) (ha : 0 < a) (hc : 0 < cruise) (hd : 0 < dist) :
    1 ≤ chooseSpeed a cruise v dist ∧ chooseSpeed a cruise v dist ≤ v + a ∧
    (v ≤ cruise → v + stoppingDistance a v ≤ dist → v ≤ chooseSpeed a cruise v dist) := by
  obtain ⟨h1, h2, h3, h4⟩ := chooseSpeed_cases v dist ha hc
  by_cases hfc : min (v + a) cruise + stoppingDistance a (min (v + a) cruise) ≤ dist
  · rw [h1 hfc]
    exact ⟨by omega, by omega, fun _ _ => by omega⟩
  · by_cases hfh : min v cruise + stoppingDistance a (min v cruise) ≤ dist
    · by_cases h0 : 0 < min v cruise
      · rw [h2 hfc hfh h0]
        exact ⟨by omega, by omega, fun _ _ => by omega⟩
      · rw [h4 hfc (fun _ => by omega) (absurd hfh)]
        exact ⟨by omega, by omega, fun _ _ => by omega⟩
    · have hno (hv : v ≤ cruise) (hs : v + stoppingDistance a v ≤ dist) : v ≤ chooseSpeed a cruise v dist := by
        rw [Nat.min_eq_left hv] at hfh
        exact absurd hs hfh
      refine ⟨?_, ?_, hno⟩ <;> by_cases h0 : 0 < v - a
      · rw [h3 hfc hfh h0]; omega
      · rw [h4 hfc (fun h => absurd h hfh) (fun _ => by omega)]; omega
      · rw [h3 hfc hfh h0]; omega
      · rw [h4 hfc (fun h => absurd h hfh) (fun _ => by omega)]; omega

/-- Each step at the speed chosen takes one centi-µm at least off the distance. -/
theorem iterate_moves {a cruise : Nat} (ha : 0 < a) (hc : 0 < cruise) (n : Nat) (r : Nat × Nat) :
    ((fun r : Nat × Nat => (chooseSpeed a cruise r.1 r.2, r.2 - chooseSpeed a cruise r.1 r.2))^[n] r).2 ≤ r.2 - n := by
  induction n with
  | zero => exact Nat.le_refl _
  | succ n ih =>
    rw [Function.iterate_succ_apply']
    generalize (fun r : Nat × Nat => _)^[n] r = q at ih ⊢
    show q.2 - chooseSpeed a cruise q.1 q.2 ≤ _
    by_cases hq : 0 < q.2
    · have := (chooseSpeed_bounds q.1 ha hc hq).1
      omega
    · omega

/-- Settles O51. -/
theorem ratesFollowTheReferenceAndTheirDivisors : Obligations.RatesFollowTheReferenceAndTheirDivisors := by
  refine ⟨fun rate kStep hr hk => ⟨divisorSafe_divisorOf rate kStep, divisorOf_nearest (Nat.mul_pos hr hk)⟩,
    fun r kStep hk => heldAtCeiling_iff r hk, fun p v j => rate_bounds p v j, fun a cruise v dist ha hc hd => ?_⟩
  intro move fits c h
  obtain ⟨h1, h2, h3, h4⟩ := chooseSpeed_cases v dist ha hc
  obtain ⟨hone, hrise, hfall⟩ := chooseSpeed_bounds v ha hc hd
  refine ⟨stoppingDistance_eq_sum ha v, h1, h2, h3, h4, hone, chooseSpeed_le a cruise v dist, hrise, hfall, ?_⟩
  exact Nat.eq_zero_of_le_zero ((iterate_moves ha hc dist (v, dist)).trans (by simp))

end Sys2Proof.Machine

/-! PROOF. Takes and the ends of segments: TAKE (O11) and DWELL_COMPLETION (O14). -/

namespace Sys2Proof.Machine

-- One theorem after another, as in the tests: a thread each for this many proofs would pass the memory limit.
set_option Elab.async false

variable {s t u : State} {k : Sta}

/-! ### The banks exchanged (R162) -/

/-- The plan store after a take, its segment mode as given. -/
def Plan.exchanged (p : Plan) (mode : Option RunMode) : Plan := { p.swapped with segMode := mode }

theorem Plan.swapped_eq (p : Plan) : p.swapped = p.exchanged none := by
  unfold Plan.exchanged Plan.swapped
  cases p.active <;> rfl

theorem Plan.exchanged_active (p : Plan) (mode : Option RunMode) : (p.exchanged mode).active = p.pendingLetter := by
  unfold Plan.exchanged Plan.swapped Plan.pendingLetter
  cases p.active <;> rfl

theorem Plan.exchanged_activeBank (p : Plan) (mode : Option RunMode) : (p.exchanged mode).activeBank = p.pendingBank := by
  unfold Plan.exchanged Plan.swapped Plan.activeBank Plan.pendingBank
  cases p.active <;> rfl

theorem Plan.exchanged_rest (p : Plan) (mode : Option RunMode) : (p.exchanged mode).commit = none ∧ (p.exchanged mode).mode = p.mode ∧
    (p.exchanged mode).segMode = mode := by
  unfold Plan.exchanged Plan.swapped
  cases p.active <;> exact ⟨rfl, rfl, rfl⟩

/-- A take, its event raised. -/
theorem takePlan_eq (kind : CommitKind) (continues : Bool) (s : State) : takePlan kind continues s =
    raise (.planTaken s.plan.pendingLetter kind s.plan.pendingBank.length continues)
      { s with plan := s.plan.exchanged none, sync := { s.sync with planPos := 0, dwell := none } } := by
  unfold takePlan
  simp only [Plan.swapped_eq, Plan.exchanged_active, Plan.exchanged_activeBank]

/-! ### Segments started (R122, R166, R167) -/

theorem startedSync_eq (p : GroupParams) (g : Segment) (y : Sync) : startedSync p g y = { y with
    speed := if g.kind = .dwell then 0 else y.speed
    dir := if g.kind = .dwell then .none else if 0 < y.speed then y.dir else dirToward (effectiveTarget p g) y.ref
    dwell := if g.kind = .dwell then some (y.dwell.getD g.dwell) else y.dwell } := by
  unfold startedSync
  cases hk : g.kind with
  | dwell => simp
  | move =>
    by_cases h : y.speed = 0
    · simp [h]
    · simp [h, Nat.pos_of_ne_zero h]

/-- The segment `g` at the plan position starting, before the event. -/
def segmentStarted (g : Segment) (s : State) : State :=
  { s with plan := { s.plan with segMode := some s.plan.mode }, sync := startedSync s.group.params g s.sync }

theorem startSegment_eq {g : Segment} (hg : s.segment = some g) : startSegment s =
    if planLowNow s then raise (.planLow s.plan.active s.sync.planPos) (segmentStarted g s) else segmentStarted g s := by
  unfold startSegment
  rw [hg]
  rfl

theorem startSegment_low {g : Segment} (hg : s.segment = some g) (hl : planLowNow s = true) : startSegment s =
    raise (.planLow s.plan.active s.sync.planPos) (segmentStarted g s) := (startSegment_eq hg).trans (if_pos hl)

theorem startSegment_of_not_low {g : Segment} (hg : s.segment = some g) (hl : planLowNow s = false) :
    startSegment s = segmentStarted g s := (startSegment_eq hg).trans (if_neg (by simp [hl]))

theorem planLowNow_iff (s : State) : planLowNow s = true ↔
    s.sync.planPos + 1 = s.plan.activeBank.length ∧ s.plan.mode = .chained ∧ s.plan.commit ≠ some .append := by
  simp [planLowNow, and_assoc]

/-! ### TAKE (R162 to R164) -/

theorem RoomFor.of_line {n : Nat} (h : RoomFor n s) (hl : t.line = s.line) : RoomFor n t := by
  unfold RoomFor at h ⊢
  rwa [hl]

theorem exec_take (hr : s.pins.resetAsserted = false) : exec .take s = .next (handOver (takeAtCycleStart s)) :=
  congrArg Host.Outcome.next (unlessReset_of_running hr _)

/-- Settles O11. -/
theorem takeExchangesTheBanks : Obligations.TakeExchangesTheBanks := by
  intro s hs swapped
  obtain ⟨hr, hraised⟩ := hs
  have hswapped (mode : Option RunMode) : swapped mode = s.plan.exchanged mode := by
    simp only [swapped]
    unfold Plan.exchanged Plan.swapped
    cases s.plan.active <;> rfl
  rw [exec_take hr]
  refine ⟨fun h => ?_, fun kind hk hroom h => ?_, fun h rest hk hm hb => ?_⟩
  · have : takeAtCycleStart s = s := by
      unfold takeAtCycleStart
      obtain h | ⟨h, hpos⟩ := h
      · rw [h]
      · rw [h]
        exact if_neg (by simpa [State.planCompleted] using hpos)
    rw [this, handOver_of_none hraised]
  · have : takeAtCycleStart s = takePlan kind false s := by
      unfold takeAtCycleStart
      rw [hk]
      obtain ⟨rfl, h⟩ | ⟨rfl, h⟩ := h
      · exact if_neg h
      · exact if_pos (by simpa [State.planCompleted] using h)
    rw [this, takePlan_eq, hswapped]
    exact congrArg _ (handOver_raise _ (hroom.of_line rfl))
  · intro low target started taken
    let v : State := { s with plan := s.plan.exchanged none, sync := { s.sync with planPos := 0, dwell := none } }
    have htake : takeAtCycleStart s =
        startSegment (raise (.planTaken s.plan.pendingLetter .replace s.plan.pendingBank.length true) v) := by
      unfold takeAtCycleStart
      rw [hk]
      exact (if_pos hm).trans (congrArg startSegment (takePlan_eq .replace true s))
    have hbank : v.plan.activeBank = h :: rest := (s.plan.exchanged_activeBank none).trans hb
    have hseg : (raise (.planTaken s.plan.pendingLetter .replace s.plan.pendingBank.length true) v).segment = some h := by
      show v.plan.activeBank[0]? = some h
      rw [hbank]
      rfl
    have hstarted : segmentStarted h (raise (.planTaken s.plan.pendingLetter .replace s.plan.pendingBank.length true) v) =
        raise (.planTaken s.plan.pendingLetter .replace s.plan.pendingBank.length true) started := by
      unfold segmentStarted
      rw [startedSync_eq]
      simp only [started, hswapped]
      show _ = raise _ { s with plan := { s.plan.exchanged none with segMode := some s.plan.mode }, sync := _ }
      have hmode : (s.plan.exchanged none).mode = s.plan.mode := (s.plan.exchanged_rest none).2.1
      simp only [raise, v, hmode]
      rfl
    have hlow : planLowNow (raise (.planTaken s.plan.pendingLetter .replace s.plan.pendingBank.length true) v) = true ↔ low := by
      rw [planLowNow_iff]
      obtain ⟨hcommit, hmode, -⟩ := s.plan.exchanged_rest none
      simp [raise, hbank, v, hcommit, hmode, low, List.length_eq_zero_iff]
    refine ⟨fun hl hroom => ?_, fun hl hroom => ?_⟩
    · rw [htake, startSegment_of_not_low hseg (by rw [← Bool.not_eq_true, hlow]; exact hl), hstarted]
      exact congrArg _ (handOver_raise _ (hroom.of_line rfl))
    · have hactive : (raise (.planTaken s.plan.pendingLetter .replace s.plan.pendingBank.length true) v).plan.active =
          s.plan.pendingLetter := s.plan.exchanged_active none
      rw [htake, startSegment_low hseg (hlow.mpr hl), hstarted, hactive]
      exact congrArg _ (handOver_raise_raise _ _ (hroom.of_line rfl))

/-! ### Segments completed (R125, R168, R169) -/

/-- The plan position past the completed segment, before what follows. -/
def segmentLeft (s : State) : State :=
  { s with plan := { s.plan with segMode := none }, sync := { s.sync with dwell := none, planPos := s.sync.planPos + 1 } }

/-- The completion of a segment, case by case: it rests or the next one starts, after its plan's take where one is due. -/
theorem completeSegment_cases (g : Segment) (s : State) :
    let holds : Prop := holdsAfter g s.plan.segMode = true
    let last : Prop := s.sync.planPos + 1 = s.plan.activeBank.length
    let queued : Prop := s.plan.commit = some .append
    let done (last rests : Bool) : State := raise (.segmentDone s.plan.active s.sync.planPos g.kind last rests) (segmentLeft s)
    (holds ∨ last → (last → ¬ queued) → completeSegment g s = enterHolding (done (decide last) true)) ∧
    (holds → last → queued → completeSegment g s = enterHolding (takePlan .append false (done true true))) ∧
    (¬ holds → ¬ last → completeSegment g s = startSegment (segmentLeft s)) ∧
    (¬ holds → last → queued → completeSegment g s = startSegment (takePlan .append true (done true false))) := by
  intro holds last queued done
  have hlast : (s.sync.planPos + 1 == s.plan.activeBank.length) = decide last := rfl
  have hqueued : (s.plan.commit == some .append) = decide queued := by
    rw [Bool.eq_iff_iff]
    simp [queued]
  unfold completeSegment
  simp only [hlast, hqueued]
  refine ⟨fun h h' => ?_, fun h h' h'' => ?_, fun h h' => ?_, fun h h' h'' => ?_⟩
  · by_cases hl : last
    · simp [hl, h' hl, done, segmentLeft]
    · have hh : holdsAfter g s.plan.segMode = true := h.resolve_right hl
      simp [hl, hh, done, segmentLeft]
  · have hh : holdsAfter g s.plan.segMode = true := h
    simp [hh, h', h'', done, segmentLeft]
  · have hh : holdsAfter g s.plan.segMode = false := Bool.eq_false_iff.mpr h
    simp [hh, h', segmentLeft]
  · have hh : holdsAfter g s.plan.segMode = false := Bool.eq_false_iff.mpr h
    simp [hh, h', h'', done, segmentLeft]

theorem holdsAfter_iff (g : Segment) (m : RunMode) : holdsAfter g (some m) = true ↔ g.stopAfter = true ∨ (m = .single ∧ g.kind = .move) := by
  simp [holdsAfter]

/-! ### DWELL_COMPLETION (R126) -/

/-- The event raised last is handed over last. -/
theorem handOver_raise_last (e : Event) (s : State) :
    handOver (raise e s) = handEvent { event := e, cycle := (handOver s).group.cycle } (handOver s) := by
  rw [handOver_group]
  unfold handOver raise
  rw [List.foldl_append]
  rfl

/-- An event raised behind others, with room for it, becomes the last notice. -/
theorem handOver_raise_noticed (e : Event) (h : handOver s = t) (ht : RoomFor 1 t) : handOver (raise e s) = noticed e t := by
  rw [handOver_raise_last, h, handEvent_of_room e ht]

/-- Three events raised, with room for all, become their notices in order. -/
theorem handOver_raise_three (e f g : Event) (h : RoomFor 3 s) :
    handOver (raise g (raise f (raise e s))) = noticed g (noticed f (noticed e s)) :=
  handOver_raise_noticed g (handOver_raise_raise e f (h.mono (by omega))) ((h.noticed e).noticed f)

/-- The group at rest in HOLDING, before the event that reports it. -/
def rested (s : State) : State :=
  { s with group := { s.group with state := .holding }, sync := { s.sync with speed := 0, dir := .none } }

theorem enterHolding_raise (s : State) : enterHolding s = raise (.state s.group.state .holding) (rested s) := rfl

theorem rested_raise (e : Event) (s : State) : rested (raise e s) = raise e (rested s) := rfl

/-- A take, before its event. -/
def taken (s : State) : State := { s with plan := s.plan.exchanged none, sync := { s.sync with planPos := 0, dwell := none } }

theorem exec_dwellCompletion {g : Segment} (hr : s.pins.resetAsserted = false) (hm : s.group.state = .moving)
    (hmode : s.plan.segMode.isSome = true) (hg : s.segment = some g) (hk : g.kind = .dwell) (hd : s.sync.dwell = some 1) :
    exec .dwellCompletion s =
      .next (settleBrakes (handOver (completeSegment g { s with sync := { s.sync with dwell := some 0 } }))) := by
  have hending : endingDwell s = some g := by
    unfold endingDwell
    rw [hm, hg, hd]
    exact if_pos ⟨hk, hmode⟩
  have hstep : (dwellStep g s).state = completeSegment g { s with sync := { s.sync with dwell := some 0 } } := by
    unfold dwellStep
    rw [hd]
    rfl
  refine congrArg Host.Outcome.next ((unlessReset_of_running hr _).trans ?_)
  unfold dwellWork
  rw [hending]
  exact congrArg (fun x => settleBrakes (handOver x)) hstep

/-- Settles O14. -/
theorem dwellCompletesIntoTheNextSegment : Obligations.DwellCompletesIntoTheNextSegment := by
  intro g m s hs hb hm hmode hg hk hd hv k last queued done taken' exchanged holding started
  obtain ⟨hr, hraised⟩ := hs
  let w : State := { s with sync := { s.sync with dwell := some 0 } }
  obtain ⟨hrest, htakenRest, hstart, htakenStart⟩ := completeSegment_cases g w
  have hexchanged (mode : Option RunMode) : exchanged mode = s.plan.exchanged mode := by
    simp only [exchanged]
    unfold Plan.exchanged Plan.swapped
    cases s.plan.active <;> rfl
  have hholds : holdsAfter g w.plan.segMode = true ↔ g.stopAfter = true := by
    rw [show w.plan.segMode = some m from hmode, holdsAfter_iff, hk]
    simp
  rw [hholds] at hrest htakenRest hstart htakenStart
  have hsettled (t : State) (hj : t.jacks = s.jacks) (hp : t.group.permit = s.group.permit)
      (hst : t.group.state ∈ [.poised, .moving, .holding, .stopping, .landing]) : settleBrakes t = t :=
    settleBrakes_of_safe fun i => by
      rw [show t.jack i = s.jack i from congrArg (·.get i) hj]
      exact (hb hr i).congr hp (brakeCalled_lifting hst (by rw [hm]; simp) _)
  have hexec (x y : State) (hx : completeSegment g w = x) (hy : handOver x = y) (hj : y.jacks = s.jacks)
      (hp : y.group.permit = s.group.permit) (hst : y.group.state ∈ [.poised, .moving, .holding, .stopping, .landing]) :
      exec .dwellCompletion s = .next y := by
    rw [exec_dwellCompletion hr hm (by rw [hmode]; rfl) hg hk hd, show completeSegment g _ = x from hx, hy, hsettled y hj hp hst]
  have hstarted (h : Segment) (plan : Plan) (pos : Nat) : startedSync s.group.params h
      { s.sync with dwell := none, planPos := pos } = (started h plan pos).sync := by
    rw [startedSync_of_rest (y := { s.sync with dwell := none, planPos := pos }) hv]
    rfl
  have hsync (pos : Nat) : ({ s.sync with dwell := none, planPos := pos, speed := 0, dir := .none } : Sync) =
      { s.sync with dwell := none, planPos := pos, dir := .none } := by rw [← hv]
  refine ⟨fun hq hh hroom => ?_, fun hl hq hh hroom => ?_, fun h hh hnext => ⟨fun hlow hc hq hroom => ?_, fun hnot => ?_⟩,
    fun h rest hh hl hq hbank hroom => ?_⟩
  · have hx : completeSegment g w = raise (.state .moving .holding) (raise (.segmentDone s.plan.active k .dwell (decide last) true)
        (holding { s.plan with segMode := none } (k + 1))) := by
      rw [hrest hh hq, enterHolding_raise, rested_raise]
      show raise (.state s.group.state .holding) (raise (.segmentDone s.plan.active k g.kind (decide last) true) { s with
        group := { s.group with state := .holding }, plan := { s.plan with segMode := none }
        sync := { s.sync with dwell := none, planPos := k + 1, speed := 0, dir := .none } }) = _
      rw [hsync, hm, hk]
    exact hexec _ _ hx (handOver_raise_raise _ _ (hroom.of_line rfl)) rfl rfl (by simp [noticed, done, holding])
  · have hx : completeSegment g w = raise (.state .moving .holding)
        (raise (.planTaken s.plan.pendingLetter .append s.plan.pendingBank.length false)
          (raise (.segmentDone s.plan.active k .dwell true true) (holding (exchanged none) 0))) := by
      rw [htakenRest hh hl hq, takePlan_eq, enterHolding_raise, rested_raise]
      show raise (.state s.group.state .holding) (raise (.planTaken s.plan.pendingLetter .append s.plan.pendingBank.length false)
        (raise (.segmentDone s.plan.active k g.kind true true) { s with
          group := { s.group with state := .holding }, plan := s.plan.exchanged none
          sync := { s.sync with dwell := none, planPos := 0, speed := 0, dir := .none } })) = _
      rw [hsync, hm, hk, ← hexchanged]
    exact hexec _ _ hx (handOver_raise_three _ _ _ (hroom.of_line rfl)) rfl rfl (by simp [noticed, done, taken', holding])
  · have hlast : ¬ last := fun h => by
      rw [show k + 1 = s.plan.activeBank.length from h, List.getElem?_eq_none (Nat.le_refl _)] at hnext
      cases hnext
    have hx : completeSegment g w = raise (.planLow s.plan.active (k + 1)) (started h { s.plan with segMode := some s.plan.mode } (k + 1)) := by
      rw [hstart (by simp [hh]) hlast, startSegment_low (s := segmentLeft w) hnext
        ((planLowNow_iff (segmentLeft w)).mpr ⟨hlow, hc, hq⟩)]
      show raise (.planLow s.plan.active (k + 1)) { s with
        plan := { s.plan with segMode := some s.plan.mode }
        sync := startedSync s.group.params h { s.sync with dwell := none, planPos := k + 1 } } = _
      rw [hstarted h { s.plan with segMode := some s.plan.mode }]
    exact hexec _ _ hx (handOver_raise _ (hroom.of_line rfl)) rfl rfl (by simp [noticed, started, hm])
  · have hlast : ¬ last := fun h => by
      rw [show k + 1 = s.plan.activeBank.length from h, List.getElem?_eq_none (Nat.le_refl _)] at hnext
      cases hnext
    have hx : completeSegment g w = started h { s.plan with segMode := some s.plan.mode } (k + 1) := by
      have hlow : planLowNow (segmentLeft w) = false := by
        rw [← Bool.not_eq_true, planLowNow_iff]
        rintro ⟨h1, h2, h3⟩
        have h1 : k + 2 = s.plan.activeBank.length := h1
        have h2 : s.plan.mode = .chained := h2
        obtain h | h | h := hnot
        · omega
        · rw [h2] at h
          cases h
        · exact h3 h
      rw [hstart (by simp [hh]) hlast, startSegment_of_not_low (s := segmentLeft w) hnext hlow]
      show ({ s with
        plan := { s.plan with segMode := some s.plan.mode }
        sync := startedSync s.group.params h { s.sync with dwell := none, planPos := k + 1 } } : State) = _
      rw [hstarted h { s.plan with segMode := some s.plan.mode }]
    exact hexec _ _ hx (handOver_of_none hraised) rfl rfl (by simp [started, hm])
  · intro t
    let v : State := raise (.planTaken s.plan.pendingLetter .append s.plan.pendingBank.length true)
      (raise (.segmentDone s.plan.active k .dwell true false) (started h (exchanged (some s.plan.mode)) 0))
    obtain ⟨hcommit, hmodeKept, -⟩ := s.plan.exchanged_rest none
    let x : State := { raise (.segmentDone s.plan.active k .dwell true false) (segmentLeft w) with
      plan := s.plan.exchanged none, sync := { s.sync with dwell := none, planPos := 0 } }
    have htake : takePlan .append true (raise (.segmentDone s.plan.active k g.kind true false) (segmentLeft w)) =
        raise (.planTaken s.plan.pendingLetter .append s.plan.pendingBank.length true) x := by
      rw [takePlan_eq, hk]
      rfl
    have hbank' : x.plan.activeBank = h :: rest := (s.plan.exchanged_activeBank none).trans hbank
    have hseg : (raise (.planTaken s.plan.pendingLetter .append s.plan.pendingBank.length true) x).segment = some h := by
      show x.plan.activeBank[0]? = some h
      rw [hbank']
      rfl
    have hlow : planLowNow (raise (.planTaken s.plan.pendingLetter .append s.plan.pendingBank.length true) x) = true ↔
        rest = [] ∧ s.plan.mode = .chained := by
      rw [planLowNow_iff]
      simp [raise, hbank', x, hcommit, hmodeKept, List.length_eq_zero_iff]
    have hstart : segmentStarted h (raise (.planTaken s.plan.pendingLetter .append s.plan.pendingBank.length true) x) = v := by
      show raise (.planTaken s.plan.pendingLetter .append s.plan.pendingBank.length true)
        (raise (.segmentDone s.plan.active k .dwell true false) { s with
          plan := { s.plan.exchanged none with segMode := some (s.plan.exchanged none).mode }
          sync := startedSync s.group.params h { s.sync with dwell := none, planPos := 0 } }) = v
      rw [hstarted h (exchanged (some s.plan.mode)), hmodeKept]
      simp only [v, started, hexchanged]
      rfl
    have hx : completeSegment g w = if rest = [] ∧ s.plan.mode = .chained then raise (.planLow s.plan.pendingLetter 0) v else v := by
      refine (htakenStart (by simp [hh]) hl hq).trans ?_
      show startSegment (takePlan .append true (raise (.segmentDone s.plan.active k g.kind true false) (segmentLeft w))) = _
      have : (x.plan).active = s.plan.pendingLetter := s.plan.exchanged_active none
      rw [htake, startSegment_eq hseg, hstart]
      simp only [hlow, raise_plan, raise_sync, this]
      rfl
    split_ifs at hx ⊢ with hc
    · exact hexec _ _ hx (handOver_raise_three _ _ _ (hroom.of_line rfl)) rfl rfl (by simp [noticed, t, done, taken', started, hm])
    · exact hexec _ _ hx (handOver_raise_raise _ _ (hroom.of_line rfl |>.mono (by omega))) rfl rfl
        (by simp [noticed, t, done, taken', started, hm])

end Sys2Proof.Machine

/-! PROOF. The load link's bytes and slots (O15). -/

namespace Sys2Proof.Machine

-- One theorem after another, as in the tests: a thread each for this many proofs would pass the memory limit.
set_option Elab.async false

variable {s t u : State} {k : Sta}

/-! ### The answer of a slot (R77, R79) -/

/-- An answer of six bytes without a framing fault, with address, cycle number, status, load and a good check. -/
def linkAnswer (a e st : Byte) (load : Half) : List LinkByte :=
  ([a, e] ++ bytes2 load ++ [st, crc8 ([a, e] ++ bytes2 load ++ [st])]).map (fun x => { byte := x, framingFault := false })

theorem slotBytes_linkAnswer (a e st : Byte) (load : Half) : slotBytes (linkAnswer a e st load) =
    [a, e] ++ bytes2 load ++ [st, crc8 ([a, e] ++ bytes2 load ++ [st])] := by
  unfold slotBytes linkAnswer
  rw [List.map_map]
  exact List.map_id _

theorem wellFramed_linkAnswer (a e st : Byte) (load : Half) : wellFramed (linkAnswer a e st load) = true := rfl

theorem linkAnswer_fields (a e st : Byte) (load : Half) :
    byteAt (slotBytes (linkAnswer a e st load)) 0 = a ∧ byteAt (slotBytes (linkAnswer a e st load)) 1 = e ∧
    byteAt (slotBytes (linkAnswer a e st load)) 4 = st ∧ halfAt (slotBytes (linkAnswer a e st load)) 2 = load ∧
    answerPasses (slotBytes (linkAnswer a e st load)) = true := by
  rw [slotBytes_linkAnswer]
  refine ⟨rfl, rfl, rfl, ?_, ?_⟩
  · have := halfAt_append_bytes2 [a, e] load
    exact this
  · exact beq_self_eq_true _

theorem wellFramed_iff (l : List LinkByte) : wellFramed l = true ↔
    (l.map (fun b => b.byte)).length = 6 ∧ ∀ b ∈ l, b.framingFault = false := by
  simp [wellFramed]

theorem answerPasses_iff {l : List Byte} (h : l.length = 6) : answerPasses l = true ↔ l[5]? = some (crc8 (l.take 5)) := by
  have h5 : l[5]? = some (byteAt l 5) := by
    rw [byteAt, List.getD_eq_getElem?_getD, List.getElem?_eq_getElem (by omega)]
    rfl
  rw [answerPasses, beq_iff_eq, h5, Option.some.injEq]
  exact eq_comm

theorem byteOf_station_toNat (k : Sta) : (byteOf k.val).toNat = k.val := by
  rw [byteOf, BitVec.toNat_ofNat]
  omega

theorem toNat_ne_station {a : Byte} {k : Sta} : a.toNat ≠ k.val ↔ a ≠ byteOf k.val := by
  rw [not_iff_not]
  conv_lhs => rw [← byteOf_station_toNat k]
  exact BitVec.toNat_inj

/-- The outcome of an answer that is whole and passes its check, from its address, its cycle number and its status. -/
theorem classify_linkAnswer (k : Sta) (c a e st : Byte) (load : Half) : classify k c false (linkAnswer a e st load) =
    if a ≠ byteOf k.val then .garbled else if e ≠ c then .stale
    else if st = 0x00 then .fresh else if st = 0x01 then .overrange else if st = 0x02 then .sensorFault else .garbled := by
  obtain ⟨h0, h1, h4, -, hpass⟩ := linkAnswer_fields a e st load
  unfold classify
  simp only [h0, h1, h4, hpass, wellFramed_linkAnswer, toNat_ne_station]
  rfl

theorem classify_of_not_framed {l : List LinkByte} (c : Byte) (hl : l ≠ []) (h : wellFramed l = false) :
    classify k c false l = .garbled := by
  unfold classify
  simp [hl, h]

theorem classify_of_not_passing {l : List LinkByte} (c : Byte) (hl : l ≠ []) (h : answerPasses (slotBytes l) = false) :
    classify k c false l = .garbled := by
  unfold classify
  simp [hl, h]

/-! ### The close of a slot (R79 to R81) -/

theorem exec_slotClose (hr : s.pins.resetAsserted = false) (k : Sta) (b : Bool) :
    exec (.slotClose k b) s = .next (handOver (closeSlot k b s)) := congrArg Host.Outcome.next (unlessReset_of_running hr _)

/-- An assigned station's slot with its outcome recorded. -/
def slotRecorded (k : Sta) (o : SlotOutcome) (load : Nat) (s : State) : State :=
  s.updJack k (fun j => { j with link := (j.link.record o load).close })

/-- The close of an assigned station's slot whose answer has no other address. -/
theorem exec_slotClose_assigned {b : Bool} {o : SlotOutcome} (hs : Acting s) (ho : (s.jack k).link.slotOpen = true)
    (ha : (s.jack k).assigned = true) (hc : classify k s.group.cycle b (s.jack k).link.bytes = o)
    (hw : wrongAddress k b (s.jack k).link.bytes = false) :
    exec (.slotClose k b) s = .next (slotRecorded k o (halfAt (slotBytes (s.jack k).link.bytes) 2).toNat s) := by
  rw [exec_slotClose hs.1]
  have : closeSlot k b s = slotRecorded k o (halfAt (slotBytes (s.jack k).link.bytes) 2).toNat s := by
    unfold closeSlot
    simp only [ho, ha, hc, hw, Bool.not_true, Bool.false_eq_true, if_false, if_true]
    rfl
  rw [this, handOver_of_none (by exact hs.2)]

theorem exec_slotClose_stray (hs : Acting s) (ho : (s.jack k).link.slotOpen = true) (ha : (s.jack k).assigned = true)
    (hw : wrongAddress k false (s.jack k).link.bytes = true) (hroom : RoomFor 1 s) :
    exec (.slotClose k false) s = .next (noticed (.stray k.val (some (byteAt (slotBytes (s.jack k).link.bytes) 0)))
      (slotRecorded k (classify k s.group.cycle false (s.jack k).link.bytes) (halfAt (slotBytes (s.jack k).link.bytes) 2).toNat s)) := by
  rw [exec_slotClose hs.1]
  unfold closeSlot
  simp only [ho, ha, hw, Bool.not_true, Bool.false_eq_true, if_false, if_true]
  exact congrArg _ (handOver_raise _ (hroom.of_line rfl))

theorem wrongAddress_linkAnswer (k : Sta) (a e st : Byte) (load : Half) :
    wrongAddress k false (linkAnswer a e st load) = decide (a ≠ byteOf k.val) := by
  obtain ⟨h0, -, -, -, hpass⟩ := linkAnswer_fields a e st load
  unfold wrongAddress
  rw [h0, hpass, wellFramed_linkAnswer]
  simp only [Bool.not_false, Bool.true_and]
  rw [Bool.eq_iff_iff, bne_iff_ne, decide_eq_true_eq, toNat_ne_station]

/-- The close of an unassigned station's slot. -/
theorem exec_slotClose_unassigned {b : Bool} (hs : Acting s) (ho : (s.jack k).link.slotOpen = true) (ha : (s.jack k).assigned = false) :
    let cleared : State := s.updJack k (fun j => { j with link :=
      { j.link with miss := 0, outcome := .none, fresh := false, slotOpen := false, bytes := [] } })
    ((s.jack k).link.bytes = [] → b = false → exec (.slotClose k b) s = .next cleared) ∧
    ((s.jack k).link.bytes ≠ [] ∨ b = true → RoomFor 1 s →
      exec (.slotClose k b) s = .next (noticed (.stray k.val (strayAddress (s.jack k).link.bytes b)) cleared)) := by
  intro cleared
  rw [exec_slotClose hs.1]
  unfold closeSlot
  refine ⟨fun hb hp => ?_, fun hb hroom => ?_⟩
  · simp only [ho, ha, hb, hp, Bool.not_true, Bool.false_eq_true, if_false, List.isEmpty_nil, Bool.or_self]
    exact congrArg _ (handOver_of_none hs.2)
  · have : (!(s.jack k).link.bytes.isEmpty || b) = true := by
      obtain hb | hb := hb <;> simp [hb]
    simp only [ho, ha, this, Bool.not_true, Bool.false_eq_true, if_false, if_true]
    exact congrArg _ (handOver_raise _ (hroom.of_line rfl))

/-! ### A byte received (R75, R78, R81) -/

theorem exec_byte {b : Byte} {f : Bool} (hs : Acting s) (w : LinkWindow) : exec (.loadByteReceived w b f) s =
    .next (handOver (receiveLinkByte w { byte := b, framingFault := f } s)) := congrArg Host.Outcome.next (unlessReset_of_running hs.1 _)

theorem exec_byte_discarded {b : Byte} {f : Bool} (w : LinkWindow) (hs : Acting s) (h : s.link.lde = true ∨ s.link.started = false) :
    exec (.loadByteReceived w b f) s = .next s := by
  have : receiveLinkByte w { byte := b, framingFault := f } s = s := if_pos (by obtain h | h := h <;> simp [h])
  rw [exec_byte hs, this, handOver_of_none hs.2]

/-- A byte that is not discarded, from its window. -/
theorem receiveLinkByte_taken {w : LinkWindow} {b : LinkByte} (hl : s.link.lde = false) (hst : s.link.started = true) :
    receiveLinkByte w b s = match w with
      | .slot k =>
        if (s.jack k).link.slotOpen then
          s.updJack k (fun j => { j with link := { j.link with bytes := j.link.bytes ++ [b] } })
        else s
      | .beacon => raise (.stray 32 none) s
      | .quiet => raise (.stray 32 none) s := by
  refine Eq.trans (if_neg (by simp [hl, hst])) ?_
  cases w <;> rfl

/-- Settles O15. -/
theorem slotsRecordTheirAnswers : Obligations.SlotsRecordTheirAnswers := by
  refine ⟨⟨fun s => rfl, fun b f s hs => ⟨fun w hl => ?high, fun hl hst => ⟨fun k ho => ?slot, fun hroom => ⟨?beacon, ?quiet⟩⟩⟩⟩,
    fun k s hs ho => ?close⟩
  case high => rw [exec_byte_discarded w hs (.inl hl)]
  case slot =>
    refine (exec_byte hs _).trans (congrArg _ ?_)
    rw [receiveLinkByte_taken hl hst]
    exact (congrArg handOver (if_pos ho)).trans (handOver_of_none hs.2)
  case beacon =>
    refine (exec_byte hs _).trans (congrArg _ ?_)
    rw [receiveLinkByte_taken hl hst]
    exact handOver_raise _ hroom
  case quiet =>
    refine (exec_byte hs _).trans (congrArg _ ?_)
    rw [receiveLinkByte_taken hl hst]
    exact handOver_raise _ hroom
  case close =>
    intro answer fresh missed bytes framed checked cleared
    have hframed : wellFramed (s.jack k).link.bytes = true ↔ framed := wellFramed_iff _
    have hpassed (hf : framed) : answerPasses (slotBytes (s.jack k).link.bytes) = true ↔ checked := answerPasses_iff hf.1
    refine ⟨fun ha => ?_, fun ha => ?_⟩
    · have hanswer {a e st : Byte} {load : Half} {o : SlotOutcome} (hb : (s.jack k).link.bytes = answer a e st load)
          (haddr : a = byteOf k.val) (ho' : classify k s.group.cycle false (linkAnswer a e st load) = o) :
          exec (.slotClose k false) s = .next (slotRecorded k o load.toNat s) := by
        have hb' : (s.jack k).link.bytes = linkAnswer a e st load := hb
        have := exec_slotClose_assigned (b := false) (o := o) hs ho ha (by rw [hb', ho'])
          (by rw [hb', wrongAddress_linkAnswer]; simpa using haddr)
        rw [this, hb', (linkAnswer_fields a e st load).2.2.2.1]
      have hplain {o : SlotOutcome} (hc : classify k s.group.cycle false (s.jack k).link.bytes = o)
          (hw : wrongAddress k false (s.jack k).link.bytes = false) := exec_slotClose_assigned (b := false) hs ho ha hc hw
      refine ⟨fun load hb => ?_, fun load hb => ?_, fun load hb => ?_, fun e st load he hb => ?_, fun a e st load haddr hb hroom => ?_,
        fun st load hst hb => ?_, fun hb hf => ?_, fun hf hc => ?_, ?_, fun hb => ?_⟩
      · exact hanswer (o := .fresh) hb rfl (by rw [classify_linkAnswer]; simp)
      · exact hanswer (o := .overrange) hb rfl (by rw [classify_linkAnswer]; simp)
      · exact hanswer (o := .sensorFault) hb rfl (by rw [classify_linkAnswer]; simp)
      · exact hanswer (o := .stale) hb rfl (by rw [classify_linkAnswer]; simp [he])
      · have hb' : (s.jack k).link.bytes = linkAnswer a e st load := hb
        have hstray := exec_slotClose_stray hs ho ha (by rw [hb', wrongAddress_linkAnswer]; simpa using haddr) hroom
        rw [hstray, hb', (linkAnswer_fields a e st load).1, classify_linkAnswer, if_pos haddr]
        rfl
      · refine hanswer hb rfl (o := .garbled) ?_
        have h0 : st ≠ 0x00 := fun e => by rw [e] at hst; exact absurd hst (by decide)
        have h1 : st ≠ 0x01 := fun e => by rw [e] at hst; exact absurd hst (by decide)
        have h2 : st ≠ 0x02 := fun e => by rw [e] at hst; exact absurd hst (by decide)
        rw [classify_linkAnswer, if_neg (by simp), if_neg (by simp), if_neg h0, if_neg h1, if_neg h2]
      · have hf' : wellFramed (s.jack k).link.bytes = false := Bool.eq_false_iff.mpr (mt hframed.mp hf)
        exact hplain (classify_of_not_framed _ hb hf') (by simp [wrongAddress, hf'])
      · have hc' : answerPasses (slotBytes (s.jack k).link.bytes) = false := Bool.eq_false_iff.mpr (mt (hpassed hf).mp hc)
        have hb : (s.jack k).link.bytes ≠ [] := fun e => by
          have := hf.1
          simp [bytes, e] at this
        exact hplain (classify_of_not_passing _ hb hc') (by simp [wrongAddress, hc'])
      · exact exec_slotClose_assigned (b := true) (o := .late) hs ho ha (by simp [classify]) (by simp [wrongAddress])
      · exact hplain (o := .silent) (by simp [classify, hb]) (by simp [wrongAddress, hb, wellFramed])
    · have hnone := (exec_slotClose_unassigned (b := false) hs ho ha).1
      have hstray (b : Bool) := (exec_slotClose_unassigned (b := b) hs ho ha).2
      have haddress (b : Bool) : strayAddress (s.jack k).link.bytes b = if b = false ∧ framed ∧ checked then
          some (byteAt (slotBytes (s.jack k).link.bytes) 0) else none := by
        unfold strayAddress
        refine if_congr ?_ rfl rfl
        rw [Bool.and_eq_true, Bool.and_eq_true, Bool.not_eq_true', hframed, and_assoc]
        exact and_congr_right fun _ => and_congr_right fun hf => hpassed hf
      refine ⟨fun hb => hnone hb rfl, fun hroom => ⟨fun hb hn => ?_, fun a rest hb hf hc => ?_, ?_⟩⟩
      · rw [hstray false (.inl hb) hroom, haddress, if_neg (fun h => hn h.2)]
      · have hne : (s.jack k).link.bytes ≠ [] := fun e => by simp [bytes, e] at hb
        rw [hstray false (.inl hne) hroom, haddress, if_pos ⟨rfl, hf, hc⟩, show slotBytes (s.jack k).link.bytes = a :: rest from hb]
        rfl
      · rw [hstray true (.inr rfl) hroom, haddress, if_neg (fun h => by cases h.1)]

end Sys2Proof.Machine

/-! PROOF. What a detection does to the fault list, to the station it names and to the group (R16, R103 to R105, R109). -/

namespace Sys2Proof.Machine

-- One theorem after another, as in the tests: a thread each for this many proofs would pass the memory limit.
set_option Elab.async false

variable {s t u : State} {f g : FaultKind} {x y : Subject} {k i : Sta}

/-! ### The fault list (R103) -/

/-- An entry of kind `f` and subject `x` stands in the fault list. -/
def State.lists (s : State) (f : FaultKind) (x : Subject) : Bool :=
  s.group.faults.any (fun e => e.kind == f && e.subject == x)

/-- The group a detection of `f` and `x` leaves, but for a stop: the fault met where it stands, added to a list with room, or the
overflow mark set. -/
def Group.listing (g : Group) (f : FaultKind) (x : Subject) : Group :=
  if g.faults.any (fun e => e.kind == f && e.subject == x) then g
  else if g.faults.length < 16 then { g with faults := g.faults ++ [{ kind := f, subject := x, cycle := g.cycle }] }
  else { g with overflow := true }

theorem listFault_group (f : FaultKind) (x : Subject) (s : State) : (listFault f x s).group = s.group.listing f x := by
  unfold Group.listing
  obtain ⟨h, e⟩ | ⟨h, hl, e, -⟩ | ⟨h, hl, e, -⟩ := listFault_cases f x s <;> rw [e]
  · rw [if_pos h]
  · rw [if_neg (by simp [h]), if_pos hl]
  · rw [if_neg (by simp [h]), if_neg (by omega)]

theorem Raises.listFault (f : FaultKind) (x : Subject) (s : State) : Raises s (listFault f x s) := by
  unfold Machine.listFault
  split_ifs
  · exact .refl s
  · exact (Raises.of_line rfl).trans (.raise _ _)
  · exact (Raises.of_line rfl).trans (.raise _ _)

/-- What is kept of the fault list, of the events on their way and of the stations that are FAULTED, from one stage of a cycle start
to a later one: entries are added alone, each of them told; the overflow mark stands; and a FAULTED station keeps its fault. -/
structure Carries (s t : State) : Prop where
  tells : Tells s t
  cycle : t.group.cycle = s.group.cycle
  grows : ∃ l, t.group.faults = s.group.faults ++ l
  full : 16 ≤ s.group.faults.length → t.group.faults = s.group.faults
  overflow : s.group.overflow = true → t.group.overflow = true
  told : ∀ f x, t.lists f x = true → s.lists f x = true ∨ Told (.stationFault f x true) s.group.cycle t
  faulted : ∀ k, (s.jack k).record.state = .faulted → (t.jack k).record.state = .faulted ∧
    (t.jack k).record.faultKind = (s.jack k).record.faultKind ∧ (t.jack k).record.prior = (s.jack k).record.prior ∧
    (t.jack k).record.contact = (s.jack k).record.contact

/-- A station that is FAULTED keeps its fault. -/
def StationRec.FaultKept (r q : StationRec) : Prop := r.state = .faulted →
  q.state = .faulted ∧ q.faultKind = r.faultKind ∧ q.prior = r.prior ∧ q.contact = r.contact

theorem StationRec.FaultKept.of_eq {r q : StationRec} (h : q = r) : r.FaultKept q := fun hf => by subst h; exact ⟨hf, rfl, rfl, rfl⟩

theorem StationRec.FaultKept.of_not {r q : StationRec} (h : r.state ≠ .faulted) : r.FaultKept q := fun hf => absurd hf h

/-- A stage that leaves the fault list, the overflow mark and the cycle number alone. -/
theorem Carries.of_group (htells : Tells s t) (hc : t.group.cycle = s.group.cycle) (hf : t.group.faults = s.group.faults)
    (ho : t.group.overflow = s.group.overflow) (hj : ∀ k, (s.jack k).record.FaultKept (t.jack k).record) : Carries s t where
  tells := htells
  cycle := hc
  grows := ⟨[], by rw [hf, List.append_nil]⟩
  full := fun _ => hf
  overflow := fun h => ho.trans h
  told := fun f x h => .inl (by rw [← h, State.lists, State.lists, hf])
  faulted := hj

/-- A stage that leaves the group and every station's record alone. -/
theorem Carries.of_same (htells : Tells s t) (hg : t.group = s.group) (hj : ∀ k, (t.jack k).record = (s.jack k).record) :
    Carries s t :=
  .of_group htells (by rw [hg]) (by rw [hg]) (by rw [hg]) fun k => .of_eq (hj k)

theorem Carries.refl (s : State) : Carries s s := .of_same (.refl s) rfl fun _ => rfl

theorem Carries.trans (h : Carries s t) (g : Carries t u) : Carries s u where
  tells := h.tells.trans g.tells
  cycle := g.cycle.trans h.cycle
  grows := by
    obtain ⟨l, hl⟩ := h.grows
    obtain ⟨m, hm⟩ := g.grows
    exact ⟨l ++ m, by rw [hm, hl, List.append_assoc]⟩
  full := fun hs => (g.full (by rw [h.full hs]; exact hs)).trans (h.full hs)
  overflow := fun hs => g.overflow (h.overflow hs)
  told := fun f x hu => by
    obtain ht | ht := g.told f x hu
    · exact (h.told f x ht).imp id (g.tells _ _)
    · exact .inr (h.cycle ▸ ht)
  faulted := fun k hk => by
    obtain ⟨h1, h2, h3, h4⟩ := h.faulted k hk
    obtain ⟨g1, g2, g3, g4⟩ := g.faulted k h1
    exact ⟨g1, g2.trans h2, g3.trans h3, g4.trans h4⟩

theorem Carries.forStations {f : Sta → State → State} (h : ∀ k t, Carries t (f k t)) (s : State) : Carries s (forStations f s) :=
  forStations_keeps (P := fun t => Carries s t) (fun k t ht => ht.trans (h k t)) (.refl s)

theorem Carries.handOver (s : State) : Carries s (handOver s) :=
  .of_same (.handOver s) (handOver_group s) fun k => by rw [handOver_jack]

theorem Carries.raise (e : Event) (s : State) : Carries s (raise e s) := .of_same (.raise e s) rfl fun _ => rfl

theorem Carries.enterGroup (g : GroupState) (s : State) : Carries s (enterGroup g s) :=
  .of_group (.of_raises (.enterGroup g s)) (by rw [enterGroup_group]) (by rw [enterGroup_group]) (by rw [enterGroup_group])
    fun k => .of_eq (by rw [enterGroup_jack])

theorem Carries.listFault (f : FaultKind) (x : Subject) (s : State) : Carries s (listFault f x s) := by
  have htells : Tells s (Machine.listFault f x s) := .of_raises (.listFault f x s)
  have hj : ∀ k, (s.jack k).record.FaultKept ((Machine.listFault f x s).jack k).record := fun k => .of_eq (by rw [listFault_jack])
  obtain ⟨-, he⟩ | ⟨-, hl, he, hr⟩ | ⟨-, hl, he, -⟩ := listFault_cases f x s
  · rw [he]
    exact .refl s
  · refine ⟨htells, by rw [he], ⟨_, by rw [he]⟩, fun h => absurd hl (by omega), fun h => by rw [he]; exact h,
      fun f' x' h => ?_, hj⟩
    rw [State.lists, he] at h
    simp only [List.any_append, List.any_cons, List.any_nil, Bool.or_false, Bool.or_eq_true, Bool.and_eq_true, beq_iff_eq] at h
    refine h.imp id ?_
    rintro ⟨rfl, rfl⟩
    exact .inr (by rw [hr]; exact List.mem_append_right _ (List.mem_singleton_self _))
  · exact ⟨htells, by rw [he], ⟨[], by rw [he, List.append_nil]⟩, fun _ => by rw [he], fun _ => by rw [he],
      fun f' x' h => .inl (by rw [State.lists, he] at h; exact h), hj⟩

/-- The detection of `f` and `x` since the state `s` has been listed, or the list overflowed, and told where its entry was new. -/
structure Found (f : FaultKind) (x : Subject) (s t : State) : Prop where
  carries : Carries s t
  listed : t.lists f x = true ∨ (t.group.overflow = true ∧ 16 ≤ t.group.faults.length)
  told : s.lists f x = false → Told (.stationFault f x (t.lists f x)) s.group.cycle t

theorem State.lists_of_grows (h : ∃ l, t.group.faults = s.group.faults ++ l) (hs : s.lists f x = true) : t.lists f x = true := by
  obtain ⟨l, hl⟩ := h
  rw [State.lists, hl, List.any_append, Bool.or_eq_true]
  exact .inl hs

theorem Found.trans (h : Found f x s t) (g : Carries t u) : Found f x s u := by
  obtain ⟨hc, hl, ht⟩ := h
  refine ⟨hc.trans g, ?_, fun hs => ?_⟩
  · refine hl.imp (State.lists_of_grows g.grows) fun ⟨ho, hf⟩ => ⟨g.overflow ho, ?_⟩
    rw [g.full hf]
    exact hf
  · have hsame : u.lists f x = t.lists f x := by
      obtain hl | ⟨-, hf⟩ := hl
      · rw [hl, State.lists_of_grows g.grows hl]
      · rw [State.lists, State.lists, g.full hf]
    rw [hsame]
    exact g.tells _ _ (ht hs)

/-- A detection listed since `s`. -/
theorem found_listFault (h : Carries s t) : Found f x s (listFault f x t) := by
  have hc := h.trans (.listFault f x t)
  obtain ⟨ha, he⟩ | ⟨ha, hl, he, hr⟩ | ⟨ha, hl, he, hr⟩ := listFault_cases f x t
  · have hlist : (listFault f x t).lists f x = true := by rw [he]; exact ha
    refine ⟨hc, .inl hlist, fun hs => ?_⟩
    rw [hlist]
    exact (hc.told f x hlist).resolve_left (by simp [hs])
  · have hlist : (listFault f x t).lists f x = true := by simp [State.lists, he]
    refine ⟨hc, .inl hlist, fun hs => ?_⟩
    rw [hlist]
    exact (hc.told f x hlist).resolve_left (by simp [hs])
  · have hlist : (listFault f x t).lists f x = false := by rw [State.lists, he]; exact ha
    refine ⟨hc, .inr (by rw [he]; exact ⟨rfl, hl⟩), fun _ => .inr ?_⟩
    rw [hlist, hr, ← h.cycle]
    exact List.mem_append_right _ (List.mem_singleton_self _)

/-! ### The station a detection names (R16) -/

/-- A station as a fault of kind `f` that names it leaves it. -/
def Jack.faultedBy (f : FaultKind) (j : Jack) : Jack :=
  if j.record.state = .unassigned then j
  else if j.record.state = .faulted then (if f = .travelLimit then j else j.moveStopped)
  else { j.moveStopped with gen := j.moveStopped.gen.stopForm, record := j.moveStopped.record.toFaulted f }

theorem faultStation_jack (f : FaultKind) (k : Sta) (s : State) (i : Sta) :
    (faultStation f k s).jack i = if i = k then (s.jack i).faultedBy f else s.jack i := by
  by_cases h : i = k
  · subst h
    rw [if_pos rfl]
    unfold faultStation Jack.faultedBy
    split
    · next hu => rw [if_pos hu]
    · next hf =>
      rw [if_neg (by simp [hf] : ¬ (s.jack i).record.state = .unassigned), if_pos hf]
      split_ifs
      · rfl
      · rw [stopMove_jack, if_pos rfl]
    · next hu hf =>
      rw [if_neg hu, if_neg hf, updRec_jack_self, updGen_jack_self, stopMove_jack, if_pos rfl]
  · rw [if_neg h]
    unfold faultStation
    split
    · rfl
    · split_ifs
      · rfl
      · exact stopMove_jack_ne _ s h
    · rw [updRec_jack_ne _ _ h, updGen_jack_ne _ _ h, stopMove_jack_ne _ s h]

theorem Raises.faultStation (f : FaultKind) (k : Sta) (s : State) : Raises s (faultStation f k s) := by
  unfold Machine.faultStation
  split
  · exact .refl s
  · split_ifs
    · exact .refl s
    · exact .stopMove k _ s
  · exact (Raises.stopMove k _ s).trans (.of_line rfl)

theorem Jack.moveStopped_record (j : Jack) : ∃ m, j.moveStopped.record = { j.record with move := m } := by
  obtain ⟨m, n, p, h⟩ := j.moveStopped_same
  exact ⟨m, by rw [h]⟩

/-- A fault leaves everything of a station but its record and its generator's steps and pending value. -/
theorem Jack.faultedBy_mon (f : FaultKind) (j : Jack) : (j.faultedBy f).mon = j.mon := by
  obtain ⟨m, n, p, h⟩ := j.moveStopped_same
  unfold Jack.faultedBy
  split_ifs <;> simp only [h]

theorem Jack.faultedBy_state (f : FaultKind) {j : Jack} (h : j.assigned = true) : (j.faultedBy f).record.state = .faulted := by
  obtain ⟨m, hm⟩ := j.moveStopped_record
  unfold Jack.faultedBy
  split_ifs with hu hf
  · simp [Jack.assigned, hu] at h
  · exact hf
  · rw [hm]
    exact hf
  · rfl

theorem Jack.faultedBy_kept (f : FaultKind) (j : Jack) : j.record.FaultKept (j.faultedBy f).record := by
  intro hf
  obtain ⟨m, hm⟩ := j.moveStopped_record
  rw [Jack.faultedBy, if_neg (by simp [hf] : ¬ j.record.state = .unassigned), if_pos hf]
  split_ifs
  · exact ⟨hf, rfl, rfl, rfl⟩
  · rw [hm]
    exact ⟨hf, rfl, rfl, rfl⟩

theorem Jack.trimEnded_kept (j : Jack) : j.record.FaultKept j.trimEnded.record := by
  intro hf
  obtain ⟨m, hm⟩ := j.moveStopped_record
  unfold Jack.trimEnded
  split
  · split_ifs
    · rw [hm]
      exact ⟨hf, rfl, rfl, rfl⟩
    · exact ⟨hf, rfl, rfl, rfl⟩
  · exact ⟨hf, rfl, rfl, rfl⟩

/-- The station a detection of `f` and `x` names, and every station whose trim a twist or a step ends. -/
def Jack.struck (f : FaultKind) (x : Subject) (k : Sta) (j : Jack) : Jack :=
  match x with
  | .station i => if k = i then j.faultedBy f else j
  | .car _ => j.trimEnded
  | .coupling _ => j.trimEnded
  | .none => j

theorem actOnStations_jack (f : FaultKind) (x : Subject) (s : State) (k : Sta) :
    (actOnStations f x s).jack k = (s.jack k).struck f x k := by
  cases x
  case station i => exact faultStation_jack f i s k
  case car => exact endTrims_jack s k
  case coupling => exact endTrims_jack s k
  case none => rfl

theorem Raises.actOnStations (f : FaultKind) (x : Subject) (s : State) : Raises s (actOnStations f x s) := by
  cases x
  case station i => exact .faultStation f i s
  case car => exact .endTrims s
  case coupling => exact .endTrims s
  case none => exact .refl s

theorem Carries.actOnStations (f : FaultKind) (x : Subject) (s : State) : Carries s (actOnStations f x s) := by
  refine .of_group (.of_raises (.actOnStations f x s)) (by rw [actOnStations_group]) (by rw [actOnStations_group])
    (by rw [actOnStations_group]) fun k => ?_
  rw [actOnStations_jack]
  cases x <;> simp only [Jack.struck]
  case station i =>
    split_ifs
    · exact (s.jack k).faultedBy_kept f
    · exact .of_eq rfl
  case car => exact (s.jack k).trimEnded_kept
  case coupling => exact (s.jack k).trimEnded_kept
  case none => exact .of_eq rfl

/-! ### What a detection does to the group (R104, R105, R109) -/

theorem StationRec.moveByStop_kept (r : StationRec) : r.FaultKept r.moveByStop := fun h => by
  simp [StationRec.moveByStop, h]

theorem beginFaultStop_group (f : FaultKind) (x : Subject) (s : State) : (beginFaultStop f x s).group = { s.group with
    state := .stopping, cause := .fault f x, waitCount := 0
    ratesForced := s.group.ratesForced && s.group.state == .stopping } := by
  unfold beginFaultStop enterStopping
  split_ifs with h
  · have hs : s.group.state = .stopping := h
    simp only [moveStations_group]
    show { s.group with cause := .fault f x, waitCount := 0 } = _
    rw [hs]
    cases hg : s.group with
    | mk => simp_all
  · have hs : s.group.state ≠ .stopping := h
    rw [enterGroup_group]
    show { s.group with state := .stopping, cause := .fault f x, waitCount := 0, ratesForced := false } = _
    simp [hs]

theorem beginFaultStop_sync (f : FaultKind) (x : Subject) (s : State) :
    (beginFaultStop f x s).sync = { s.sync with speed := 0, descent := false } := by
  unfold beginFaultStop enterStopping
  split_ifs
  · rfl
  · rw [enterGroup_sync]
    rfl

theorem beginFaultStop_jack (f : FaultKind) (x : Subject) (s : State) (k : Sta) :
    (beginFaultStop f x s).jack k = (moveStations s).jack k := by
  rw [beginFaultStop, enterStopping_jack, moveStations_jack, moveStations_jack]
  rfl

theorem Raises.enterStopping (s : State) : Raises s (enterStopping s) := by
  unfold Machine.enterStopping
  split_ifs
  · exact .refl s
  · exact (Raises.of_line rfl).trans (.enterGroup _ _)

theorem Raises.beginFaultStop (f : FaultKind) (x : Subject) (s : State) :
    Raises (Machine.raise (.groupStop f x) s) (beginFaultStop f x s) :=
  (Raises.of_line rfl).trans (.enterStopping _)

theorem told_beginFaultStop (f : FaultKind) (x : Subject) (s : State) :
    Told (.groupStop f x) s.group.cycle (beginFaultStop f x s) :=
  Tells.of_raises (.beginFaultStop f x s) _ _ (told_raise _ s)

theorem Carries.beginFaultStop (f : FaultKind) (x : Subject) (s : State) : Carries s (beginFaultStop f x s) := by
  refine .of_group (.of_raises ((Raises.raise _ s).trans (.beginFaultStop f x s))) (by rw [beginFaultStop_group])
    (by rw [beginFaultStop_group]) (by rw [beginFaultStop_group]) fun k => ?_
  rw [beginFaultStop_jack, moveStations_jack]
  exact StationRec.moveByStop_kept _

/-- What the entry to LOCKED_OUT leaves of a station: its generator abandoned, its counted move cut short, moved by the stop, and its
rest count latched. -/
def Jack.lockedOut (j : Jack) : Jack :=
  { j with
    record := j.record.cut.moveByStop
    gen := if j.record.cut.state = .releasing then j.gen.abandon.stopForm else j.gen.abandon
    mon := { j.mon with rest := j.pos.count } }

theorem enterLockout_jack (k : Sta) (s : State) (i : Sta) : (enterLockout k s).jack i = (s.jack i).lockedOut := by
  have h : (forStations abandonMove (abandonAll s)).jack i = { (abandonAll s).jack i with record := (s.jack i).record.cut } :=
    cutMoves_jack s i
  simp only [enterLockout, enterGroup_jack, raise_jack, setCause_jack, haltReference_jack, latchAllRest_jack, moveStations_jack, h]
  rw [abandonAll_jack]
  unfold Jack.lockedOut Jack.latchRest Jack.isIn
  simp only [beq_iff_eq]
  cases (s.jack i).gen.running <;> rfl

/-- The entry to LOCKED_OUT once every generator is abandoned and every counted move cut short. -/
def lockedOutFor (k : Sta) (t : State) : State :=
  enterGroup .lockedOut (raise (.lockout k)
    (setCause (.fault .runaway (.station k)) (haltReference (latchAllRest (moveStations t)))))

theorem enterLockout_eq (k : Sta) (s : State) : enterLockout k s = lockedOutFor k (cutMoves s) := rfl

theorem lockedOutFor_group (k : Sta) (t : State) : (lockedOutFor k t).group =
    { t.group with state := .lockedOut, cause := .fault .runaway (.station k), waitCount := 0 } := by
  unfold lockedOutFor
  rw [enterGroup_group]
  rfl

theorem Raises.lockedOutFor (k : Sta) (t : State) : Raises t (lockedOutFor k t) :=
  ((Raises.of_line rfl).trans (.raise _ _)).trans (.enterGroup _ _)

theorem told_lockedOutFor (k : Sta) (t : State) : Told (.lockout k) t.group.cycle (lockedOutFor k t) :=
  Tells.of_raises (.enterGroup _ _) _ _
    (told_raise (.lockout k) (setCause (.fault .runaway (.station k)) (haltReference (latchAllRest (moveStations t)))))

theorem enterLockout_group (k : Sta) (s : State) : (enterLockout k s).group =
    { s.group with state := .lockedOut, cause := .fault .runaway (.station k), waitCount := 0 } := by
  rw [enterLockout_eq, lockedOutFor_group, cutMoves_group]

theorem Raises.enterLockout (k : Sta) (s : State) : Raises s (enterLockout k s) :=
  (Raises.cutMoves s).trans (.lockedOutFor k _)

theorem told_enterLockout (k : Sta) (s : State) : Told (.lockout k) s.group.cycle (enterLockout k s) := by
  have h := told_lockedOutFor k (cutMoves s)
  rw [cutMoves_group] at h
  exact h

theorem StationRec.cut_kept (r : StationRec) : r.FaultKept r.cut := fun h => by
  unfold StationRec.cut
  split_ifs
  · simp [StationRec.endMove, moveEndState, h]
  · exact ⟨h, rfl, rfl, rfl⟩

theorem StationRec.FaultKept.trans {a b c : StationRec} (h : a.FaultKept b) (g : b.FaultKept c) : a.FaultKept c := fun ha => by
  obtain ⟨h1, h2, h3, h4⟩ := h ha
  obtain ⟨g1, g2, g3, g4⟩ := g h1
  exact ⟨g1, g2.trans h2, g3.trans h3, g4.trans h4⟩

theorem Carries.enterLockout (k : Sta) (s : State) : Carries s (enterLockout k s) := by
  refine .of_group (.of_raises (.enterLockout k s)) (by rw [enterLockout_group])
    (by rw [enterLockout_group]) (by rw [enterLockout_group]) fun i => ?_
  rw [enterLockout_jack]
  exact (StationRec.cut_kept _).trans (StationRec.moveByStop_kept _)

/-- What a detection does to the group, case by case: a RUNAWAY of a station locks it out; another begins a fault stop, or nothing. -/
theorem actOnGroup_cases (f : FaultKind) (x : Subject) (s : State) :
    (∃ k, f = .runaway ∧ x = .station k ∧ s.group.state = .lockedOut ∧ actOnGroup f x s = s) ∨
    (∃ k, f = .runaway ∧ x = .station k ∧ s.group.state ≠ .lockedOut ∧ actOnGroup f x s = enterLockout k s) ∨
    ((f ≠ .runaway ∨ ∀ k, x ≠ .station k) ∧ faultStops s = true ∧ actOnGroup f x s = beginFaultStop f x s) ∨
    ((f ≠ .runaway ∨ ∀ k, x ≠ .station k) ∧ faultStops s = false ∧ actOnGroup f x s = s) := by
  unfold actOnGroup
  split
  · next k =>
    by_cases h : s.group.state = .lockedOut
    · exact .inl ⟨k, rfl, rfl, h, if_pos h⟩
    · exact .inr (.inl ⟨k, rfl, rfl, h, if_neg h⟩)
  · next hne =>
    have hf : f ≠ .runaway ∨ ∀ k, x ≠ .station k := by
      by_cases hf : f = .runaway
      · exact .inr fun k hx => hne k hf hx
      · exact .inl hf
    cases h : faultStops s
    · exact .inr (.inr (.inr ⟨hf, rfl, rfl⟩))
    · exact .inr (.inr (.inl ⟨hf, rfl, rfl⟩))

theorem Carries.actOnGroup (f : FaultKind) (x : Subject) (s : State) : Carries s (actOnGroup f x s) := by
  obtain ⟨k, -, -, -, h⟩ | ⟨k, -, -, -, h⟩ | ⟨-, -, h⟩ | ⟨-, -, h⟩ := actOnGroup_cases f x s <;> rw [h]
  · exact .refl s
  · exact .enterLockout k s
  · exact .beginFaultStop f x s
  · exact .refl s

/-! ### A whole detection -/

theorem found_takeDetection (h : Carries s t) : Found f x s (takeDetection f x t) :=
  (found_listFault h).trans (((Carries.actOnStations f x _).trans (.actOnGroup f x _)).trans (.handOver _))

theorem Carries.takeDetection (f : FaultKind) (x : Subject) (s : State) : Carries s (takeDetection f x s) :=
  (found_takeDetection (.refl s)).carries

theorem Carries.takeDetections (l : List Detection) (s : State) : Carries s (takeDetections l s) :=
  takeDetections_keeps (P := fun t => Carries s t) (fun f k _ ht => ht.trans (.takeDetection f k _)) (.refl s) l

/-- A detection that is no station's RUNAWAY, in a group it stops. -/
theorem takeDetection_stops (hf : f ≠ .runaway) (h : faultStops s = true) :
    (takeDetection f x s).group = { s.group.listing f x with
      state := .stopping, cause := .fault f x, waitCount := 0
      ratesForced := s.group.ratesForced && s.group.state == .stopping } ∧
    (takeDetection f x s).sync = { s.sync with speed := 0, descent := false } ∧
    Told (.groupStop f x) s.group.cycle (takeDetection f x s) ∧
    ∀ k, (takeDetection f x s).jack k = { (s.jack k).struck f x k with
      record := ((s.jack k).struck f x k).record.moveByStop
      gen := if ((s.jack k).struck f x k).isIn .releasing then ((s.jack k).struck f x k).gen.stopForm
        else ((s.jack k).struck f x k).gen } := by
  have hg : (actOnStations f x (listFault f x s)).group = s.group.listing f x := (actOnStations_group _ _ _).trans (listFault_group f x s)
  have hlist : (s.group.listing f x).state = s.group.state ∧ (s.group.listing f x).cause = s.group.cause ∧
      (s.group.listing f x).ratesForced = s.group.ratesForced ∧ (s.group.listing f x).cycle = s.group.cycle := by
    unfold Group.listing
    split_ifs <;> exact ⟨rfl, rfl, rfl, rfl⟩
  obtain ⟨hst, hcs, hrf, hcy⟩ := hlist
  have hstop : faultStops (actOnStations f x (listFault f x s)) = true := by
    rw [← h]
    unfold faultStops
    rw [hg, hst, hcs]
  have hact : actOnGroup f x (actOnStations f x (listFault f x s)) = beginFaultStop f x (actOnStations f x (listFault f x s)) := by
    obtain ⟨k, e, -⟩ | ⟨k, e, -⟩ | ⟨-, -, e⟩ | ⟨-, e, -⟩ := actOnGroup_cases f x (actOnStations f x (listFault f x s))
    · exact absurd e hf
    · exact absurd e hf
    · exact e
    · rw [hstop] at e
      cases e
  unfold takeDetection
  rw [hact]
  refine ⟨?_, ?_, ?_, fun k => ?_⟩
  · rw [handOver_group, beginFaultStop_group, hg, hst, hrf]
  · rw [handOver_sync, beginFaultStop_sync, actOnStations_sync, listFault_sync]
  · have := told_beginFaultStop f x (actOnStations f x (listFault f x s))
    rw [hg, hcy] at this
    exact .inl this.handOver
  · rw [handOver_jack, beginFaultStop_jack, moveStations_jack, actOnStations_jack, listFault_jack]

/-- A detection that is no station's RUNAWAY, in a group it does not stop. -/
theorem takeDetection_stands (hf : f ≠ .runaway) (h : faultStops s = false) :
    (takeDetection f x s).group = s.group.listing f x ∧ (takeDetection f x s).sync = s.sync ∧
    ∀ k, (takeDetection f x s).jack k = (s.jack k).struck f x k := by
  have hg : (actOnStations f x (listFault f x s)).group = s.group.listing f x := (actOnStations_group _ _ _).trans (listFault_group f x s)
  have hstop : faultStops (actOnStations f x (listFault f x s)) = false := by
    rw [← h]
    unfold faultStops
    rw [hg]
    unfold Group.listing
    split_ifs <;> rfl
  have hact : actOnGroup f x (actOnStations f x (listFault f x s)) = actOnStations f x (listFault f x s) := by
    obtain ⟨k, e, -⟩ | ⟨k, e, -⟩ | ⟨-, e, -⟩ | ⟨-, -, e⟩ := actOnGroup_cases f x (actOnStations f x (listFault f x s))
    · exact absurd e hf
    · exact absurd e hf
    · rw [hstop] at e
      cases e
    · exact e
  unfold takeDetection
  rw [hact]
  exact ⟨by rw [handOver_group, hg], by rw [handOver_sync, actOnStations_sync, listFault_sync],
    fun k => by rw [handOver_jack, actOnStations_jack, listFault_jack]⟩

/-- A detection that names an assigned station leaves it FAULTED. -/
theorem takeDetection_faulted (h : (s.jack k).assigned = true) :
    ((takeDetection f (.station k) s).jack k).record.state = .faulted := by
  have hj : ((actOnStations f (.station k) (listFault f (.station k) s)).jack k).record.state = .faulted := by
    rw [actOnStations_jack, listFault_jack]
    simp only [Jack.struck, if_true]
    exact Jack.faultedBy_state f h
  exact ((((Carries.actOnGroup f _ _).trans (.handOver _)).faulted k hj)).1

end Sys2Proof.Machine

/-! PROOF. The close of a slip gate (O12). -/

namespace Sys2Proof.Machine

-- One theorem after another, as in the tests: a thread each for this many proofs would pass the memory limit.
set_option Elab.async false

variable {s t u : State} {k : Sta}

/-! ### A gate judged (R63) -/

theorem SlipGate.quiet_iff (g : SlipGate) : g.quiet = true ↔ g.steps = 0 ∧ g.edges = 0 := by simp [SlipGate.quiet]

/-- A quiet gate disagrees by nothing. -/
theorem slipDisagreement_of_quiet {g : SlipGate} (h : g.quiet = true) (j : Jack) : slipDisagreement j g = 0 := by
  obtain ⟨hs, he⟩ := g.quiet_iff.mp h
  simp [slipDisagreement, hs, he]

/-- The gate of an assigned station slips where the two distances disagree by more than the tolerance. -/
theorem slips_iff {p : GroupParams} {j : Jack} (h : j.assigned = true) (g : SlipGate) :
    slips p j g = true ↔ slipAllowance p j < (slipDisagreement j g).natAbs := by
  cases hq : g.quiet with
  | false => simp [slips, h, hq]
  | true => simp [slips, h, hq, slipDisagreement_of_quiet hq]

theorem slipRunAfter_of_slips {p : GroupParams} {j : Jack} {g : SlipGate} (h : slips p j g = true) :
    slipRunAfter p j g = min 15 (j.mon.slipRun + 1) := by
  have h' := h
  unfold slips at h'
  rw [Bool.and_eq_true, Bool.and_eq_true, Bool.not_eq_true'] at h'
  obtain ⟨⟨ha, hq⟩, -⟩ := h'
  unfold slipRunAfter saturateNat
  rw [ha, hq, h]
  simp only [Bool.not_true, Bool.false_eq_true, if_false, if_true]

/-- A monitor's change moves no brake. -/
theorem settleBrakes_updMon (hs : ∀ i, BrakeSafe s (s.jack i)) (k : Sta) (f : Jack → Monitor) :
    settleBrakes (s.updJack k (fun j => { j with mon := f j })) = s.updJack k (fun j => { j with mon := f j }) := by
  rw [settleBrakes_updJack hs]
  refine updJack_congr ?_
  have h : settledBrake s.group.permit s.group.state { s.jack k with mon := f (s.jack k) } = (s.jack k).gen.brake :=
    settledBrake_of_safe (hs k)
  rw [h]

/-! ### The close as a row (R62 to R64, log 4) -/

/-- The state after station `k`'s gate has closed and the next has opened. -/
def gateClosed (k : Sta) (g : SlipGate) (s : State) : State :=
  s.updJack k (fun j => { j with mon := closedGate s.group.params j g (SlipGate.opened (s.group.params.gateLength + 1)) })

theorem exec_slipGateClose {g : SlipGate} (hs : Acting s) (ho : (s.jack k).mon.gateOpen = false)
    (hg : (s.jack k).mon.gate = some g) (hl : g.left ≤ 1) : exec (.slipGateClose k) s = .next (settleBrakes
      (if driveSlips s.group.params (s.jack k) g then
        takeDetection .driveSlip (.station k) (handOver (raiseSlip k s.group.params (s.jack k) g (gateClosed k g s)))
      else handOver (raiseSlip k s.group.params (s.jack k) g (gateClosed k g s)))) := by
  have hc : closingGate (s.jack k) = some g := by simp [closingGate, hg, ho, hl]
  refine congrArg Host.Outcome.next ((unlessReset_of_running hs.1 _).trans ?_)
  unfold closeSlipGate
  simp only [hc]
  rfl

/-- A gate that does not slip changes the monitor alone. -/
theorem exec_slipGateClose_kept {g : SlipGate} (hs : Acting s) (hb : BrakesSafe s) (ho : (s.jack k).mon.gateOpen = false)
    (hg : (s.jack k).mon.gate = some g) (hl : g.left ≤ 1) (hn : slips s.group.params (s.jack k) g = false) :
    exec (.slipGateClose k) s = .next (gateClosed k g s) := by
  rw [exec_slipGateClose hs ho hg hl, driveSlips, hn, raiseSlip, hn]
  simp only [Bool.false_and, Bool.false_eq_true, if_false]
  rw [handOver_of_none (s := gateClosed k g s) hs.2]
  exact congrArg Host.Outcome.next (settleBrakes_updMon (hb hs.1) k _)

/-- Settles O12. -/
theorem slipGateIsJudgedAtItsClose : Obligations.SlipGateIsJudgedAtItsClose := by
  intro k g s hs hb ha ho hg hl
  have hslip := slips_iff (p := s.group.params) ha g
  refine ⟨fun h0 h1 => ?quiet, fun hn hd => ?within, fun hd hrun hlim hroom => ?slips, fun hd hlim => ?drive⟩
  case quiet =>
    have hq : g.quiet = true := g.quiet_iff.mpr ⟨h0, h1⟩
    have hn : slips s.group.params (s.jack k) g = false := by simp [slips, hq]
    rw [exec_slipGateClose_kept hs hb ho hg hl hn]
    refine congrArg Host.Outcome.next (updJack_congr ?_)
    simp [closedGate, hn, slipRunAfter, hq, ha, SlipGate.opened]
  case within =>
    have hq : g.quiet = false := by
      rw [Bool.eq_false_iff]
      exact fun h => hn.elim (absurd (g.quiet_iff.mp h).1) (absurd (g.quiet_iff.mp h).2)
    have hn : slips s.group.params (s.jack k) g = false := by
      rw [Bool.eq_false_iff]
      exact fun h => absurd (hslip.mp h) (not_lt.mpr hd)
    rw [exec_slipGateClose_kept hs hb ho hg hl hn]
    refine congrArg Host.Outcome.next (updJack_congr ?_)
    simp [closedGate, hn, slipRunAfter, hq, ha, SlipGate.opened]
  case slips =>
    have hsl : slips s.group.params (s.jack k) g = true := hslip.mpr hd
    have hrun' : slipRunAfter s.group.params (s.jack k) g = (s.jack k).mon.slipRun + 1 := by
      rw [slipRunAfter_of_slips hsl]
      omega
    have hdr : driveSlips s.group.params (s.jack k) g = false := by
      rw [driveSlips, hsl, hrun', Bool.true_and, decide_eq_false_iff_not]
      omega
    rw [exec_slipGateClose hs ho hg hl, hdr, raiseSlip, hsl, hrun']
    simp only [Bool.false_eq_true, if_false, if_true]
    rw [handOver_raise _ (s := gateClosed k g s) (hroom.of_line rfl)]
    have hset : settleBrakes (gateClosed k g s) = gateClosed k g s := settleBrakes_updMon (hb hs.1) k _
    have hgate : gateClosed k g s = s.updJack k (fun j => { j with mon := { j.mon with
        gate := some { left := s.group.params.gateLength + 1, steps := 0, edges := 0 }, slipMark := true
        slipRun := j.mon.slipRun + 1 } }) := by
      refine updJack_congr ?_
      simp [closedGate, hsl, hrun', SlipGate.opened]
    rw [← hgate]
    exact congrArg (fun x => Host.Outcome.next (noticed _ x)) hset
  case drive =>
    have hsl : slips s.group.params (s.jack k) g = true := hslip.mpr hd
    have hrun' := slipRunAfter_of_slips hsl
    have hdr : driveSlips s.group.params (s.jack k) g = true := by
      rw [driveSlips, hsl, hrun', Bool.true_and, decide_eq_true_eq]
      omega
    have hrow := exec_slipGateClose hs ho hg hl
    rw [hdr] at hrow
    refine ⟨_, hrow, ?_⟩
    simp only [if_true]
    obtain ⟨v, hv⟩ : ∃ v, v = handOver (raiseSlip k s.group.params (s.jack k) g (gateClosed k g s)) := ⟨_, rfl⟩
    have hraise (t : State) : (raiseSlip k s.group.params (s.jack k) g t).group = t.group ∧
        ∀ i, (raiseSlip k s.group.params (s.jack k) g t).jack i = t.jack i := by
      rw [raiseSlip, if_pos hsl]
      exact ⟨rfl, fun _ => rfl⟩
    have hvg : v.group = s.group := by
      rw [hv, handOver_group]
      exact (hraise _).1
    have hvj : v.jack k = { s.jack k with
        mon := closedGate s.group.params (s.jack k) g (SlipGate.opened (s.group.params.gateLength + 1)) } := by
      rw [hv, handOver_jack]
      exact ((hraise _).2 k).trans (updJack_jack_self s k _)
    rw [← hv]
    have hfound : Found .driveSlip (.station k) v (takeDetection .driveSlip (.station k) v) := found_takeDetection (.refl v)
    have hmon : ((takeDetection .driveSlip (.station k) v).jack k).mon = (v.jack k).mon := by
      cases hst : faultStops v
      · rw [(takeDetection_stands (by simp) hst).2.2 k]
        simp only [Jack.struck, if_true, Jack.faultedBy_mon]
      · rw [(takeDetection_stops (by simp) hst).2.2.2 k]
        simp only [Jack.struck, if_true, Jack.faultedBy_mon]
    refine ⟨?_, ?_, hfound.listed.imp id And.left, fun hmov => ?_⟩
    · rw [settleBrakes_jack]
      refine hmon.trans ?_
      rw [hvj]
      simp [closedGate, hsl, hrun', SlipGate.opened]
    · rw [settleBrakes_jack]
      refine takeDetection_faulted ?_
      rw [hvj]
      exact ha
    · have hst : faultStops v = true := by
        unfold faultStops
        rw [hvg, hmov]
      obtain ⟨h, -⟩ := takeDetection_stops (f := .driveSlip) (x := .station k) (by simp) hst
      rw [settleBrakes_group, h]
      exact ⟨rfl, rfl⟩

end Sys2Proof.Machine

/-! PROOF. A completed period of a generator, and the moves and releases it ends (O16, O17, and the row of O18). -/

namespace Sys2Proof.Machine

-- One theorem after another, as in the tests: a thread each for this many proofs would pass the memory limit.
set_option Elab.async false

variable {s t u : State} {k i : Sta}

/-! ### Brakes called alike (R50) -/

/-- A brake is called for by the station's record and by whether its generator runs. -/
theorem brakeCalled_congr {a b : Jack} (g : GroupState) (hr : b.record = a.record) (hg : b.gen.running = a.gen.running) :
    brakeCalled g b = brakeCalled g a := by
  unfold brakeCalled Jack.movesWhileFaulted Jack.isIn
  rw [hr, hg]

theorem settledBrake_congr {a b : Jack} (p : Bool) (g : GroupState) (hr : b.record = a.record)
    (hg : b.gen.running = a.gen.running) (hb : b.gen.brake = a.gen.brake) : settledBrake p g b = settledBrake p g a := by
  unfold settledBrake
  rw [brakeCalled_congr g hr hg, hg, hb]

/-- A generator at rest takes the level called for while the permit is high. -/
theorem settledBrake_of_idle {j : Jack} (g : GroupState) (h : j.gen.running = false) : settledBrake true g j = brakeCalled g j := by
  unfold settledBrake
  rw [h]
  cases brakeCalled g j <;> rfl

/-- A FAULTED station without a move calls for its brake whatever its generator does. -/
theorem brakeCalled_without_move {a b : Jack} (g : GroupState) (hr : b.record = a.record) (hm : a.record.move = none) :
    brakeCalled g b = brakeCalled g a := by
  unfold brakeCalled Jack.movesWhileFaulted
  rw [hr, hm]
  simp

/-! ### The period completed (R43, R46) -/

theorem exec_periodCompletion (hs : Acting s) (hp : s.group.permit = true) (hl : s.group.state ≠ .lockedOut)
    (hr : (s.jack k).gen.running = true) : exec (.periodCompletion k) s =
      .next (handOver (settleBrakes (idleIfResting k (s.updJack k Jack.completePeriod)))) := by
  refine congrArg Host.Outcome.next ((unlessReset_of_running hs.1 _).trans ?_)
  rw [periodWork, if_neg (by simp [generatorsHeld, hp, hl, hr])]

/-- The generator goes on after its period. -/
theorem exec_periodCompletion_running (hs : Acting s) (hb : BrakesSafe s) (hp : s.group.permit = true)
    (hl : s.group.state ≠ .lockedOut) (hr : (s.jack k).gen.running = true) (hc : (s.jack k).gen.complete.running = true)
    (hbr : (s.jack k).gen.complete.brake = (s.jack k).gen.brake) :
    exec (.periodCompletion k) s = .next (s.updJack k Jack.completePeriod) := by
  rw [exec_periodCompletion hs hp hl hr, idleIfResting, if_pos (by rw [updJack_jack_self]; exact hc),
    settleBrakes_updJack (hb hs.1)]
  have hj : s.updJack k (fun j => { j.completePeriod with gen :=
      { j.completePeriod.gen with brake := settledBrake s.group.permit s.group.state j.completePeriod } }) =
      s.updJack k Jack.completePeriod := by
    refine updJack_congr ?_
    have h : settledBrake s.group.permit s.group.state (s.jack k).completePeriod = (s.jack k).completePeriod.gen.brake := by
      exact (settledBrake_congr (a := s.jack k) (b := (s.jack k).completePeriod) _ _ rfl (hc.trans hr.symm) hbr).trans
        ((settledBrake_of_safe (hb hs.1 k)).trans hbr.symm)
    rw [h]
  rw [hj, handOver_of_none (s := s.updJack k Jack.completePeriod) hs.2]

/-- What the last period of a generator leaves of its station before its move or release is taken: the pulse reported, the generator at
rest and the rest count latched (R43, R46, R53, R69). -/
def Jack.cameToRest (j : Jack) : Jack := j.completePeriod.latchRest

theorem exec_periodCompletion_resting (hs : Acting s) (hp : s.group.permit = true)
    (hl : s.group.state ≠ .lockedOut) (hr : (s.jack k).gen.running = true) (hc : (s.jack k).gen.complete.running = false) :
    exec (.periodCompletion k) s = .next (handOver (settleBrakes
      (if clearing s.group.params (s.jack k) then finishRelease k (s.updJack k Jack.cameToRest)
      else finishMove k (s.updJack k Jack.cameToRest)))) := by
  rw [exec_periodCompletion hs hp hl hr, idleIfResting, if_neg (by rw [updJack_jack_self]; exact (Bool.eq_false_iff.mp hc)),
    idleEvent, updJack_updJack]
  have hcl : clearing (s.updJack k Jack.cameToRest).group.params ((s.updJack k Jack.cameToRest).jack k) =
      clearing s.group.params (s.jack k) := by
    rw [updJack_jack_self]
    rfl
  exact congrArg (fun b : Bool => Host.Outcome.next (handOver (settleBrakes (if b = true then
    finishRelease k (s.updJack k Jack.cameToRest) else finishMove k (s.updJack k Jack.cameToRest))))) hcl

/-- A station left by its move, its generator at rest with `g` and its brake called for. -/
theorem settleBrakes_rested (hb : ∀ i, BrakeSafe s (s.jack i)) (hp : s.group.permit = true) {f : Jack → Jack}
    (hf : (f (s.jack k)).gen.running = false) : settleBrakes (s.updJack k f) = s.updJack k (fun j =>
      { f j with gen := { (f j).gen with brake := brakeCalled s.group.state (f j) } }) := by
  rw [settleBrakes_updJack hb]
  refine updJack_congr ?_
  rw [hp, settledBrake_of_idle _ hf]

theorem Generator.complete_stop {g : Generator} (hr : g.run = .rate) (h : g.pending = some .stop) :
    g.complete = { g with stepHigh := true }.rest := by
  unfold Generator.complete
  rw [hr, h]

theorem Generator.complete_last {g : Generator} (hr : g.run = .counted) (h : g.remaining ≤ 1) (hn : g.pending = none) :
    g.complete = { g with stepHigh := true }.rest := by
  unfold Generator.complete
  rw [hr, hn]
  simp only
  rw [if_neg (by omega)]

theorem updRec_updJack (s : State) (k : Sta) (f : Jack → Jack) (h : StationRec → StationRec) :
    (s.updJack k f).updRec k h = s.updJack k (fun j => { f j with record := h (f j).record }) := updJack_updJack s k f _

/-- Settles O16. -/
theorem rateCompletionActsOnThePendingValue : Obligations.RateCompletionActsOnThePendingValue := by
  refine ⟨fun k s => ⟨fun h => ?_, fun h => ?_⟩, fun k s hs hb hp hl hr => ?_⟩
  · refine congrArg Host.Outcome.next (updJack_congr ?_)
    simp [Generator.pulseEnd, h]
  · refine congrArg Host.Outcome.next (updJack_eq_self ?_)
    simp [Generator.pulseEnd, h]
  intro pulse
  have hrun : (s.jack k).gen.running = true := by simp [Generator.running, hr]
  have hpulse (j : Jack) : j.mon.pulse j.gen.dir = pulse j := by
    simp only [Monitor.pulse, tally, clampInt, Dir.sign, pulse]
    cases j.gen.dir <;> rfl
  refine ⟨fun h => ?none, fun d dir h => ?rate, fun d dir n h => ?move, fun h hm hst => ?stop⟩
  case none =>
    have hc : (s.jack k).gen.complete = { (s.jack k).gen with stepHigh := true } := by simp [Generator.complete, hr, h]
    rw [exec_periodCompletion_running hs hb hp hl hrun (by rw [hc]; exact hrun) (by rw [hc])]
    refine congrArg Host.Outcome.next (updJack_congr ?_)
    rw [Jack.completePeriod, hc, hpulse]
  case rate =>
    have hc : (s.jack k).gen.complete = { (s.jack k).gen with stepHigh := true, divisor := some d, dir := dir, pending := none } := by
      simp [Generator.complete, hr, h, Generator.startRate, Generator.turn]
    rw [exec_periodCompletion_running hs hb hp hl hrun (by rw [hc]; exact hrun) (by rw [hc])]
    refine congrArg Host.Outcome.next (updJack_congr ?_)
    rw [Jack.completePeriod, hc, hpulse]
  case move =>
    have hc : (s.jack k).gen.complete = { (s.jack k).gen with
        run := .counted, stepHigh := true, divisor := some d, dir := dir, pending := none, remaining := n } := by
      simp [Generator.complete, hr, h, Generator.startMove, Generator.turn]
    rw [exec_periodCompletion_running hs hb hp hl hrun (by rw [hc]; rfl) (by rw [hc])]
    refine congrArg Host.Outcome.next (updJack_congr ?_)
    rw [Jack.completePeriod, hc, hpulse]
  case stop =>
    intro left
    have hc := Generator.complete_stop hr h
    have hcl : clearing s.group.params (s.jack k) = false := by simp [clearing, Jack.isIn, hst]
    rw [exec_periodCompletion_resting hs hp hl hrun (by rw [hc]; rfl), hcl]
    simp only [Bool.false_eq_true, if_false]
    have hleft : finishMove k (s.updJack k Jack.cameToRest) =
        s.updJack k (fun j => { j.cameToRest with record := left j.record }) := by
      have hrec : ((s.updJack k Jack.cameToRest).jack k).record = (s.jack k).record := by
        rw [updJack_jack_self]
        rfl
      cases hmove : (s.jack k).record.move with
      | none =>
        rw [finishMove, hrec, hmove]
        refine updJack_congr ?_
        simp only [left, hmove]
        rfl
      | some m =>
        rw [finishMove, hrec, hmove]
        simp only
        rw [if_pos (hm m hmove), updRec_updJack]
        refine updJack_congr ?_
        simp only [left, hmove]
        unfold Jack.cameToRest Jack.completePeriod Jack.latchRest StationRec.endMove
        cases hstate : (s.jack k).record.state <;> simp [moveEndState]
    have hrest : ((s.jack k).cameToRest).gen.running = false := by
      show (s.jack k).gen.complete.running = false
      rw [hc]
      rfl
    rw [hleft, settleBrakes_rested (f := fun j => { j.cameToRest with record := left j.record }) (hb hs.1) hp hrest,
      handOver_of_none (s := s.updJack k _) hs.2]
    refine congrArg Host.Outcome.next (updJack_congr ?_)
    have hnone : (left (s.jack k).record).move = none := by
      simp only [left]
      split
      · next h => exact h
      · rfl
    have hbr : brakeCalled s.group.state { (s.jack k).cameToRest with record := left (s.jack k).record } =
        brakeCalled s.group.state { s.jack k with record := left (s.jack k).record } :=
      brakeCalled_without_move _ rfl hnone
    rw [hbr, Jack.cameToRest, Jack.latchRest, Jack.completePeriod, hc, hpulse]
    rfl

/-- Settles O17. -/
theorem countedMoveCompletesAtItsLastStep : Obligations.CountedMoveCompletesAtItsLastStep := by
  intro k s hs hb hp hl hr pulse
  have hrun : (s.jack k).gen.running = true := by simp [Generator.running, hr]
  have hpulse (j : Jack) : j.mon.pulse j.gen.dir = pulse j := by
    simp only [Monitor.pulse, tally, clampInt, Dir.sign, pulse]
    cases j.gen.dir <;> rfl
  refine ⟨fun h => ?_, fun m hlast hpend hm hst => ?_⟩
  · have hc : (s.jack k).gen.complete = { (s.jack k).gen with stepHigh := true, remaining := (s.jack k).gen.remaining - 1 } := by
      simp [Generator.complete, hr, h]
    rw [exec_periodCompletion_running hs hb hp hl hrun (by rw [hc]; exact hrun) (by rw [hc])]
    refine congrArg Host.Outcome.next (updJack_congr ?_)
    rw [Jack.completePeriod, hc, hpulse]
  intro ended rested
  have hc := Generator.complete_last hr hlast hpend
  have hcl : clearing s.group.params (s.jack k) = false := by
    simp only [List.mem_cons, List.not_mem_nil, or_false] at hst
    rcases hst with h | h | h | h <;> simp [clearing, Jack.isIn, h]
  have hrec : ((s.updJack k Jack.cameToRest).jack k).record = (s.jack k).record := by
    rw [updJack_jack_self]
    rfl
  have hended : (s.updJack k Jack.cameToRest).updRec k StationRec.endMove =
      s.updJack k (fun j => { j.cameToRest with record := ended j }) := by
    rw [updRec_updJack]
    refine updJack_congr ?_
    simp only [List.mem_cons, List.not_mem_nil, or_false] at hst
    unfold Jack.cameToRest Jack.completePeriod Jack.latchRest StationRec.endMove
    rcases hst with h | h | h | h <;> simp [h, moveEndState, ended]
  have hrest : ((s.jack k).cameToRest).gen.running = false := by
    show (s.jack k).gen.complete.running = false
    rw [hc]
    rfl
  have hset : settleBrakes ((s.updJack k Jack.cameToRest).updRec k StationRec.endMove) = rested := by
    rw [hended, settleBrakes_rested (f := fun j => { j.cameToRest with record := ended j }) (hb hs.1) hp hrest]
    refine updJack_congr ?_
    have hbr : brakeCalled s.group.state { (s.jack k).cameToRest with record := ended (s.jack k) } =
        brakeCalled s.group.state { s.jack k with record := ended (s.jack k) } :=
      brakeCalled_without_move _ rfl rfl
    rw [hbr, Jack.cameToRest, Jack.latchRest, Jack.completePeriod, hc, hpulse]
    simp only [Generator.rest, hpend]
  rw [exec_periodCompletion_resting hs hp hl hrun (by rw [hc]; rfl), hcl]
  simp only [Bool.false_eq_true, if_false]
  refine ⟨fun hd => ?_, fun hd hroom => ?_⟩
  · rw [finishMove, hrec, hm]
    simp only
    rw [if_pos hd, hset]
    exact congrArg Host.Outcome.next (handOver_of_none (s := rested) hs.2)
  · rw [finishMove, hrec, hm]
    simp only
    rw [if_neg (by simp [hd])]
    have hcomm (e : Event) (x : State) : settleBrakes (raise e x) = raise e (settleBrakes x) := rfl
    rw [hcomm, hset]
    exact congrArg Host.Outcome.next (handOver_raise (s := rested) _ (hroom.of_line rfl))

/-! ### The last step of a clearance move (R152, R153) -/

/-- A station whose release has completed (R153). -/
def Jack.released (j : Jack) : Jack :=
  { j with record := { j.record with state := .idle, contact := none, start := none, confirm := 0 } }

/-- The state in which a station's release is complete and RELEASED raised, before the group's landing is tested. -/
def stationReleased (k : Sta) (s : State) : State :=
  raise (.released k ((s.jack k).liveHeight - (s.jack k).record.contact.getD 0)) (s.updJack k Jack.released)

theorem finishRelease_eq (k : Sta) (s : State) : finishRelease k s = landedCheck (stationReleased k s) := rfl

/-- The group lands where it is LANDING and every assigned station is IDLE (R102). -/
theorem landedCheck_cases (s : State) :
    ((s.group.state = .landing ∧ allAssigned s (fun j => j.isIn .idle) = true) ∧ landedCheck s = enterGroup .prepared s) ∨
    (¬ (s.group.state = .landing ∧ allAssigned s (fun j => j.isIn .idle) = true) ∧ landedCheck s = s) := by
  unfold landedCheck
  split_ifs with h
  · exact .inl ⟨h, rfl⟩
  · exact .inr ⟨h, rfl⟩

theorem Raises.landedCheck (s : State) : Raises s (landedCheck s) := by
  obtain ⟨-, h⟩ | ⟨-, h⟩ := landedCheck_cases s <;> rw [h]
  · exact .enterGroup _ s
  · exact .refl s

/-- The last step of a clearance move completes its release. -/
theorem exec_periodCompletion_released (hs : Acting s) (hp : s.group.permit = true) (hst : s.group.state = .landing)
    (hr : (s.jack k).gen.run = .counted) (hlast : (s.jack k).gen.remaining ≤ 1) (hpend : (s.jack k).gen.pending = none)
    (hrel : (s.jack k).record.state = .releasing) (hc : s.group.params.confirmTarget ≤ (s.jack k).record.confirm) :
    exec (.periodCompletion k) s = .next (handOver (settleBrakes (finishRelease k (s.updJack k Jack.cameToRest)))) := by
  have hcl : clearing s.group.params (s.jack k) = true := by simp [clearing, Jack.isIn, hrel, hc]
  rw [exec_periodCompletion_resting hs hp (by simp [hst]) (by simp [Generator.running, hr])
    (by rw [Generator.complete_last hr hlast hpend]; rfl), hcl, if_pos rfl]

/-- Station `k` at rest and its release complete, the group's landing not yet tested. -/
def landingTested (k : Sta) (s : State) : State := stationReleased k (s.updJack k Jack.cameToRest)

theorem landingTested_jack (k : Sta) (s : State) (i : Sta) :
    (landingTested k s).jack i = if i = k then (s.jack k).cameToRest.released else s.jack i := by
  unfold landingTested stationReleased
  rw [raise_jack, updJack_updJack, updJack_jack]
  split_ifs with h
  · rw [h]
  · rfl

/-- The last step of a station's clearance move (O18, its row). -/
theorem clearanceMove_completes (k : Sta) (s : State) (hs : Acting s) (hp : s.group.permit = true)
    (hst : s.group.state = .landing) (hr : (s.jack k).gen.run = .counted) (hlast : (s.jack k).gen.remaining ≤ 1)
    (hpend : (s.jack k).gen.pending = none) (hrel : (s.jack k).record.state = .releasing)
    (hc : s.group.params.confirmTarget ≤ (s.jack k).record.confirm) :
    let last : Prop := ∀ i, i ≠ k → (s.jack i).record.state = .idle ∨ (s.jack i).record.state = .unassigned
    ∃ t, exec (.periodCompletion k) s = .next t ∧ t.plan = s.plan ∧
      (last → t.group = { s.group with state := .prepared } ∧ t.sync = { s.sync with ref := 0, speed := 0, dir := .none } ∧
        Reported (.state .landing .prepared) s.group.cycle t ∧
        ∀ i, (t.jack i).gen.brake = .released → (s.jack i).gen.running = true ∧ i ≠ k) ∧
      (¬ last → t.group = s.group ∧ t.sync = s.sync ∧ (BrakesSafe s → ∀ i, i ≠ k → t.jack i = s.jack i)) ∧
      (∀ c, (s.jack k).record.contact = some c → Reported (.released k ((s.jack k).liveHeight - c)) s.group.cycle t) ∧
      (t.jack k).record =
        { (s.jack k).record with state := .idle, contact := none, start := none, confirm := 0 } ∧
      (t.jack k).gen.run = .idle ∧ (t.jack k).gen.brake = .applied ∧ (t.jack k).mon.rest = (s.jack k).pos.count ∧
      (t.jack k).pos = (s.jack k).pos ∧
      ∀ i, i ≠ k → (t.jack i).record = (s.jack i).record ∧ (t.jack i).pos = (s.jack i).pos ∧ (t.jack i).mon = (s.jack i).mon := by
  intro last
  refine ⟨_, exec_periodCompletion_released hs hp hst hr hlast hpend hrel hc, ?_⟩
  obtain ⟨w, hw⟩ : ∃ w, w = landingTested k s := ⟨_, rfl⟩
  have heq : finishRelease k (s.updJack k Jack.cameToRest) = landedCheck w := by rw [hw]; rfl
  rw [heq]
  have hwg : w.group = s.group := by rw [hw]; rfl
  have hws : w.sync = s.sync := by rw [hw]; rfl
  have hwp : w.plan = s.plan := by rw [hw]; rfl
  have hwj (i : Sta) : w.jack i = if i = k then (s.jack k).cameToRest.released else s.jack i := by
    rw [hw, landingTested_jack]
  have hwself : w.jack k = (s.jack k).cameToRest.released := by rw [hwj, if_pos rfl]
  have hwne {i : Sta} (h : i ≠ k) : w.jack i = s.jack i := by rw [hwj, if_neg h]
  have hidle : (s.jack k).cameToRest.released.gen.running = false := by
    show (s.jack k).gen.complete.running = false
    rw [Generator.complete_last hr hlast hpend]
    rfl
  have hjack (i : Sta) : (handOver (settleBrakes (landedCheck w))).jack i = { w.jack i with
      gen := { (w.jack i).gen with brake := settledBrake true (landedCheck w).group.state (w.jack i) } } := by
    have hperm : (landedCheck w).group.permit = true := by
      obtain ⟨-, h⟩ | ⟨-, h⟩ := landedCheck_cases w <;> rw [h]
      · rw [enterGroup_group]
        exact (congrArg Group.permit hwg).trans hp
      · exact (congrArg Group.permit hwg).trans hp
    have hlj : (landedCheck w).jack i = w.jack i := congrArg (fun p => p.get i) (landedCheck_jacks w)
    rw [handOver_jack, settleBrakes_jack, hperm, hlj]
  have htest : (w.group.state = .landing ∧ allAssigned w (fun j => j.isIn .idle) = true) ↔ last := by
    rw [hwg, allIdle_iff]
    refine ⟨fun ⟨_, h⟩ i hi => hwne hi ▸ h i, fun h => ⟨hst, fun i => ?_⟩⟩
    by_cases hi : i = k
    · exact .inl (by rw [hi, hwself]; rfl)
    · rw [hwne hi]
      exact h i hi
  refine ⟨?plan, fun hl => ?landed, fun hl => ?goesOn, fun c hcon => ?told, ?_, ?_, ?_, ?_, ?_, fun i hi => ?_⟩
  case plan => rw [handOver_plan, settleBrakes_plan, landedCheck_plan, hwp]
  case landed =>
    obtain ⟨-, h⟩ | ⟨hn, -⟩ := landedCheck_cases w
    · refine ⟨?_, ?_, ?_, fun i hb => ?_⟩
      · rw [handOver_group, settleBrakes_group, h, enterGroup_group, hwg]
      · rw [handOver_sync, settleBrakes_sync, h, enterGroup_sync, hws, if_pos (.inr rfl)]
      · refine Told.handOver (Tells.of_line (settleBrakes_line _) _ _ ?_)
        rw [h]
        have := told_enterGroup .prepared w
        rwa [hwg, hst] at this
      · rw [hjack, h, enterGroup_state] at hb
        have hcall : brakeCalled .prepared (w.jack i) = .applied := by
          by_cases hi : i = k
          · rw [hi, hwself]
            rfl
          · obtain hh | hh := hl i hi <;> simp [brakeCalled, hwne hi, hh]
        simp only [settledBrake, hcall, Bool.not_true, Bool.false_eq_true, if_false] at hb
        split_ifs at hb with hrun
        have hi : i ≠ k := fun hi => by rw [hi, hwself, hidle] at hrun; cases hrun
        rw [hwne hi] at hrun
        exact ⟨hrun, hi⟩
    · exact absurd (htest.mpr hl) hn
  case goesOn =>
    obtain ⟨hy, -⟩ | ⟨-, h⟩ := landedCheck_cases w
    · exact absurd (htest.mp hy) hl
    · refine ⟨by rw [handOver_group, settleBrakes_group, h, hwg], by rw [handOver_sync, settleBrakes_sync, h, hws], fun hb i hi => ?_⟩
      rw [hjack, h, hwg, hwne hi]
      have := settledBrake_of_safe (hb hs.1 i)
      rw [hp] at this
      rw [this]
  case told =>
    refine Told.handOver (Tells.trans (Tells.of_raises (.landedCheck w)) (Tells.of_line (settleBrakes_line _)) _ _ ?_)
    have := told_raise (.released k (((s.updJack k Jack.cameToRest).jack k).liveHeight -
      ((s.updJack k Jack.cameToRest).jack k).record.contact.getD 0)) ((s.updJack k Jack.cameToRest).updJack k Jack.released)
    have hval : ((s.updJack k Jack.cameToRest).jack k).liveHeight - ((s.updJack k Jack.cameToRest).jack k).record.contact.getD 0 =
        (s.jack k).liveHeight - c := by
      rw [updJack_jack_self]
      show (s.jack k).liveHeight - (s.jack k).record.contact.getD 0 = _
      rw [hcon]
      rfl
    rw [hval] at this
    rw [hw, landingTested, stationReleased, hval]
    exact this
  · rw [hjack, hwself]
    rfl
  · rw [hjack, hwself]
    show (s.jack k).gen.complete.run = .idle
    rw [Generator.complete_last hr hlast hpend]
    rfl
  · rw [hjack, hwself]
    show settledBrake true (landedCheck w).group.state (s.jack k).cameToRest.released = .applied
    rw [settledBrake_of_idle _ hidle]
    rfl
  · rw [hjack, hwself]
    rfl
  · rw [hjack, hwself]
    rfl
  · rw [hjack, hwne hi]
    exact ⟨rfl, rfl, rfl⟩

end Sys2Proof.Machine

/-! PROOF. What every piece of work of a cycle start leaves alone, and how the events it raises reach the line controller. -/

namespace Sys2Proof.Machine

-- One theorem after another, as in the tests: a thread each for this many proofs would pass the memory limit.
set_option Elab.async false

variable {strict early : Prop} {s t u : State} {k i : Sta}

/-! ### What every piece of work of a cycle start keeps -/

/-- What no work between the latch and the end of a cycle start writes of a station: whether it is assigned, its position, its home input, its settings and its
datum, and the values of its slot. -/
structure Jack.Untouched (a b : Jack) : Prop where
  assigned : b.assigned = a.assigned := by rfl
  pos : b.pos = a.pos := by rfl
  homeLow : b.homeLow = a.homeLow := by rfl
  settings : b.record.settings = a.record.settings := by rfl
  pendingOffset : b.record.pendingOffset = a.record.pendingOffset := by rfl
  datumKnown : b.record.datumKnown = a.record.datumKnown := by rfl
  slot : b.link = { a.link with silent := b.link.silent, lossRun := b.link.lossRun } := by rfl

theorem Jack.Untouched.refl (j : Jack) : j.Untouched j := {}

theorem Jack.Untouched.trans {a b c : Jack} (h : a.Untouched b) (g : b.Untouched c) : a.Untouched c where
  assigned := g.assigned.trans h.assigned
  pos := g.pos.trans h.pos
  homeLow := g.homeLow.trans h.homeLow
  settings := g.settings.trans h.settings
  pendingOffset := g.pendingOffset.trans h.pendingOffset
  datumKnown := g.datumKnown.trans h.datumKnown
  slot := by rw [g.slot, h.slot]

theorem Jack.Untouched.of_same {a b : Jack} (h : a.sameStation b) (ha : b.assigned = a.assigned) : a.Untouched b := by
  obtain ⟨h1, h2, h3, h4, h5, h6, -⟩ := h
  exact ⟨ha, h1.symm, h6.symm, h3.symm, h4.symm, h5.symm, by rw [h2]⟩

/-- What the checks and the computation of a cycle start do to the group: they leave its state and its stop cause alone, begin a fault
stop, lock it out, or take it from ENGAGING to POISED, from LANDING to PREPARED or from MOVING to HOLDING. -/
def Passes (s t : State) : Prop :=
  (t.group.state = s.group.state ∧ t.group.cause = s.group.cause ∧ (s.group.ratesForced = true → t.group.ratesForced = true)) ∨
  (faultStops s = true ∧ t.group.state = .stopping ∧
    (∃ f x, t.group.cause = .fault f x ∧ Told (.groupStop f x) s.group.cycle t) ∧
    (s.group.state = .stopping → s.group.ratesForced = true → t.group.ratesForced = true)) ∨
  (s.group.state ≠ .lockedOut ∧ t.group.state = .lockedOut ∧
    ∃ k, t.group.cause = .fault .runaway (.station k) ∧ Told (.lockout k) s.group.cycle t) ∨
  (t.group.cause = s.group.cause ∧ ((s.group.state = .engaging ∧ t.group.state = .poised) ∨
    (s.group.state = .landing ∧ t.group.state = .prepared) ∨ (s.group.state = .moving ∧ t.group.state = .holding)))

theorem faultStops_congr (hs : t.group.state = s.group.state) (hc : t.group.cause = s.group.cause) : faultStops t = faultStops s := by
  unfold faultStops
  rw [hs, hc]

theorem faultStops_of_fault {f : FaultKind} {x : Subject} (hs : t.group.state = .stopping) (hc : t.group.cause = .fault f x) :
    faultStops t = false := by
  unfold faultStops
  rw [hs, hc]
  rfl

theorem Passes.of_group (h : t.group = s.group) : Passes s t := .inl (by rw [h]; exact ⟨rfl, rfl, id⟩)

theorem Passes.trans (h : Passes s t) (g : Passes t u) (ht : Tells t u) (hc : t.group.cycle = s.group.cycle) : Passes s u := by
  obtain ⟨h1, h2, h3⟩ | ⟨h1, h2, ⟨f, x, h3, h4⟩, h5⟩ | ⟨h1, h2, k, h3, h4⟩ | ⟨h1, h2⟩ := h
  · obtain ⟨g1, g2, g3⟩ | ⟨g1, g2, g3, g4⟩ | ⟨g1, g2, g3⟩ | ⟨g1, g2⟩ := g
    · exact .inl ⟨g1.trans h1, g2.trans h2, g3 ∘ h3⟩
    · refine .inr (.inl ⟨(faultStops_congr h1 h2).symm.trans g1, g2, by rwa [hc] at g3, fun hs hr => g4 (h1.trans hs) (h3 hr)⟩)
    · exact .inr (.inr (.inl ⟨h1 ▸ g1, g2, by rwa [hc] at g3⟩))
    · exact .inr (.inr (.inr ⟨g1.trans h2, by rwa [h1] at g2⟩))
  · obtain ⟨g1, g2, g3⟩ | ⟨g1, -⟩ | ⟨g1, g2, g3⟩ | ⟨-, g2⟩ := g
    · exact .inr (.inl ⟨h1, g1.trans h2, ⟨f, x, g2.trans h3, ht _ _ h4⟩, fun hs hr => g3 (h5 hs hr)⟩)
    · rw [faultStops_of_fault h2 h3] at g1
      cases g1
    · exact .inr (.inr (.inl ⟨(faultStops_states h1).2, g2, by rwa [hc] at g3⟩))
    · rw [h2] at g2
      simp at g2
  · obtain ⟨g1, g2, -⟩ | ⟨g1, -⟩ | ⟨g1, -⟩ | ⟨-, g2⟩ := g
    · exact .inr (.inr (.inl ⟨h1, g1.trans h2, k, g2.trans h3, ht _ _ h4⟩))
    · exact absurd h2 (faultStops_states g1).2
    · exact absurd h2 g1
    · rw [h2] at g2
      simp at g2
  · obtain ⟨g1, g2, -⟩ | ⟨g1, g2, g3, g4⟩ | ⟨g1, g2, g3⟩ | ⟨-, g2⟩ := g
    · exact .inr (.inr (.inr ⟨g2.trans h1, by rwa [g1]⟩))
    · obtain ⟨ha, hb⟩ | ⟨ha, hb⟩ | ⟨ha, hb⟩ := h2
      · exact .inr (.inl ⟨by simp [faultStops, ha], g2, by rwa [hc] at g3, fun hs => absurd (ha.symm.trans hs) (by simp)⟩)
      · simp [faultStops, hb] at g1
      · exact .inr (.inl ⟨by simp [faultStops, ha], g2, by rwa [hc] at g3, fun hs => absurd (ha.symm.trans hs) (by simp)⟩)
    · refine .inr (.inr (.inl ⟨fun hl => ?_, g2, by rwa [hc] at g3⟩))
      rw [hl] at h2
      simp at h2
    · obtain ⟨ha, hb⟩ | ⟨ha, hb⟩ | ⟨ha, hb⟩ := h2 <;> simp [hb] at g2

/-- What every piece of work between the latch and the end of a cycle start keeps: no event is lost, the queue grows by frames that are no
snapshots, the line's settings, the pins, the link, the group's cycle, permit, parameters and slot, and of every station what
`Jack.Untouched` names; where the work is `strict`, the fault list, the faults of FAULTED stations and, but for a passage of `Passes`,
the group's state; and where it is `early`, before the computation, it begins no stop with its rates forced. -/
structure Works (strict early : Prop) (s t : State) : Prop where
  tells : Tells s t
  queue : ∃ l, t.line.queue = s.line.queue ++ l ∧ ∀ f ∈ l, f.isSnapshot = false
  line : t.line = { s.line with queue := t.line.queue, pending := t.line.pending, raised := t.line.raised }
  pins : t.pins = s.pins
  link : t.link = s.link
  cycle : t.group.cycle = s.group.cycle
  permit : t.group.permit = s.group.permit
  params : t.group.params = s.group.params
  slot : t.group.slot = s.group.slot
  jacks : ∀ k, (s.jack k).Untouched (t.jack k)
  carries : strict → Carries s t
  passes : strict → Passes s t
  forced : early → forcedEarlier t = true → forcedEarlier s = true

theorem Works.trans (h : Works strict early s t) (g : Works strict early t u) : Works strict early s u where
  tells := h.tells.trans g.tells
  queue := by
    obtain ⟨l, hl, hs⟩ := h.queue
    obtain ⟨m, hm, hs'⟩ := g.queue
    exact ⟨l ++ m, by rw [hm, hl, List.append_assoc], fun f hf => (List.mem_append.mp hf).elim (hs f) (hs' f)⟩
  line := by rw [g.line, h.line]
  pins := g.pins.trans h.pins
  link := g.link.trans h.link
  cycle := g.cycle.trans h.cycle
  permit := g.permit.trans h.permit
  params := g.params.trans h.params
  slot := g.slot.trans h.slot
  jacks := fun k => (h.jacks k).trans (g.jacks k)
  carries := fun hs => (h.carries hs).trans (g.carries hs)
  passes := fun hs => (h.passes hs).trans (g.passes hs) g.tells h.cycle
  forced := fun he => h.forced he ∘ g.forced he

/-- Work that changes the line controller by events raised alone. -/
theorem Works.of_raises (hl : Raises s t) (hpins : t.pins = s.pins) (hlink : t.link = s.link) (hc : t.group.cycle = s.group.cycle)
    (hp : t.group.permit = s.group.permit) (hq : t.group.params = s.group.params) (hslot : t.group.slot = s.group.slot)
    (hj : ∀ k, (s.jack k).Untouched (t.jack k)) (hs : strict → Carries s t) (hpass : strict → Passes s t)
    (hf : early → forcedEarlier t = true → forcedEarlier s = true) : Works strict early s t where
  tells := .of_raises hl
  queue := by
    obtain ⟨l, hl⟩ := hl
    exact ⟨[], by rw [hl, List.append_nil], fun _ h => by cases h⟩
  line := by
    obtain ⟨l, hl⟩ := hl
    rw [hl]
  pins := hpins
  link := hlink
  cycle := hc
  permit := hp
  params := hq
  slot := hslot
  jacks := hj
  carries := hs
  passes := hpass
  forced := hf

/-- Work that leaves the group alone, and the line controller but for events raised. -/
theorem Works.of_jacks (hl : Raises s t) (hpins : t.pins = s.pins) (hlink : t.link = s.link) (hg : t.group = s.group)
    (hj : ∀ k, (s.jack k).Untouched (t.jack k)) (hs : strict → ∀ k, (s.jack k).record.FaultKept (t.jack k).record) :
    Works strict early s t :=
  .of_raises hl hpins hlink (by rw [hg]) (by rw [hg]) (by rw [hg]) (by rw [hg]) hj
    (fun h => .of_group (.of_raises hl) (by rw [hg]) (by rw [hg]) (by rw [hg]) (hs h)) (fun _ => .of_group hg)
    fun _ => by unfold forcedEarlier; rw [hg]; exact id

/-- Work that leaves every station, the pins and the link alone, and raises events alone. -/
theorem Works.of_group (hl : Raises s t) (hj : t.jacks = s.jacks) (hpins : t.pins = s.pins) (hlink : t.link = s.link)
    (hc : t.group.cycle = s.group.cycle) (hp : t.group.permit = s.group.permit) (hq : t.group.params = s.group.params)
    (hslot : t.group.slot = s.group.slot) (hf : strict → t.group.faults = s.group.faults ∧ t.group.overflow = s.group.overflow)
    (hpass : strict → Passes s t) (he : early → forcedEarlier t = true → forcedEarlier s = true) : Works strict early s t := by
  have hjk (k : Sta) : t.jack k = s.jack k := congrArg (fun p => p.get k) hj
  exact .of_raises hl hpins hlink hc hp hq hslot (fun k => by rw [hjk]; exact .refl _) (fun h =>
    .of_group (.of_raises hl) hc (hf h).1 (hf h).2 fun k => .of_eq (by rw [hjk])) hpass he

/-- Work that changes neither the line, nor the pins, nor the link, nor the group, nor a station. -/
theorem Works.of_rest (hl : t.line = s.line) (hj : t.jacks = s.jacks) (hpins : t.pins = s.pins) (hlink : t.link = s.link)
    (hg : t.group = s.group) : Works strict early s t :=
  .of_group (.of_line hl) hj hpins hlink (by rw [hg]) (by rw [hg]) (by rw [hg]) (by rw [hg]) (fun _ => by rw [hg]; exact ⟨rfl, rfl⟩)
    (fun _ => .of_group hg) fun _ => by unfold forcedEarlier; rw [hg]; exact id

theorem Works.refl (s : State) : Works strict early s s := .of_rest rfl rfl rfl rfl rfl

theorem Works.forStations {f : Sta → State → State} (h : ∀ k t, Works strict early t (f k t)) (s : State) :
    Works strict early s (forStations f s) :=
  forStations_keeps (P := fun t => Works strict early s t) (fun k t ht => ht.trans (h k t)) (.refl s)

theorem Works.foldl {α : Type} {f : State → α → State} (h : ∀ t x, Works strict early t (f t x)) (l : List α) (s : State) :
    Works strict early s (l.foldl f s) := by
  induction l generalizing s with
  | nil => exact .refl s
  | cons x l ih => exact (h s x).trans (ih _)

theorem Works.updAll {f : Sta → Jack → Jack} (h : ∀ k, (s.jack k).Untouched (f k (s.jack k)))
    (hs : strict → ∀ k, (s.jack k).record.FaultKept (f k (s.jack k)).record) : Works strict early s (s.updAll f) :=
  .of_jacks (.of_line rfl) rfl rfl rfl (fun k => by rw [updAll_jack]; exact h k) fun hst k => by rw [updAll_jack]; exact hs hst k

theorem Works.updJack {f : Jack → Jack} (h : (s.jack k).Untouched (f (s.jack k)))
    (hs : strict → (s.jack k).record.FaultKept (f (s.jack k)).record) : Works strict early s (s.updJack k f) := by
  refine .of_jacks (.of_line rfl) rfl rfl rfl (fun i => ?_) fun hst i => ?_
  · rw [updJack_jack]
    split_ifs with hi
    · rw [hi]
      exact h
    · exact .refl _
  · rw [updJack_jack]
    split_ifs with hi
    · rw [hi]
      exact hs hst
    · exact .of_eq rfl

/-- An update of a station's generator. -/
theorem Works.updGen {f : Generator → Generator} : Works strict early s (s.updGen k f) := .updJack {} fun _ => .of_eq rfl

/-- An update of a station's record that keeps its settings, its datum and its fault. -/
theorem Works.updRec {f : StationRec → StationRec} (hset : (f (s.jack k).record).settings = (s.jack k).record.settings)
    (hoff : (f (s.jack k).record).pendingOffset = (s.jack k).record.pendingOffset)
    (hdat : (f (s.jack k).record).datumKnown = (s.jack k).record.datumKnown)
    (ha : ((f (s.jack k).record).state = .unassigned ↔ (s.jack k).record.state = .unassigned)) (hs : strict → (s.jack k).record.FaultKept (f (s.jack k).record)) : Works strict early s (s.updRec k f) :=
  .updJack { assigned := Bool.eq_iff_iff.mpr (by simp [Jack.assigned, ha]), settings := hset, pendingOffset := hoff, datumKnown := hdat } hs

/-! ### The line controller and the group -/

theorem Works.raise (e : Event) (s : State) : Works strict early s (raise e s) :=
  .of_group (.raise e s) rfl rfl rfl rfl rfl rfl rfl (fun _ => ⟨rfl, rfl⟩) (fun _ => .of_group rfl) fun _ => id

theorem handEvent_grows (r : Raised) (s : State) : (∃ l, (handEvent r s).line.queue = s.line.queue ++ l ∧
    ∀ f ∈ l, f.isSnapshot = false) ∧ (handEvent r s).line = { s.line with
      queue := (handEvent r s).line.queue, pending := (handEvent r s).line.pending } := by
  obtain ⟨-, he⟩ | ⟨-, -, -, he⟩ | ⟨-, -, he⟩ := handEvent_cases r s <;> rw [he]
  · exact ⟨⟨[], (List.append_nil _).symm, fun _ h => by cases h⟩, rfl⟩
  · exact ⟨⟨_, rfl, fun f hf => by rw [List.mem_singleton.mp hf]; rfl⟩, rfl⟩
  · exact ⟨⟨[], (List.append_nil _).symm, fun _ h => by cases h⟩, rfl⟩

theorem handOver_grows (s : State) : (∃ l, (handOver s).line.queue = s.line.queue ++ l ∧ ∀ f ∈ l, f.isSnapshot = false) ∧
    (handOver s).line = { s.line with queue := (handOver s).line.queue, pending := (handOver s).line.pending, raised := [] } := by
  refine handOver_keeps (P := fun t => (∃ l, t.line.queue = s.line.queue ++ l ∧ ∀ f ∈ l, f.isSnapshot = false) ∧
    t.line = { s.line with queue := t.line.queue, pending := t.line.pending, raised := [] }) (fun r t ⟨⟨l, hl, hs⟩, ht⟩ => ?_)
    ⟨⟨[], (List.append_nil _).symm, fun _ h => by cases h⟩, rfl⟩
  obtain ⟨⟨m, hm, hs'⟩, he⟩ := handEvent_grows r t
  exact ⟨⟨l ++ m, by rw [hm, hl, List.append_assoc], fun f hf => (List.mem_append.mp hf).elim (hs f) (hs' f)⟩, by rw [he, ht]⟩

theorem handOver_raised (s : State) : (handOver s).line.raised = [] := by rw [(handOver_grows s).2]

theorem Works.handOver (s : State) : Works strict early s (handOver s) where
  tells := .handOver s
  queue := (handOver_grows s).1
  line := by
    have h := (handOver_grows s).2
    rw [h]
  pins := handOver_pins s
  link := handOver_link s
  cycle := by rw [handOver_group]
  permit := by rw [handOver_group]
  params := by rw [handOver_group]
  slot := by rw [handOver_group]
  jacks := fun k => by rw [handOver_jack]; exact .refl _
  carries := fun _ => .handOver s
  passes := fun _ => .of_group (handOver_group s)
  forced := fun _ => by unfold forcedEarlier; rw [handOver_group]; exact id

/-- A frame that is no snapshot, admitted. -/
theorem Works.enqueue {f : Frame} (hf : f.isSnapshot = false) (s : State) : Works strict early s (enqueue f s) where
  tells := .enqueue f s
  queue := ⟨[f], rfl, fun g hg => by rw [List.mem_singleton.mp hg]; exact hf⟩
  line := rfl
  pins := rfl
  link := rfl
  cycle := rfl
  permit := rfl
  params := rfl
  slot := rfl
  jacks := fun _ => .refl _
  carries := fun _ => .of_group (.enqueue f s) rfl rfl rfl fun _ => .of_eq rfl
  passes := fun _ => .of_group rfl
  forced := fun _ => id

/-- A group state entered by one of the passages of `Passes`, or by work that is not strict. -/
theorem Works.enterGroup (g : GroupState) (s : State) (hp : strict → (s.group.state = .engaging ∧ g = .poised) ∨
    (s.group.state = .landing ∧ g = .prepared) ∨ (s.group.state = .moving ∧ g = .holding)) (he : early → g ≠ .stopping) :
    Works strict early s (enterGroup g s) :=
  .of_group (.enterGroup g s) (enterGroup_jacks g s) (enterGroup_pins g s) (enterGroup_link g s) (by rw [enterGroup_group])
    (by rw [enterGroup_group]) (by rw [enterGroup_group]) (by rw [enterGroup_group])
    (fun _ => by rw [enterGroup_group]; exact ⟨rfl, rfl⟩)
    (fun hs => by unfold Passes; rw [enterGroup_group]; exact .inr (.inr (.inr ⟨rfl, hp hs⟩)))
    fun hs h => absurd ((forcedEarlier_iff _).mp h).1 (by rw [enterGroup_state]; exact he hs)

theorem Works.setWait (n : Nat) (b : Bool) (s : State) : Works strict early s (setWait n b s) :=
  .of_group (.of_line rfl) rfl rfl rfl rfl rfl rfl rfl (fun _ => ⟨rfl, rfl⟩) (fun _ => .inl ⟨rfl, rfl, id⟩) fun _ => id

theorem Works.clearWait (s : State) : Works strict early s (clearWait s) :=
  .of_group (.of_line rfl) rfl rfl rfl rfl rfl rfl rfl (fun _ => ⟨rfl, rfl⟩) (fun _ => .inl ⟨rfl, rfl, id⟩) fun _ => id

theorem Works.of_sync {y : Sync} {p : Plan} : Works strict early s { s with sync := y, plan := p } := .of_rest rfl rfl rfl rfl rfl

theorem Works.haltReference (s : State) : Works strict early s (haltReference s) :=
  .of_group (.of_line rfl) rfl rfl rfl rfl rfl rfl rfl (fun _ => ⟨rfl, rfl⟩) (fun _ => .inl ⟨rfl, rfl, id⟩) fun _ => id

/-! ### Stations -/

theorem Works.handRate (k : Sta) (r : Int) (s : State) : Works strict early s (handRate k r s) := .updJack {} fun _ => .of_eq rfl

theorem Works.orderMove (k : Sta) (n : Nat) (d : Dir) (m : Nat) (s : State) : Works strict early s (orderMove k n d m s) :=
  .updJack {} fun _ => .of_eq rfl

theorem Works.recordRate (k : Sta) (r : Int) (s : State) : Works strict early s (recordRate k r s) := .updJack {} fun _ => .of_eq rfl

theorem Works.clearRates (s : State) : Works strict early s (clearRates s) := .updAll (fun _ => {}) fun _ _ => .of_eq rfl

theorem Works.settleBrakes (s : State) : Works strict early s (settleBrakes s) := .updAll (fun _ => {}) fun _ _ => .of_eq rfl

theorem Jack.trimEnded_untouched (j : Jack) : j.Untouched j.trimEnded := by
  obtain ⟨m, n, p, h⟩ := j.moveStopped_same
  unfold Jack.trimEnded
  split
  · split_ifs
    · rw [h]
      exact {}
    · exact {}
  · exact {}

theorem Works.endTrims (s : State) : Works strict early s (endTrims s) :=
  .of_jacks (.endTrims s) (endTrims_pins s) (endTrims_link s) (endTrims_group s)
    (fun k => by rw [endTrims_jack]; exact Jack.trimEnded_untouched _)
    fun _ k => by rw [endTrims_jack]; exact Jack.trimEnded_kept _

theorem Works.landedCheck (s : State) : Works strict early s (landedCheck s) := by
  obtain ⟨⟨hl, -⟩, h⟩ | ⟨-, h⟩ := landedCheck_cases s <;> rw [h]
  · exact .enterGroup _ s (fun _ => .inr (.inl ⟨hl, rfl⟩)) (fun _ => by simp)
  · exact .refl s

/-- The release of a RELEASING station. -/
theorem Works.finishRelease (h : (s.jack k).record.state = .releasing) : Works strict early s (finishRelease k s) :=
  ((Works.updRec rfl rfl rfl (by simp [h]) fun _ => .of_not (by simp [h])).trans (.raise _ _)).trans (.landedCheck _)

theorem Works.updCar (i : Nat) (f : Car → Car) (s : State) : Works strict early s (s.updCar i f) := .of_rest rfl rfl rfl rfl rfl

/-! ### Detections -/

theorem Jack.assigned_congr {a b : Jack} (h : b.record.state = .unassigned ↔ a.record.state = .unassigned) : b.assigned = a.assigned :=
  Bool.eq_iff_iff.mpr (by simp [Jack.assigned, h])

theorem Jack.faultedBy_assigned (f : FaultKind) (j : Jack) : (j.faultedBy f).assigned = j.assigned := by
  refine Jack.assigned_congr ⟨fun h => ?_, fun h => by rw [Jack.faultedBy, if_pos h]; exact h⟩
  by_contra hu
  have hs := Jack.faultedBy_state f (j := j) (by simpa [Jack.assigned] using hu)
  rw [hs] at h
  cases h

theorem Jack.struck_assigned (f : FaultKind) (x : Subject) (k : Sta) (j : Jack) : (j.struck f x k).assigned = j.assigned := by
  cases x <;> simp only [Jack.struck]
  case station =>
    split_ifs
    · exact j.faultedBy_assigned f
    · rfl
  case car => exact j.trimEnded_untouched.assigned
  case coupling => exact j.trimEnded_untouched.assigned

theorem StationRec.moveByStop_unassigned (r : StationRec) : r.moveByStop.state = .unassigned ↔ r.state = .unassigned := by
  unfold StationRec.moveByStop
  split <;> simp [*]

theorem StationRec.cut_unassigned (r : StationRec) : r.cut.state = .unassigned ↔ r.state = .unassigned := by
  unfold StationRec.cut
  split_ifs
  · cases h : r.state <;> simp [StationRec.endMove, moveEndState, h]
  · rfl

/-- Work on the group that writes its state, its cause, its wait count and the mark of its rates alone, a detection's. -/
theorem Works.actOnGroup (f : FaultKind) (x : Subject) (s : State) : Works strict early s (actOnGroup f x s) := by
  have hj (k : Sta) := Jack.Untouched.of_same (actOnGroup_sameStation f x s k)
  have hc := Carries.actOnGroup f x s
  obtain ⟨k, -, -, -, h⟩ | ⟨k, -, -, hn, h⟩ | ⟨-, hs, h⟩ | ⟨-, -, h⟩ := actOnGroup_cases f x s <;> rw [h] at hj hc ⊢
  · exact .refl s
  · have hg := enterLockout_group k s
    refine .of_raises (.enterLockout k s) (enterLockout_pins k s) (enterLockout_link k s) (by rw [hg]) (by rw [hg]) (by rw [hg])
      (by rw [hg]) (fun i => hj i ?_) (fun _ => hc) (fun _ => ?_) fun _ hf => ?_
    · rw [enterLockout_jack]
      exact Jack.assigned_congr ((StationRec.moveByStop_unassigned _).trans (StationRec.cut_unassigned _))
    · exact .inr (.inr (.inl ⟨hn, by rw [hg], k, by rw [hg], told_enterLockout k s⟩))
    · simp [forcedEarlier, hg] at hf
  · have hg := beginFaultStop_group f x s
    refine .of_raises ((Raises.raise _ s).trans (.beginFaultStop f x s)) (beginFaultStop_pins f x s) (beginFaultStop_link f x s)
      (by rw [hg]) (by rw [hg]) (by rw [hg]) (by rw [hg]) (fun i => hj i ?_) (fun _ => hc) (fun _ => ?_) fun _ hf => ?_
    · rw [beginFaultStop_jack, moveStations_jack]
      exact Jack.assigned_congr (StationRec.moveByStop_unassigned _)
    · exact .inr (.inl ⟨hs, by rw [hg], ⟨f, x, by rw [hg], told_beginFaultStop f x s⟩, fun hst hr => by rw [hg]; simp [hst, hr]⟩)
    · rw [forcedEarlier, hg] at hf
      simpa [forcedEarlier, and_comm] using hf
  · exact .refl s

theorem Works.takeDetection (f : FaultKind) (x : Subject) (s : State) : Works strict early s (takeDetection f x s) := by
  have hgroup : (Machine.listFault f x s).group.state = s.group.state ∧ (Machine.listFault f x s).group.cause = s.group.cause ∧
      (Machine.listFault f x s).group.ratesForced = s.group.ratesForced ∧ (Machine.listFault f x s).group.cycle = s.group.cycle ∧
      (Machine.listFault f x s).group.permit = s.group.permit ∧ (Machine.listFault f x s).group.params = s.group.params ∧
      (Machine.listFault f x s).group.slot = s.group.slot := by
    rw [listFault_group]
    unfold Group.listing
    split_ifs <;> exact ⟨rfl, rfl, rfl, rfl, rfl, rfl, rfl⟩
  obtain ⟨h1, h2, h3, h4, h5, h6, h7⟩ := hgroup
  have hlist : Works strict early s (Machine.listFault f x s) :=
    .of_raises (.listFault f x s) (listFault_pins f x s) (listFault_link f x s) h4 h5 h6 h7
      (fun k => by rw [listFault_jack]; exact .refl _) (fun _ => .listFault f x s) (fun _ => .inl ⟨h1, h2, fun h => h3.trans h⟩)
      fun _ h => by unfold forcedEarlier at h ⊢; rwa [h1, h3] at h
  have hact (s : State) : Works strict early s (actOnStations f x s) := by
    refine .of_raises (.actOnStations f x s) (actOnStations_pins f x s) (actOnStations_link f x s) (by rw [actOnStations_group])
      (by rw [actOnStations_group]) (by rw [actOnStations_group]) (by rw [actOnStations_group]) (fun k => .of_same ?_ ?_)
      (fun _ => .actOnStations f x s) (fun _ => .of_group (actOnStations_group f x s))
      fun _ => by unfold forcedEarlier; rw [actOnStations_group]; exact id
    · cases x
      case station => exact faultStation_sameStation _ _ _ k
      case car => exact endTrims_sameStation _ k
      case coupling => exact endTrims_sameStation _ k
      case none => exact .refl _
    · rw [actOnStations_jack]
      exact Jack.struck_assigned f x k _
  exact ((hlist.trans (hact _)).trans (.actOnGroup f x _)).trans (.handOver _)

theorem Works.takeDetections (l : List Detection) (s : State) : Works strict early s (takeDetections l s) :=
  takeDetections_keeps (P := fun t => Works strict early s t) (fun f x t ht => ht.trans (.takeDetection f x t)) (.refl s) l

/-! ### The tracking monitor, the load link and the geometry checker -/

theorem Works.lockoutWatch (s : State) : Works strict early s (lockoutWatch s) := by
  unfold Machine.lockoutWatch
  split_ifs
  · exact .updAll (fun _ => {}) fun _ _ => .of_eq rfl
  · exact .refl s

theorem Works.slipEvent (found : State) (k : Sta) (s : State) : Works strict early s (slipEvent found k s) := by
  unfold Machine.slipEvent raiseSlip
  split
  · split_ifs
    · exact .raise _ s
    · exact .refl s
  · exact .refl s

theorem Works.monitorWork (found s : State) : Works strict early s (monitorWork found s) :=
  (((Works.updAll (fun _ => {}) fun _ _ => .of_eq rfl).trans (.forStations (.slipEvent found) _)).trans (.handOver _)).trans
    (.takeDetections _ _)

theorem Works.linkWork (found s : State) : Works strict early s (linkWork found s) :=
  (Works.updAll (fun _ => {}) fun _ _ => .of_eq rfl).trans (.takeDetections _ _)

theorem Works.checkTwist (i : Nat) (s : State) : Works strict early s (checkTwist i s) := by
  unfold Machine.checkTwist
  split
  · exact .refl s
  · extract_lets twist warn t u
    have ht : Works strict early s t := .updCar i _ s
    have hu : Works strict early t u := by
      show Works strict early t (if _ then _ else _)
      split_ifs
      · exact .raise _ t
      · exact .refl t
    split_ifs
    · exact (ht.trans hu).trans (.takeDetection _ _ _)
    · exact ht.trans hu

theorem Works.checkCoupling (i : Nat) (s : State) : Works strict early s (checkCoupling i s) := by
  unfold Machine.checkCoupling
  split
  · extract_lets step past t
    have ht : Works strict early s t := .updCar i _ s
    split_ifs
    · exact ht.trans (.takeDetection _ _ _)
    · exact ht
  · exact .refl s

theorem Works.imbalanceWork (s : State) : Works strict early s (imbalanceWork s) :=
  (Works.foldl (fun t x => by
    split_ifs
    · exact .raise _ t
    · exact .refl t) _ s).trans (.updAll (fun _ => {}) fun _ _ => .of_eq rfl)

theorem Works.geometryWork (found s : State) : Works strict early s (geometryWork found s) := by
  unfold Machine.geometryWork
  split_ifs
  · exact (Works.foldl (fun t i => (Works.checkTwist i t).trans (.checkCoupling i _)) _ s).trans (.imbalanceWork _)
  · exact (Works.of_rest (s := s) (t := armWarnings s) rfl rfl rfl rfl rfl).trans (.imbalanceWork _)

/-! ### The contact sequencer -/

theorem Works.whileFound {st : StationState} {f : State → State} (h : (s.jack k).record.state = st → Works strict early s (f s)) :
    Works strict early s (whileFound k st f s) := by
  unfold Machine.whileFound
  split_ifs with hi
  · exact h (Jack.isIn_eq_true.mp hi)
  · exact .refl s

theorem Works.engageStation (h : (s.jack k).record.state ≠ .faulted) (hu : (s.jack k).record.state ≠ .unassigned) : Works strict early s (engageStation k s) :=
  ((Works.updRec rfl rfl rfl (by simp [hu, StationRec.toEngaged]) fun _ => .of_not h).trans (.handRate k 0 _)).trans (.raise _ _)

theorem Works.judgeSeeking (found : State) (k : Sta) (s : State) : Works strict early s (judgeSeeking found k s) := by
  unfold Machine.judgeSeeking
  simp only
  split_ifs
  · refine .whileFound fun h => ?_
    have hf : (s.jack k).record.state ≠ .faulted := by simp [h]
    unfold Machine.beginConfirm
    split_ifs
    · exact .engageStation hf (by simp [h])
    · exact (Works.updRec rfl rfl rfl (by simp [h]) fun _ => .of_not hf).trans (.handRate k 0 _)
  · exact .takeDetection _ _ s
  · exact .whileFound fun _ => .handRate k _ s

theorem Works.judgeConfirming (found : State) (k : Sta) (s : State) : Works strict early s (judgeConfirming found k s) := by
  unfold Machine.judgeConfirming
  simp only
  split_ifs
  · refine .whileFound fun h => ?_
    have hf : (s.jack k).record.state ≠ .faulted := by simp [h]
    unfold Machine.countContact
    simp only
    split_ifs
    · exact .engageStation hf (by simp [h])
    · exact (Works.updRec rfl rfl rfl (by simp [h]) fun _ => .of_not hf).trans (.handRate k 0 _)
  · exact .takeDetection _ _ s
  · refine .whileFound fun h => ?_
    exact (Works.updRec rfl rfl rfl (by simp [h]) fun _ => .of_not (by simp [h])).trans (.handRate k _ _)
  · exact .whileFound fun _ => .handRate k _ s

theorem Works.judgeEngaging (found : State) (k : Sta) (s : State) : Works strict early s (judgeEngaging found k s) := by
  unfold Machine.judgeEngaging
  split
  · exact .judgeSeeking found k s
  · exact .judgeConfirming found k s
  · exact .whileFound fun _ => .handRate k _ s
  all_goals exact .refl s

theorem Works.poisedTest (s : State) : Works strict early s (poisedTest s) := by
  unfold Machine.poisedTest
  split_ifs with h
  · exact (Works.of_sync (p := s.plan)).trans (.enterGroup _ (clearReference s) (fun _ => .inl ⟨h.1, rfl⟩) fun _ => by simp)
  · exact .refl s

theorem Works.startRelease (h : (s.jack k).record.state = .engaged) : Works strict early s (startRelease k s) :=
  (Works.updRec rfl rfl rfl (by simp [h, StationRec.toReleasing]) fun _ => .of_not (by simp [h])).trans (.handRate k _ _)

theorem Works.releaseAll (s : State) : Works strict early s (releaseAll s) :=
  .forStations (fun _ _ => .whileFound .startRelease) s

theorem Works.confirmRelease (h : (s.jack k).record.state = .releasing) : Works strict early s (confirmRelease k s) := by
  have hrec : Works strict early s (s.updRec k (fun r => { r with confirm := r.confirm + 1 })) :=
    .updRec rfl rfl rfl (by simp) fun _ => .of_not (by simp [h])
  unfold Machine.confirmRelease
  simp only
  split_ifs
  · exact (hrec.trans (.handRate k 0 _)).trans (.finishRelease (by
      rw [handRate_record, updRec_jack_self]
      exact h))
  · exact (hrec.trans (.recordRate k _ _)).trans (.orderMove k _ _ _ _)

theorem Works.judgeReleasing (found : State) (k : Sta) (s : State) : Works strict early s (judgeReleasing found k s) := by
  unfold Machine.judgeReleasing
  simp only
  split_ifs
  · exact .whileFound fun _ => .recordRate k _ s
  · exact .whileFound .confirmRelease
  · exact .takeDetection _ _ s
  · exact .whileFound fun h => (Works.updRec rfl rfl rfl (by simp [h]) fun _ => .of_not (by simp [h])).trans (.handRate k _ _)

theorem Works.judgeLanding (found : State) (k : Sta) (s : State) : Works strict early s (judgeLanding found k s) := by
  unfold Machine.judgeLanding
  split
  · exact .judgeReleasing found k s
  · exact .whileFound .startRelease
  all_goals exact .refl s

theorem Works.sequencerWork (found s : State) : Works strict early s (sequencerWork found s) := by
  unfold Machine.sequencerWork
  split
  · exact (Works.forStations (.judgeEngaging found) s).trans (.poisedTest _)
  · split_ifs
    · exact .refl s
    · exact .forStations (.judgeLanding found) s
  all_goals exact .refl s

/-! ### The plan store -/

theorem Works.startSegment (s : State) : Works strict early s (startSegment s) := by
  unfold Machine.startSegment
  split
  · exact .refl s
  · simp only
    split_ifs
    · exact Works.of_sync.trans (.raise _ _)
    · exact .of_sync

theorem Works.takePlan (c : CommitKind) (b : Bool) (s : State) : Works strict early s (takePlan c b s) :=
  Works.of_sync.trans (.raise _ _)

theorem Works.takeAtCycleStart (s : State) : Works strict early s (takeAtCycleStart s) := by
  unfold Machine.takeAtCycleStart
  split
  · split_ifs
    · exact (Works.takePlan _ _ s).trans (.startSegment _)
    · exact .takePlan _ _ s
  · split_ifs
    · exact .takePlan _ _ s
    · exact .refl s
  · exact .refl s

theorem Works.enterHolding (hs : s.group.state = .moving) : Works strict early s (enterHolding s) :=
  (Works.of_sync (p := s.plan)).trans (.enterGroup .holding { s with sync := { s.sync with speed := 0, dir := .none } }
    (fun _ => .inr (.inr ⟨hs, rfl⟩)) fun _ => by simp)

theorem Works.completeSegment (g : Segment) (hs : s.group.state = .moving) : Works strict early s (completeSegment g s) := by
  unfold Machine.completeSegment
  extract_lets k last holds appendQueued rests y p t u w
  have ht : Works strict early s t := .of_sync
  have hu : Works strict early t u ∧ u.group = t.group := by
    show Works strict early t (if _ then _ else _) ∧ (if _ then _ else _ : State).group = _
    split_ifs
    · exact ⟨.raise _ t, rfl⟩
    · exact ⟨.refl t, rfl⟩
  obtain ⟨hu, hug⟩ := hu
  have hw : Works strict early u w ∧ w.group = u.group := by
    show Works strict early u (if _ then _ else _) ∧ (if _ then _ else _ : State).group = _
    split_ifs
    · exact ⟨.takePlan _ _ u, rfl⟩
    · exact ⟨.refl u, rfl⟩
  obtain ⟨hw, hwg⟩ := hw
  split_ifs
  · exact ((ht.trans hu).trans hw).trans (.enterHolding (by rw [hwg, hug]; exact hs))
  · exact ((ht.trans hu).trans hw).trans (.startSegment w)

/-! ### The synchronisation unit -/

theorem Works.setRef (r : Ref) (s : State) : Works strict early s (setRef r s) := .of_sync (p := s.plan)

theorem Works.referenceStage (s : State) : Works strict early s (referenceStage s).state := by
  unfold Machine.referenceStage
  split
  · next hs =>
    split
    · split
      · unfold moveStep
        simp only
        split_ifs
        · exact (Works.setRef _ s).trans (.completeSegment _ hs)
        · exact .setRef _ s
      · unfold dwellStep
        simp only
        split_ifs
        · exact (Works.of_sync (p := s.plan)).trans (.completeSegment _ hs)
        · exact .of_sync (p := s.plan)
    · exact .refl s
  · split_ifs
    · exact .setRef _ s
    · exact .refl s
  · split_ifs
    · unfold descentStep
      simp only
      split_ifs
      · exact (Works.setRef _ s).trans (.of_sync (p := s.plan))
      · exact .setRef _ s
    · exact .refl s
  · exact .refl s

theorem Works.handRates (v : Nat) (s : State) : Works strict early s (handRates v s) := by
  unfold Machine.handRates
  split_ifs
  · exact .forStations (fun k t => by
      split_ifs
      · exact .handRate k _ t
      · exact .refl t) s
  · exact .refl s

theorem Works.handStops (s : State) : Works strict False s (handStops s) := by
  unfold Machine.handStops
  extract_lets t
  have ht : Works strict False s t := .forStations (fun k t => by
    split_ifs
    · exact .handRate k _ t
    · exact .refl t) s
  clear_value t
  exact ht.trans (.of_group (.of_line rfl) rfl rfl rfl rfl rfl rfl rfl (fun _ => ⟨rfl, rfl⟩) (fun _ => .inl ⟨rfl, rfl, fun _ => rfl⟩)
    False.elim)

theorem Works.finishComputation (a b : Bool) (s : State) : Works strict False s (finishComputation a b s) := by
  unfold Machine.finishComputation
  split_ifs
  · exact (Works.of_sync (p := s.plan)).trans (.handStops _)
  · exact .handRates 0 s
  · exact (Works.referenceStage s).trans (.handRates _ _)

theorem Works.waitCycle (s : State) : Works strict early s (waitCycle s) := by
  have ht : Works strict early s (Machine.setWait (s.group.waitCount + 1) true (freezeReference s)) :=
    (Works.of_rest (s := s) (t := freezeReference s) rfl rfl rfl rfl rfl).trans (.setWait _ _ _)
  unfold Machine.waitCycle
  simp only
  split_ifs
  · exact ht.trans (.takeDetection _ _ _)
  · exact ht

theorem Works.formErrors (s : State) : Works strict early s (formErrors s) := .updAll (fun _ => {}) fun _ _ => .of_eq rfl

theorem Works.computation (s : State) : Works strict False s (computation s) := by
  unfold Machine.computation
  extract_lets detections t forced
  have ht : Works strict False s t := (Works.formErrors s).trans (.takeDetections _ _)
  split_ifs
  · exact ht.trans (((Works.setWait 0 false t).trans (.finishComputation _ _ _)).trans (.handOver _))
  · exact ht.trans (((Works.waitCycle t).trans (.finishComputation _ _ _)).trans (.handOver _))
  · exact ht.trans (((Works.setWait 0 false t).trans (.finishComputation _ _ _)).trans (.handOver _))

theorem Works.computeCycle (s : State) : Works strict False s (computeCycle s) := by
  unfold Machine.computeCycle
  simp only
  split_ifs
  · exact (Works.computation s).trans (.releaseAll _)
  · exact .computation s

theorem Works.stopTest (b : Bool) (s : State) : Works False False s (stopTest b s) := by
  obtain ⟨-, h⟩ | ⟨-, h⟩ := stopTest_cases b s <;> rw [h]
  · exact ((Works.clearWait s).trans (.enterGroup _ _ False.elim False.elim)).trans (.handOver _)
  · exact .refl s

theorem Works.blockWork (s : State) : Works strict early s (blockWork s) :=
  ((((((Works.clearRates s).trans (.monitorWork s _)).trans (.linkWork s _)).trans (.sequencerWork s _)).trans (.handOver _)).trans
    (.geometryWork s _)).trans (.handOver _)

/-- From the state a cycle start opens with to the end of its computation. -/
theorem Works.afterOpening (s : State) : Works False False s (Machine.stopTest (forcedEarlier (Machine.blockWork s))
    (Machine.computeCycle (Machine.blockWork s))) :=
  ((Works.blockWork s).trans (.computeCycle _)).trans (.stopTest _ _)

end Sys2Proof.Machine

/-! PROOF. The opening of a cycle start, its forced computation, and the passage to STOPPED (O53). -/

namespace Sys2Proof.Machine

-- One theorem after another, as in the tests: a thread each for this many proofs would pass the memory limit.
set_option Elab.async false

variable {strict early : Prop} {s t u : State} {k i : Sta}

/-! ### The stages of a cycle start -/

theorem exec_cycleStart (hr : s.pins.resetAsserted = false) : exec .cycleStart s = .next (cycleWork s) :=
  congrArg Host.Outcome.next (unlessReset_of_running hr _)

/-- The record with its pending offset taken. -/
theorem Jack.takeOffset_record (j : Jack) : j.record.takeOffset = j.recordAtStart := by
  unfold StationRec.takeOffset Jack.recordAtStart Jack.offsetAtStart
  cases h : j.record.pendingOffset with
  | none =>
    simp only [Option.getD_none]
    rw [← h]
  | some o => rfl

/-- The beacon, the latch and the offsets leave the state that a cycle start opens. -/
theorem opened_eq (s : State) : takeOffsets (latchWork (beaconWork (advanceCycle s))) = s.opened := by
  refine State.ext_jack (fun k => ?_) rfl rfl rfl rfl rfl rfl rfl rfl
  rw [takeOffsets, updAll_jack, latchWork, updAll_jack]
  have hb : (beaconWork (advanceCycle s)).jack k = { s.jack k with link := { (s.jack k).link with slotOpen := true, bytes := [] } } :=
    updAll_jack _ _ _
  have ho : s.opened.jack k = { s.jack k with
      pos := { (s.jack k).pos with latched := (s.jack k).pos.count, latchedRunning := (s.jack k).gen.running }
      link := { (s.jack k).link with slotOpen := true, bytes := [] }
      record := (s.jack k).recordAtStart } := updAll_jack _ _ _
  rw [hb, ho, ← Jack.takeOffset_record]

theorem opened_jack (s : State) (k : Sta) : s.opened.jack k = { s.jack k with
    pos := { (s.jack k).pos with latched := (s.jack k).pos.count, latchedRunning := (s.jack k).gen.running }
    link := { (s.jack k).link with slotOpen := true, bytes := [] }
    record := (s.jack k).recordAtStart } := updAll_jack _ _ _

/-- The state of a cycle start before a waiting command is executed: opened, what is due taken, and the watch of R71 made. -/
def begun (s : State) : State := lockoutWatch (handOver (takeAtCycleStart s.opened))

theorem openCycle_eq (s : State) : openCycle s = executeSlot (begun s) := by
  unfold openCycle begun
  rw [opened_eq]

theorem begun_group (s : State) : (begun s).group = { s.group with cycle := s.group.cycle + 1 } := by
  unfold begun lockoutWatch
  split_ifs
  · exact (handOver_group _).trans (takeAtCycleStart_group _)
  · exact (handOver_group _).trans (takeAtCycleStart_group _)

theorem openCycle_of_none (h : s.group.slot = none) : openCycle s = begun s := by
  rw [openCycle_eq, executeSlot, begun_group]
  simp only [h]

/-- The state of a cycle start once its checks and its computation are over. -/
def cycleEnd (o : State) : State := stopTest (forcedEarlier (blockWork o)) (computeCycle (blockWork o))

theorem cycleWork_eq (s : State) : cycleWork s = settleBrakes (streamWork (cycleEnd (openCycle s))) := rfl

theorem Works.cycleEnd (o : State) : Works False False o (cycleEnd o) := .afterOpening o

/-! ### The reference through the checks of a cycle start -/

theorem lockedOutFor_sync (k : Sta) (t : State) : (lockedOutFor k t).sync = { t.sync with speed := 0, descent := false } := by
  unfold lockedOutFor
  rw [enterGroup_sync, if_neg (by simp)]
  rfl

theorem enterLockout_sync (k : Sta) (s : State) : (enterLockout k s).sync = { s.sync with speed := 0, descent := false } := by
  rw [enterLockout_eq, lockedOutFor_sync, cutMoves_sync]

theorem takeDetection_sync (f : FaultKind) (x : Subject) (s : State) : (takeDetection f x s).sync = s.sync ∨
    (takeDetection f x s).sync = { s.sync with speed := 0, descent := false } := by
  unfold takeDetection
  rw [handOver_sync]
  have hs : (actOnStations f x (listFault f x s)).sync = s.sync := by rw [actOnStations_sync, listFault_sync]
  obtain ⟨k, -, -, -, h⟩ | ⟨k, -, -, -, h⟩ | ⟨-, -, h⟩ | ⟨-, -, h⟩ := actOnGroup_cases f x (actOnStations f x (listFault f x s)) <;>
    rw [h]
  · exact .inl hs
  · rw [enterLockout_sync, hs]
    exact .inr rfl
  · rw [beginFaultStop_sync, hs]
    exact .inr rfl
  · exact .inl hs

theorem takeDetection_speed (f : FaultKind) (x : Subject) (h : s.sync.speed = 0) : (takeDetection f x s).sync.speed = 0 := by
  obtain e | e := takeDetection_sync f x s <;> rw [e]
  exact h

theorem takeDetections_speed (l : List Detection) (h : s.sync.speed = 0) : (takeDetections l s).sync.speed = 0 :=
  takeDetections_keeps (P := fun t => t.sync.speed = 0) (fun f x _ ht => takeDetection_speed f x ht) h l

theorem geometryChecks_speed (h : s.sync.speed = 0) : (geometryChecks s).sync.speed = 0 := by
  have htwist (i : Nat) (t : State) (ht : t.sync.speed = 0) : (checkTwist i t).sync.speed = 0 := by
    unfold checkTwist
    split
    · exact ht
    · simp only
      split_ifs
      · exact takeDetection_speed _ _ ht
      · exact takeDetection_speed _ _ ht
      · exact ht
      · exact ht
  have hcoupling (i : Nat) (t : State) (ht : t.sync.speed = 0) : (checkCoupling i t).sync.speed = 0 := by
    unfold checkCoupling
    split
    · simp only
      split_ifs
      · exact takeDetection_speed _ _ ht
      · exact ht
    · exact ht
  unfold geometryChecks
  generalize List.range s.cars.length = l
  induction l generalizing s with
  | nil => exact h
  | cons i l ih => exact ih (hcoupling i _ (htwist i s h))

theorem imbalanceWork_sync (s : State) : (imbalanceWork s).sync = s.sync := by
  unfold imbalanceWork
  simp only
  generalize s.cars.flatMap (loadTests s) = l
  have key (l : List LoadTest) (t : State) : (l.foldl (fun t x =>
      if x.heavy && !(s.jack x.station).imbalance then raise (.imbalance x.station x.load x.mean) t else t) t).sync = t.sync := by
    induction l generalizing t with
    | nil => rfl
    | cons x l ih =>
      rw [List.foldl_cons, ih]
      split_ifs <;> rfl
  exact key l s

theorem geometryWork_speed (found : State) (h : s.sync.speed = 0) : (geometryWork found s).sync.speed = 0 := by
  unfold geometryWork
  rw [imbalanceWork_sync]
  split_ifs
  · exact geometryChecks_speed h
  · exact h

theorem forStations_slipEvent_sync (found : State) (s : State) : (forStations (slipEvent found) s).sync = s.sync :=
  forStations_keeps (P := fun t => t.sync = s.sync) (fun k t ht => by
    unfold slipEvent raiseSlip
    split
    · split_ifs
      · exact ht
      · exact ht
    · exact ht) rfl

theorem monitorWork_speed (found : State) (h : s.sync.speed = 0) : (monitorWork found s).sync.speed = 0 := by
  refine takeDetections_speed _ ?_
  rw [handOver_sync, forStations_slipEvent_sync]
  exact h

theorem linkWork_speed (found : State) (h : s.sync.speed = 0) : (linkWork found s).sync.speed = 0 := takeDetections_speed _ h

/-- Where the contact sequencer has no work, a reference at rest stays at rest through the checks. -/
theorem blockWork_speed (he : s.group.state ≠ .engaging) (hl : s.group.state ≠ .landing) (h : s.sync.speed = 0) :
    (blockWork s).sync.speed = 0 := by
  have hseq (t : State) : sequencerWork s t = t := by
    unfold sequencerWork
    split
    · next h => exact absurd h he
    · next h => exact absurd h hl
    all_goals rfl
  unfold blockWork
  rw [handOver_sync, hseq]
  refine geometryWork_speed s ?_
  rw [handOver_sync]
  exact linkWork_speed s (monitorWork_speed s h)

/-! ### Rates handed (R136) -/

/-- A station handed the rate `r`, its generator taking it unless the generators are `held` (R40 to R44, R48, R49). -/
def Jack.handed (held : Bool) (r : Int) (j : Jack) : Jack :=
  let g := { j.gen with ceiling := heldAtCeiling r j.record.settings.kStep }
  { j with rate := r, gen := if held then g else g.hand (convertRate r j.record.settings.kStep) }

theorem handRate_jack (k : Sta) (r : Int) (s : State) (i : Sta) :
    (handRate k r s).jack i = if i = k then (s.jack i).handed (generatorsHeld s) r else s.jack i := by
  unfold handRate
  rw [updJack_jack]
  by_cases h : i = k
  · rw [if_pos h, if_pos h, h]
    rfl
  · rw [if_neg h, if_neg h]

theorem generatorsHeld_congr (h : t.group = s.group) : generatorsHeld t = generatorsHeld s := by
  unfold generatorsHeld
  rw [h]

/-- A station as a forced handover leaves it. -/
def Jack.forcedToStop (held : Bool) (j : Jack) : Jack := if forcedStation j then j.handed held 0 else j

/-- The stop value handed to every station that a forced handover reaches. -/
def stopsHanded (s : State) : State := forStations (fun k t => if forcedStation (t.jack k) then handRate k 0 t else t) s

/-- The mark that every rate has been forced. -/
def markForced (s : State) : State := { s with group := { s.group with ratesForced := true } }

theorem handStops_eq (s : State) : handStops s = markForced (stopsHanded s) := by
  unfold handStops
  rw [← stopsHanded]
  generalize stopsHanded s = t
  rfl

theorem stopsHanded_jack (s : State) (k : Sta) : (stopsHanded s).jack k = (s.jack k).forcedToStop (generatorsHeld s) := by
  refine forStations_jack_of (P := fun t => t.group = s.group) (g := fun _ => Jack.forcedToStop (generatorsHeld s))
    (fun k t ht => ⟨?_, fun i => ?_⟩) rfl k
  · split_ifs
    · exact ht
    · exact ht
  · by_cases hi : i = k
    · subst hi
      unfold Jack.forcedToStop
      rw [if_pos rfl]
      split_ifs
      · rw [handRate_jack, if_pos rfl, generatorsHeld_congr ht]
      · rfl
    · rw [if_neg hi]
      split_ifs
      · rw [handRate_jack, if_neg hi]
      · rfl

theorem markForced_jack (t : State) (k : Sta) : (markForced t).jack k = t.jack k := rfl

theorem handStops_jack (s : State) (k : Sta) : (handStops s).jack k = (s.jack k).forcedToStop (generatorsHeld s) := by
  rw [handStops_eq, markForced_jack, stopsHanded_jack]

theorem forStations_handRate_keeps {P : State → Prop} {c : Sta → State → Bool} {r : Sta → State → Int}
    (h : ∀ k r t, P t → P (handRate k r t)) (hs : P s) :
    P (forStations (fun k t => if c k t then handRate k (r k t) t else t) s) :=
  forStations_keeps (fun k t ht => by
    split_ifs
    · exact h k _ t ht
    · exact ht) hs

theorem handStops_rest (s : State) : (handStops s).group = { s.group with ratesForced := true } ∧ (handStops s).sync = s.sync ∧
    (handStops s).plan = s.plan ∧ (handStops s).cars = s.cars := by
  have h : (stopsHanded s).group = s.group ∧ (stopsHanded s).sync = s.sync ∧ (stopsHanded s).plan = s.plan ∧
      (stopsHanded s).cars = s.cars :=
    forStations_handRate_keeps (c := fun k t => forcedStation (t.jack k)) (r := fun _ _ => 0)
      (P := fun t => t.group = s.group ∧ t.sync = s.sync ∧ t.plan = s.plan ∧ t.cars = s.cars) (fun k r t h => h)
      ⟨rfl, rfl, rfl, rfl⟩
  rw [handStops_eq]
  generalize stopsHanded s = t at h
  obtain ⟨h1, h2, h3, h4⟩ := h
  exact ⟨congrArg (fun g : Group => { g with ratesForced := true }) h1, h2, h3, h4⟩

theorem Jack.forcedToStop_record (held : Bool) (j : Jack) : (j.forcedToStop held).record = j.record := by
  unfold Jack.forcedToStop
  split_ifs <;> rfl

theorem forcedStation_congr {a b : Jack} (h : b.record = a.record) : forcedStation b = forcedStation a := by
  unfold forcedStation Jack.assigned Jack.isIn
  rw [h]

theorem Jack.forcedToStop_rate (held : Bool) {j : Jack} (h : forcedStation (j.forcedToStop held) = true) :
    (j.forcedToStop held).rate = 0 := by
  rw [forcedStation_congr (j.forcedToStop_record held)] at h
  rw [Jack.forcedToStop, if_pos h]
  rfl

/-! ### The forced computation (R119, R128) -/

/-- The state that the trip check leaves. -/
def tripped (s : State) : State := takeDetections (tripDetections (formErrors s)) (formErrors s)

/-- A forced computation. -/
theorem computation_forced (h : forcedAtStart s = true ∨ tripDetections (formErrors s) ≠ []) :
    computation s = handOver (handStops (forceReference (setWait 0 false (tripped s)))) := by
  unfold computation
  have hf : (forcedAtStart s || !(tripDetections (formErrors s)).isEmpty) = true := by
    rw [Bool.or_eq_true]
    exact h.imp id fun h => by simpa using h
  simp only [hf, if_true]
  rw [finishComputation, if_pos rfl, tripped]

theorem computation_forced_group (h : forcedAtStart s = true ∨ tripDetections (formErrors s) ≠ []) :
    (computation s).group = { (tripped s).group with waitCount := 0, ratesForced := true } ∧
    (computation s).sync = { (tripped s).sync with speed := 0, dir := .none, waiting := false } ∧
    (computation s).plan = (tripped s).plan ∧
    ∀ k, (computation s).jack k = ((tripped s).jack k).forcedToStop (generatorsHeld (tripped s)) := by
  rw [computation_forced h]
  generalize tripped s = w
  clear h
  obtain ⟨h1, h2, h3, -⟩ := handStops_rest (forceReference (setWait 0 false w))
  exact ⟨by rw [handOver_group, h1]; rfl, by rw [handOver_sync, h2]; rfl, by rw [handOver_plan, h3]; rfl,
    fun k => by rw [handOver_jack, handStops_jack]; rfl⟩

/-- The release phase begins in LANDING alone. -/
theorem computeCycle_of_not_landing (h : s.group.state ≠ .landing) : computeCycle s = computation s := by
  unfold computeCycle
  simp only
  rw [if_neg fun hc => h hc.1]

/-- A computation is forced, a wait cycle, or carried out. -/
theorem computation_cases (s : State) :
    ((forcedAtStart s = true ∨ tripDetections (formErrors s) ≠ []) ∧
      computation s = handOver (handStops (forceReference (setWait 0 false (tripped s))))) ∨
    (forcedAtStart s = false ∧ tripDetections (formErrors s) = [] ∧ isWaitCycle (formErrors s) = true ∧
      computation s = handOver (finishComputation (timesOut (formErrors s)) true (waitCycle (formErrors s)))) ∨
    (forcedAtStart s = false ∧ tripDetections (formErrors s) = [] ∧ isWaitCycle (formErrors s) = false ∧
      computation s = handOver (finishComputation false false (setWait 0 false (formErrors s)))) := by
  by_cases h : forcedAtStart s = true ∨ tripDetections (formErrors s) ≠ []
  · exact .inl ⟨h, computation_forced h⟩
  · obtain ⟨hf, hl⟩ := not_or.mp h
    have hf : forcedAtStart s = false := by simpa using hf
    have hl : tripDetections (formErrors s) = [] := not_not.mp hl
    have htrip : takeDetections [] (formErrors s) = formErrors s := rfl
    unfold computation
    simp only [hl, hf, htrip]
    simp only [List.isEmpty_nil, Bool.not_true, Bool.or_false, Bool.false_eq_true, if_false]
    cases hw : isWaitCycle (formErrors s)
    · exact .inr (.inr ⟨trivial, trivial, rfl, if_neg (by simp)⟩)
    · exact .inr (.inl ⟨trivial, trivial, rfl, if_pos rfl⟩)

/-! ### The wait count of a computation (R131) -/

/-- In a state without a trip check the computation finds nothing. -/
theorem tripDetections_of_unchecked (h : tripChecked s.group.state = false) : tripDetections (formErrors s) = [] := by
  unfold tripDetections
  rw [if_neg]
  exact Bool.eq_false_iff.mp h

theorem handRates_group (v : Nat) (s : State) : (handRates v s).group = s.group := by
  unfold handRates
  split_ifs
  · exact forStations_handRate_keeps (s := s) (P := fun t => t.group = s.group) (fun k r t h => h) rfl
  · rfl

theorem completeSegment_waitCount (g : Segment) (s : State) : (completeSegment g s).group.waitCount = s.group.waitCount := by
  unfold completeSegment
  extract_lets k last holds appendQueued rests y p t u w
  have hu : u.group = s.group := by
    show (if _ then _ else _ : State).group = _
    split_ifs <;> rfl
  have hw : w.group = s.group := by
    show (if _ then _ else _ : State).group = _
    split_ifs
    · exact hu
    · exact hu
  split_ifs
  · rw [enterHolding, enterGroup_group]
    show w.group.waitCount = _
    rw [hw]
  · rw [startSegment_group, hw]

/-- Stage 4 leaves the wait count alone, and the group's state but in MOVING. -/
theorem referenceStage_group (s : State) : (referenceStage s).state.group.waitCount = s.group.waitCount ∧
    (s.group.state ≠ .moving → (referenceStage s).state.group.state = s.group.state) := by
  unfold referenceStage
  split
  · next hs =>
    refine ⟨?_, fun h => absurd hs h⟩
    split
    · split
      · unfold moveStep
        simp only
        split_ifs
        · exact completeSegment_waitCount _ _
        · rfl
      · unfold dwellStep
        simp only
        split_ifs
        · exact completeSegment_waitCount _ _
        · rfl
    · rfl
  · split_ifs <;> exact ⟨rfl, fun _ => rfl⟩
  · split_ifs
    · unfold descentStep
      simp only
      split_ifs <;> exact ⟨rfl, fun _ => rfl⟩
    · exact ⟨rfl, fun _ => rfl⟩
  · exact ⟨rfl, fun _ => rfl⟩

theorem finishComputation_group (a b : Bool) (s : State) : (finishComputation a b s).group.waitCount = s.group.waitCount ∧
    (s.group.state ≠ .moving → (finishComputation a b s).group.state = s.group.state) := by
  unfold finishComputation
  split_ifs
  · rw [(handStops_rest _).1]
    exact ⟨rfl, fun _ => rfl⟩
  · rw [handRates_group]
    exact ⟨rfl, fun _ => rfl⟩
  · rw [handRates_group]
    exact referenceStage_group s

/-- A detection that is no RUNAWAY leaves a stop a stop. -/
theorem takeDetection_stopping {f : FaultKind} {x : Subject} (hf : f ≠ .runaway) (h : s.group.state = .stopping) :
    (takeDetection f x s).group.state = .stopping := by
  cases hs : faultStops s
  · rw [(takeDetection_stands hf hs).1, ← h]
    unfold Group.listing
    split_ifs <;> rfl
  · rw [(takeDetection_stops hf hs).1]

/-- Nothing that the computation finds ends a stop. -/
theorem computation_stopping (h : s.group.state = .stopping) : (computation s).group.state = .stopping := by
  have htrip : (tripped s).group.state = .stopping := by
    unfold tripped
    have hl : ∀ d ∈ tripDetections (formErrors s), d.kind ≠ .runaway := by
      intro d hd
      unfold tripDetections at hd
      split_ifs at hd
      · obtain ⟨k, -, rfl⟩ := List.mem_map.mp hd
        simp
      · cases hd
    generalize tripDetections (formErrors s) = l at hl
    have key (l : List Detection) (t : State) (hl : ∀ d ∈ l, d.kind ≠ .runaway) (ht : t.group.state = .stopping) :
        (takeDetections l t).group.state = .stopping := by
      induction l generalizing t with
      | nil => exact ht
      | cons d l ih =>
        exact ih _ (fun d hd => hl d (List.mem_cons_of_mem _ hd)) (takeDetection_stopping (hl d List.mem_cons_self) ht)
    exact key l _ hl h
  have hwait : (waitCycle (formErrors s)).group.state = .stopping := by
    unfold waitCycle
    simp only
    split_ifs
    · exact takeDetection_stopping (by simp) h
    · exact h
  obtain ⟨hf, -⟩ | ⟨-, -, -, e⟩ | ⟨-, -, -, e⟩ := computation_cases s
  · rw [(computation_forced_group hf).1]
    exact htrip
  · rw [e, handOver_group, (finishComputation_group _ _ _).2 (by rw [hwait]; simp), hwait]
  · have hset : (setWait 0 false (formErrors s)).group.state = .stopping := h
    rw [e, handOver_group, (finishComputation_group _ _ _).2 (by rw [hset]; simp), hset]

/-- A computation in LOCKED_OUT leaves the wait count 0. -/
theorem computation_waitCount (h : s.group.state = .lockedOut) : (computation s).group.waitCount = 0 := by
  have hnone : tripDetections (formErrors s) = [] := tripDetections_of_unchecked (by rw [h]; rfl)
  have hforced : forcedAtStart s = false := by simp [forcedAtStart, faultStopUnderWay, h]
  obtain ⟨hf, -⟩ | ⟨-, -, hw, -⟩ | ⟨-, -, -, e⟩ := computation_cases s
  · exact absurd hf (by simp [hforced, hnone])
  · have ha : waitApplies (formErrors s) = false := by
      unfold waitApplies
      rw [show (formErrors s).group.state = .lockedOut from h]
    rw [isWaitCycle, ha, Bool.false_and] at hw
    cases hw
  · rw [e, handOver_group, (finishComputation_group _ _ _).1]
    rfl

/-! ### The passage to STOPPED (R106) -/

theorem allAtRest_iff (h : ∀ k, (s.jack k).Untouched (t.jack k)) : allAtRest t = true ↔
    ∀ k, (s.jack k).assigned = true → (s.jack k).pos.latchedRunning = false := by
  unfold allAtRest
  rw [allAssigned_iff]
  refine forall_congr' fun k => ?_
  have ha := (h k).assigned
  rw [(h k).pos, Bool.not_eq_true']
  have : (t.jack k).record.state ≠ .unassigned ↔ (s.jack k).assigned = true := by
    rw [← ha]
    simp [Jack.assigned]
  rw [this]

theorem begun_jack (s : State) (k : Sta) : (begun s).jack k = { s.opened.jack k with mon := ((begun s).jack k).mon } := by
  have h (t : State) : (lockoutWatch t).jack k = { t.jack k with mon := ((lockoutWatch t).jack k).mon } := by
    unfold lockoutWatch
    split_ifs
    · rw [updAll_jack]
    · rfl
  unfold begun
  have hj : (handOver (takeAtCycleStart s.opened)).jack k = s.opened.jack k := by
    rw [handOver_jack]
    exact congrArg (fun p => p.get k) (takeAtCycleStart_jacks _)
  rw [h, hj]

/-- The reference's speed stands at the opening of a cycle start outside MOVING. -/
theorem begun_speed (hs : s.group.state ≠ .moving) (h : s.sync.speed = 0) : (begun s).sync.speed = 0 := by
  have hl (t : State) : (lockoutWatch t).sync = t.sync := by
    unfold lockoutWatch
    split_ifs <;> rfl
  unfold begun
  rw [hl, handOver_sync]
  have hs : s.opened.group.state ≠ .moving := hs
  have h : s.opened.sync.speed = 0 := h
  generalize s.opened = t at hs h
  unfold takeAtCycleStart
  split
  · rw [if_neg hs]
    exact h
  · split_ifs <;> exact h
  · exact h

theorem begun_latch (s : State) (k : Sta) : ((begun s).jack k).pos =
    { (s.jack k).pos with latched := (s.jack k).pos.count, latchedRunning := (s.jack k).gen.running } := by
  rw [begun_jack, opened_jack]

theorem begun_record (s : State) (k : Sta) : ((begun s).jack k).record = (s.jack k).recordAtStart := by
  rw [begun_jack, opened_jack]

theorem begun_assigned (s : State) (k : Sta) : ((begun s).jack k).assigned = (s.jack k).assigned := by
  refine Jack.assigned_congr ?_
  rw [begun_record]
  rfl

/-- Every assigned station stands at the latch of a cycle start whose work has gone on from `begun s`. -/
theorem allAtRest_begun (h : Works strict early (begun s) t) : allAtRest t = true ↔
    ∀ k, (s.jack k).assigned = true → (s.jack k).gen.run = .idle := by
  rw [allAtRest_iff h.jacks]
  refine forall_congr' fun k => ?_
  rw [begun_assigned, begun_latch]
  simp [Generator.running]

theorem stopTest_state (b : Bool) (s : State) : (stopTest b s).group.state =
    if s.group.state = .stopping ∧ b = true ∧ allAtRest s = true then .stopped else s.group.state := by
  rw [stopTest_group]
  split_ifs <;> rfl

/-- From STOPPING the checks and the computation lead to STOPPING or LOCKED_OUT. -/
theorem Passes.from_stopping (h : Passes s t) (hs : s.group.state = .stopping) :
    (t.group.state = .stopping ∧ (s.group.ratesForced = true → t.group.ratesForced = true)) ∨ t.group.state = .lockedOut := by
  obtain ⟨h1, -, h3⟩ | ⟨-, h2, -, h4⟩ | ⟨-, h2, -⟩ | ⟨-, h2⟩ := h
  · exact .inl ⟨h1.trans hs, h3⟩
  · exact .inl ⟨h2, h4 hs⟩
  · exact .inr h2
  · simp [hs] at h2

theorem Passes.from_lockedOut (h : Passes s t) (hs : s.group.state = .lockedOut) : t.group.state = .lockedOut := by
  obtain ⟨h1, -⟩ | ⟨h1, -⟩ | ⟨-, h2, -⟩ | ⟨-, h2⟩ := h
  · exact h1.trans hs
  · exact absurd hs (faultStops_states h1).2
  · exact h2
  · simp [hs] at h2

theorem Passes.to_stopped (h : Passes s t) (ht : t.group.state = .stopped) : s.group.state = .stopped := by
  obtain ⟨h1, -⟩ | ⟨-, h2, -⟩ | ⟨-, h2, -⟩ | ⟨-, h2⟩ := h
  · exact h1.symm.trans ht
  · rw [ht] at h2
    cases h2
  · rw [ht] at h2
    cases h2
  · simp [ht] at h2

/-- A stop that forces its computation from the first stage still does after the checks. -/
theorem forcedAtStart_kept (h : Passes s t) (hs : s.group.state = .stopping) (ht : t.group.state = .stopping)
    (hspeed : s.sync.speed = 0 → t.sync.speed = 0)
    (hf : faultStopUnderWay s = true ∨ (s.group.cause = .command ∧ s.sync.speed = 0)) : forcedAtStart t = true := by
  have hfault (f : FaultKind) (x : Subject) (hc : t.group.cause = .fault f x) : forcedAtStart t = true := by
    simp [forcedAtStart, faultStopUnderWay, ht, hc]
  obtain ⟨-, h2, -⟩ | ⟨-, -, ⟨f, x, h3, -⟩, -⟩ | ⟨-, h2, -⟩ | ⟨-, h2⟩ := h
  · obtain hf | ⟨hc, hv⟩ := hf
    · cases hc : s.group.cause with
      | fault f x => exact hfault f x (h2.trans hc)
      | none => simp [faultStopUnderWay, hs, hc] at hf
      | command => simp [faultStopUnderWay, hs, hc] at hf
      | permit => simp [faultStopUnderWay, hs, hc] at hf
      | reset => simp [faultStopUnderWay, hs, hc] at hf
    · simp [forcedAtStart, ht, h2.trans hc, hspeed hv]
  · exact hfault f x h3
  · rw [ht] at h2
    cases h2
  · simp [hs] at h2

/-- Settles O53. -/
theorem stoppedFollowsAForcedCycle : Obligations.StoppedFollowsAForcedCycle := by
  intro s hr hslot
  refine ⟨_, exec_cycleStart hr, ?_⟩
  intro atRest
  rw [cycleWork_eq, openCycle_of_none hslot]
  simp only [settleBrakes_group, streamWork_group, settleBrakes_sync, streamWork_sync]
  obtain ⟨o, ho⟩ : ∃ o, o = begun s := ⟨_, rfl⟩
  obtain ⟨b, hb⟩ : ∃ b, b = blockWork o := ⟨_, rfl⟩
  obtain ⟨c, hc⟩ : ∃ c, c = computeCycle b := ⟨_, rfl⟩
  have hend : cycleEnd (begun s) = stopTest (forcedEarlier b) c := by rw [cycleEnd, hc, hb, ho]
  have hog : o.group.state = s.group.state ∧ o.group.ratesForced = s.group.ratesForced ∧ o.group.cause = s.group.cause := by
    rw [ho, begun_group]
    exact ⟨rfl, rfl, rfl⟩
  obtain ⟨hos, hof, hoc⟩ := hog
  have hob : Works True True o b := hb ▸ .blockWork o
  have hbc : Works True False b c := hc ▸ .computeCycle b
  have hoc' : Passes o c := (hob.passes trivial).trans (hbc.passes trivial) hbc.tells hob.cycle
  have hrest : allAtRest c = true ↔ atRest := by
    have h : Works False False o c := by rw [hc, hb]; exact (Works.blockWork o).trans (.computeCycle _)
    rw [ho] at h
    exact allAtRest_begun h
  rw [hend]
  have hstate := stopTest_state (forcedEarlier b) c
  refine ⟨fun h1 h2 h => ?_, fun h1 h2 h => ?_, fun h1 h2 h3 => ?_, fun h1 h2 h3 => ?_⟩
  · rw [h] at hstate
    split_ifs at hstate with hcond
    · have := hob.forced trivial hcond.2.1
      exact h1 (hos.symm.trans ((forcedEarlier_iff o).mp this).1)
    · exact h2 (hos.symm.trans (hoc'.to_stopped hstate.symm))
  · rw [h] at hstate
    split_ifs at hstate with hcond
    · have := hob.forced trivial hcond.2.1
      obtain hf | hf := h2
      · have := ((forcedEarlier_iff o).mp this).2
        rw [hof, hf] at this
        cases this
      · exact hf (hrest.mp hcond.2.2)
    · have := hos.symm.trans (hoc'.to_stopped hstate.symm)
      rw [h1] at this
      cases this
  · obtain ⟨hbs, hbf⟩ | hbl := (hob.passes trivial).from_stopping (hos.trans h1)
    · have hfe : forcedEarlier b = true := (forcedEarlier_iff b).mpr ⟨hbs, hbf (hof.trans h2)⟩
      have hcs : c.group.state = .stopping := by
        rw [hc, computeCycle_of_not_landing (by simp [hbs])]
        exact computation_stopping hbs
      have hcond : c.group.state = .stopping ∧ forcedEarlier b = true ∧ allAtRest c = true := ⟨hcs, hfe, hrest.mpr h3⟩
      rw [stopTest_group, if_pos hcond]
      exact ⟨.inl rfl, rfl⟩
    · have hcl := (hbc.passes trivial).from_lockedOut hbl
      have hcomp : c = computation b := hc ▸ computeCycle_of_not_landing (by simp [hbl])
      rw [stopTest_group, if_neg (by simp [hcl])]
      exact ⟨.inr hcl, hcomp ▸ computation_waitCount hbl⟩
  · have hbs : b.group.state = .stopping := by
      refine ((hob.passes trivial).from_stopping (hos.trans h1)).elim And.left fun hbl => ?_
      have hcl := (hbc.passes trivial).from_lockedOut hbl
      rw [stopTest_group, if_neg (by simp [hcl])] at h3
      exact absurd hcl h3
    have hcs := computation_stopping hbs
    have hf : forcedAtStart b = true := by
      refine forcedAtStart_kept (hob.passes trivial) (hos.trans h1) hbs (fun hv => ?_) ?_
      · rw [hb]
        exact blockWork_speed (by simp [hos, h1]) (by simp [hos, h1]) hv
      · refine h2.imp (fun h => (faultStopUnderWay_congr hos hoc).trans h) fun ⟨h, hv⟩ => ⟨hoc.trans h, ?_⟩
        rw [ho]
        exact begun_speed (by simp [h1]) hv
    obtain ⟨hg, hy, -, hj⟩ := computation_forced_group (s := b) (.inl hf)
    have hcb : c = computation b := by rw [hc, computeCycle_of_not_landing (by simp [hbs])]
    rw [stopTest_state, stopTest_group, stopTest_sync, hcb, hy, hcs, hg]
    refine ⟨?_, ?_, rfl, rfl, fun k hk => ?_⟩
    · split_ifs
      · exact .inr rfl
      · exact .inl rfl
    · split_ifs <;> rfl
    · have hset (t : State) : ((settleBrakes (streamWork t)).jack k).rate = (t.jack k).rate ∧
          ((settleBrakes (streamWork t)).jack k).record = (t.jack k).record := by
        have hs : (streamWork t).jack k = t.jack k := congrArg (fun p => p.get k) (streamWork_jacks t)
        rw [settleBrakes_jack, hs]
        exact ⟨rfl, rfl⟩
      have hst : (stopTest (forcedEarlier b) (computation b)).jack k = (computation b).jack k :=
        congrArg (fun p => p.get k) (stopTest_jacks _ _)
      rw [(hset _).1, hst, hj]
      rw [forcedStation_congr (hset _).2, hst, hj] at hk
      exact Jack.forcedToStop_rate _ hk

end Sys2Proof.Machine

/-! PROOF. What a cycle start writes of the line controller, the link and the stations, whatever command waits (O8, its first part). -/

namespace Sys2Proof.Machine

-- One theorem after another, as in the tests: a thread each for this many proofs would pass the memory limit.
set_option Elab.async false

variable {s t u : State} {k : Sta}

/-! ### The group commands leave the line's settings, the link and the stations' settings alone (R95 to R110) -/

theorem Works.of_free (hl : Raises s t) (hj : t.jacks = s.jacks) (hpins : t.pins = s.pins) (hlink : t.link = s.link)
    (hc : t.group.cycle = s.group.cycle) (hp : t.group.permit = s.group.permit) (hq : t.group.params = s.group.params)
    (hslot : t.group.slot = s.group.slot) : Works False False s t :=
  .of_group hl hj hpins hlink hc hp hq hslot False.elim False.elim False.elim

/-- A group state entered by a command. -/
theorem Works.passed (g : GroupState) (s : State) : Works False False s (Machine.enterGroup g s) := .enterGroup g s False.elim False.elim

theorem Works.setCause (c : StopCause) (s : State) : Works False False s (setCause c s) :=
  .of_free (.of_line rfl) rfl rfl rfl rfl rfl rfl rfl

/-- RESETUP's passage to SETUP. -/
theorem Works.unvalidated (t : State) :
    Works False False t (Machine.enterGroup .setup { t with group := { t.group with validated := false } }) :=
  (Works.of_free (s := t) (t := { t with group := { t.group with validated := false } }) (.of_line rfl) rfl rfl rfl rfl rfl rfl
    rfl).trans (.passed .setup _)

/-- RESUME's passage to HOLDING. -/
theorem Works.heldBack (t : State) : Works False False t (Machine.enterHolding t) :=
  (Works.of_sync (p := t.plan)).trans (.passed .holding { t with sync := { t.sync with speed := 0, dir := .none } })

theorem Works.leaveStopped (s : State) : Works False False s (leaveStopped s) := by
  unfold Machine.leaveStopped
  split_ifs
  · exact .endTrims s
  · exact .refl s

theorem Works.enterMoving (s : State) : Works False False s (enterMoving s) :=
  ((Works.setCause .none s).trans (.passed _ _)).trans (.startSegment _)

theorem Works.seekAll (s : State) : Works False False s (seekAll s) := by
  refine .updAll (fun k => ?_) False.elim
  split_ifs with h
  · have hidle : (s.jack k).record.state = .idle := Jack.isIn_eq_true.mp h
    exact { assigned := Jack.assigned_congr (by simp [hidle, StationRec.toSeeking]) }
  · exact .refl _

theorem Works.returnFaulted (s : State) : Works False False s (returnFaulted s) := by
  refine .updAll (fun k => ?_) False.elim
  unfold StationRec.retest
  split_ifs with hf
  · split
    · exact {}
    · refine { assigned := Jack.assigned_congr ⟨fun h => ?_, fun h => ?_⟩ }
      · exfalso
        revert h
        simp only
        split <;> split_ifs <;> simp
      · rw [hf] at h
        cases h
  · exact .refl _

theorem Works.setFaults (l : List FaultEntry) (s : State) : Works False False s (setFaults l s) :=
  .of_free (.of_line rfl) rfl rfl rfl rfl rfl rfl rfl

theorem Works.refreshGeometry (s : State) : Works False False s (refreshGeometry s) := by
  refine .foldl (fun t e => ?_) _ s
  split
  · unfold refreshTwist
    split
    · exact .refl t
    · exact .updCar _ _ t
  · unfold refreshStep
    split
    · exact .updCar _ _ t
    · exact .refl t
  · exact .refl t

theorem Works.motionReset (b : Bool) (s : State) : Works False False s (motionReset b s) :=
  ((Works.of_sync (p := s.plan)).trans (.clearWait _)).trans (.updAll (fun _ => {}) False.elim)

theorem Works.runChecked (c : GroupCommand) (s : State) : Works False False s (runChecked c s).state := by
  cases c <;> unfold Machine.runChecked <;> simp only
  case setupDone =>
    unfold runSetupDone
    split
    · exact .refl s
    · exact (Works.of_free (s := s) (t := { s with group := { s.group with validated := true } }) (.of_line rfl) rfl rfl rfl rfl rfl
        rfl rfl).trans (.passed .prepared _)
  case resetup =>
    unfold runResetup
    split_ifs
    · exact .refl s
    · exact ((Works.leaveStopped s).trans (.setCause .none _)).trans (.unvalidated _)
  case engage =>
    unfold runEngage
    split_ifs
    · exact .refl s
    · exact .refl s
    · exact .refl s
    · exact (((Works.setCause .none s).trans (.clearWait _)).trans (.passed _ _)).trans (.seekAll _)
  case run =>
    unfold runRun
    split_ifs
    · exact .refl s
    · exact (Works.clearWait s).trans (.enterMoving _)
  case continueRun =>
    unfold runContinue
    split_ifs
    · exact .refl s
    · exact .enterMoving s
  case stop =>
    unfold runStop Executed.done Machine.enterStopping
    simp only
    split_ifs
    · exact .setCause _ s
    · exact (Works.setCause .command s).trans ((Works.of_free (s := Machine.setCause .command s)
        (t := { Machine.setCause .command s with group := { (Machine.setCause .command s).group with ratesForced := false } })
        (.of_line rfl) rfl rfl rfl rfl rfl rfl rfl).trans (.passed .stopping _))
  case resume =>
    unfold runResume
    simp only
    split_ifs
    · exact .refl s
    · exact .refl s
    · exact (Works.leaveStopped s).trans ((Works.of_rest (s := Machine.leaveStopped s) (t := freezeReference (Machine.leaveStopped s))
        rfl rfl rfl rfl rfl).trans (.enterMoving _))
    · exact ((Works.leaveStopped s).trans (.setCause .none _)).trans (.heldBack _)
  case land =>
    have hland (t : State) : Works False False t (beginDescent t) := .of_sync (p := t.plan)
    have hend (t : State) : Works False False t (endDescent t) := .of_sync (p := t.plan)
    unfold runLand
    simp only
    split_ifs
    · exact .refl s
    · exact (((((Works.leaveStopped s).trans (.setCause .none _)).trans (.passed .landing _)).trans (hland _)).trans (hend _)).trans
        (.passed .prepared _)
    · exact (((Works.leaveStopped s).trans (.setCause .none _)).trans (.passed .landing _)).trans (hland _)
  case ackFaults => exact ((Works.refreshGeometry s).trans (.setFaults _ _)).trans (.returnFaulted _)
  case clearLockout =>
    unfold runClearLockout
    split
    · exact .refl s
    · exact (((Works.setFaults _ s).trans (.returnFaulted _)).trans (.motionReset _ _)).trans (.passed _ _)

theorem Works.runCommand (c : GroupCommand) (s : State) : Works False False s (runCommand c s).state := by
  unfold Machine.runCommand
  split_ifs
  · exact .refl s
  · exact .refl s
  · exact .runChecked c s

theorem Works.executeCommand (c : SlotCommand) (s : State) : Works False False (clearSlot s) (executeCommand c s) :=
  ((Works.runCommand c.command (clearSlot s)).trans (.enqueue rfl _)).trans (.handOver _)

theorem clearSlot_of_none (h : s.group.slot = none) : clearSlot s = s := by
  unfold clearSlot
  rw [← h]

/-- The opening of a cycle start empties the slot. -/
theorem Works.openCycle (s : State) : Works False False (clearSlot (begun s)) (openCycle s) := by
  rw [openCycle_eq, executeSlot]
  split
  · next h => rw [clearSlot_of_none h]; exact .refl _
  · exact .executeCommand _ _

/-! ### The state a cycle start begins with -/

theorem Works.begun (s : State) : Works True True s.opened (begun s) :=
  ((Works.takeAtCycleStart s.opened).trans (.handOver _)).trans (.lockoutWatch _)

/-- From the state opened, its slot empty, to the end of the computation. -/
theorem Works.wholeCycle (s : State) : Works False False (clearSlot (Machine.begun s)) (Machine.cycleEnd (Machine.openCycle s)) :=
  (Works.openCycle s).trans (.cycleEnd _)

theorem releaseAll_line (s : State) : (releaseAll s).line = s.line :=
  forStations_keeps (P := fun t => t.line = s.line) (fun k t ht => by
    unfold whileFound
    split_ifs
    · exact ht
    · exact ht) rfl

/-- Every event of a cycle start has been handed over at its end. -/
theorem cycleEnd_raised (o : State) : (cycleEnd o).line.raised = [] := by
  have hcomp (b : State) : (computation b).line.raised = [] := by
    obtain ⟨-, e⟩ | ⟨-, -, -, e⟩ | ⟨-, -, -, e⟩ := computation_cases b <;> rw [e] <;> exact handOver_raised _
  have hcycle (b : State) : (computeCycle b).line.raised = [] := by
    unfold computeCycle
    simp only
    split_ifs
    · rw [releaseAll_line, hcomp b]
    · exact hcomp b
  unfold cycleEnd
  obtain ⟨-, h⟩ | ⟨-, h⟩ := stopTest_cases (forcedEarlier (blockWork o)) (computeCycle (blockWork o)) <;> rw [h]
  · exact handOver_raised _
  · exact hcycle _

/-! ### The stream at the end of a cycle start (R186) -/

/-- A snapshot shows nothing of the brakes, of the queue and of the stream's count. -/
theorem snapshotFrame_settled (s : State) (n : Nat) (q : List Frame) :
    snapshotFrame (settleBrakes (setQueue q (setStreamCount n s))) = snapshotFrame s := by
  have hb : snapshotBytes (settleBrakes (setQueue q (setStreamCount n s))) = snapshotBytes s := by
    have hj (k : Sta) : (settleBrakes (setQueue q (setStreamCount n s))).jack k = { s.jack k with gen := { (s.jack k).gen with
        brake := settledBrake s.group.permit s.group.state (s.jack k) } } := settleBrakes_jack _ k
    have ha : assignedStations (settleBrakes (setQueue q (setStreamCount n s))) = assignedStations s := by
      refine List.filter_congr fun k _ => ?_
      rw [hj]
      rfl
    have he (k : Sta) : snapshotEntry k ((settleBrakes (setQueue q (setStreamCount n s))).jack k) = snapshotEntry k (s.jack k) := by
      rw [hj]
      rfl
    unfold snapshotBytes
    rw [ha]
    simp only [he]
    rfl
  unfold snapshotFrame
  rw [hb]
  rfl

/-- What a whole cycle start has written of the line controller before the stream's work. -/
theorem cycleEnd_line (s : State) : (cycleEnd (openCycle s)).line = { s.line with
      queue := (cycleEnd (openCycle s)).line.queue, pending := (cycleEnd (openCycle s)).line.pending, raised := [] } ∧
    ∃ l, (cycleEnd (openCycle s)).line.queue = s.line.queue ++ l ∧ ∀ f ∈ l, f.isSnapshot = false := by
  have h := Works.wholeCycle s
  have hb := Works.begun s
  have hr := cycleEnd_raised (openCycle s)
  generalize cycleEnd (openCycle s) = w at h hr
  refine ⟨?_, ?_⟩
  · have h1 := h.line
    have h2 : (clearSlot (begun s)).line = (begun s).line := rfl
    have h3 := hb.line
    have h4 : s.opened.line = s.line := rfl
    rw [h2, h3, h4, hr] at h1
    exact h1
  · obtain ⟨l, hl, hn⟩ := hb.queue
    obtain ⟨m, hm, hn'⟩ := h.queue
    have h2 : (clearSlot (begun s)).line = (begun s).line := rfl
    have h4 : s.opened.line = s.line := rfl
    rw [h2, hl, h4, List.append_assoc] at hm
    exact ⟨l ++ m, hm, fun f hf => (List.mem_append.mp hf).elim (hn f) (hn' f)⟩

/-- The end of a cycle start writes the brakes, the queue and the stream's count alone. -/
theorem settled_streamWork (w : State) : ∃ q n, settleBrakes (streamWork w) = settleBrakes (setQueue q (setStreamCount n w)) ∧
    (streamWork w).line.queue = q ∧ n = (if streamDue w then 0 else if w.line.streamPeriod = 0 then w.line.streamCount
      else w.line.streamCount + 1) ∧
    q = if streamDue w then (placeSnapshot (setStreamCount 0 w)).line.queue else w.line.queue := by
  have hself : setStreamCount w.line.streamCount w = w := rfl
  have hplace (v : State) : placeSnapshot v = setQueue (placeSnapshot v).line.queue v := by
    unfold placeSnapshot
    split
    · rfl
    · split_ifs <;> rfl
  unfold streamWork
  split_ifs with hd hp
  · refine ⟨_, 0, ?_, rfl, rfl, rfl⟩
    rw [streamSnapshot, ← hplace]
  · exact ⟨w.line.queue, w.line.streamCount, rfl, rfl, rfl, rfl⟩
  · exact ⟨w.line.queue, w.line.streamCount + 1, rfl, rfl, rfl, rfl⟩

end Sys2Proof.Machine

/-! PROOF. CYCLE_START latches, sends its beacon, and executes a waiting command (O8). -/

namespace Sys2Proof.Machine

-- One theorem after another, as in the tests: a thread each for this many proofs would pass the memory limit.
set_option Elab.async false

variable {s t u : State} {k : Sta}

theorem not_isSnapshot {f : Frame} (h : f.cls ≠ .snapshotNotice) : f.isSnapshot = false := by
  simpa [Frame.isSnapshot] using h

/-- Frames that are no snapshots at the end of a queue. -/
theorem filter_snapshots_append {l : List Frame} (q : List Frame) (h : ∀ f ∈ l, f.isSnapshot = false) :
    (q ++ l).filter Frame.isSnapshot = q.filter Frame.isSnapshot := by
  rw [List.filter_append, List.filter_eq_nil_iff (l := l) |>.mpr fun f hf => by simp [h f hf], List.append_nil]

/-- The stream's part of a cycle start (R186): what its snapshot, where one falls due, does to the queue. -/
theorem cycleStart_stream (s : State) :
    let t := cycleWork s
    let due : Prop := s.line.streamPeriod ≠ 0 ∧ s.line.streamPeriod ≤ s.line.streamCount + 1
    let others (x : State) : List Frame := x.line.queue.filter (fun f => !f.isSnapshot)
    let snapshots (x : State) : List Frame := x.line.queue.filter Frame.isSnapshot
    t.line.streamCount = (if due then 0 else if s.line.streamPeriod = 0 then s.line.streamCount else s.line.streamCount + 1) ∧
    (¬ due → snapshots t = snapshots s) ∧
    (∀ f rest, due → s.line.queue = f :: rest → f.cls = .snapshotNotice → snapshots t = snapshots s) ∧
    (∀ f before g after, due → s.line.queue = f :: before ++ g :: after → f.cls ≠ .snapshotNotice → g.cls = .snapshotNotice →
      (∀ x ∈ before ++ after, x.cls ≠ .snapshotNotice) →
      snapshots t = [snapshotFrame t] ∧ t.line.queue[before.length + 1]? = some (snapshotFrame t)) ∧
    (due → snapshots s = [] →
      t.line.queue = if (others t).length < 5 then others t ++ [snapshotFrame t] else others t) := by
  intro t due others snapshots
  obtain ⟨hline, l, hq, hl⟩ := cycleEnd_line s
  obtain ⟨w, hw⟩ : ∃ w, w = cycleEnd (openCycle s) := ⟨_, rfl⟩
  have ht : t = settleBrakes (streamWork w) := by rw [hw]; exact cycleWork_eq s
  rw [← hw] at hline hq
  obtain ⟨q, n, hset, hsq, hn, hqueue⟩ := settled_streamWork w
  have htq : t.line.queue = q := by rw [ht, settleBrakes_line, hsq]
  have hframe : snapshotFrame t = snapshotFrame w := by rw [ht, hset, snapshotFrame_settled]
  have htn : t.line.streamCount = n := by rw [ht, hset]; rfl
  have hperiod : w.line.streamPeriod = s.line.streamPeriod ∧ w.line.streamCount = s.line.streamCount := by
    rw [hline]
    exact ⟨rfl, rfl⟩
  have hdue : streamDue w = true ↔ due := by
    simp [streamDue, due, hperiod]
  rw [hperiod.1, hperiod.2] at hn
  have hcount0 : setStreamCount 0 w = { w with line := { w.line with streamCount := 0 } } := rfl
  have hzq : (setStreamCount 0 w).line.queue = w.line.queue := rfl
  have hzf : snapshotFrame (setStreamCount 0 w) = snapshotFrame w := rfl
  refine ⟨?_, fun hd => ?_, fun f rest hd hs hf => ?_, fun f before g after hd hs hf hg hnot => ?_, fun hd hs => ?_⟩
  · rw [htn, hn]
    exact if_congr hdue rfl rfl
  · rw [if_neg (fun h => hd (hdue.mp h))] at hqueue
    show t.line.queue.filter _ = _
    rw [htq, hqueue, hq]
    exact filter_snapshots_append _ hl
  · rw [if_pos (hdue.mpr hd), placeSnapshot_of_sending (f := f) (rest := rest ++ l) (by rw [hzq, hq, hs]; rfl) hf] at hqueue
    show t.line.queue.filter _ = _
    rw [htq, hqueue, hzq, hq]
    exact filter_snapshots_append _ hl
  · rw [if_pos (hdue.mpr hd), placeSnapshot_of_waiting (f := f) (g := g) (before := before) (after := after ++ l)
      (by rw [hzq, hq, hs]; simp) hf hg (fun x hx => ?_), hzf, ← hframe] at hqueue
    · have hq' : t.line.queue = f :: before ++ snapshotFrame t :: (after ++ l) := htq.trans hqueue
      refine ⟨?_, by rw [hq']; simp⟩
      show t.line.queue.filter _ = _
      have hnone (m : List Frame) (hm : ∀ x ∈ m, x.cls ≠ .snapshotNotice) : m.filter Frame.isSnapshot = [] :=
        List.filter_eq_nil_iff.mpr fun x hx => by simp [not_isSnapshot (hm x hx)]
      rw [hq', List.cons_append, List.filter_cons, not_isSnapshot hf, List.filter_append, List.filter_cons,
        hnone before fun x hx => hnot x (by simp [hx]),
        filter_snapshots_append after hl, hnone after fun x hx => hnot x (by simp [hx])]
      rfl
    · rw [← List.append_assoc] at hx
      obtain hx | hx := List.mem_append.mp hx
      · exact hnot x hx
      · exact fun hc => by have := hl x hx; simp [Frame.isSnapshot, hc] at this
  · have hnone : ∀ f ∈ w.line.queue, f.cls ≠ .snapshotNotice := fun f hf hc => by
      rw [hq] at hf
      obtain hf | hf := List.mem_append.mp hf
      · have : f ∈ snapshots s := List.mem_filter.mpr ⟨hf, by simp [Frame.isSnapshot, hc]⟩
        rw [hs] at this
        cases this
      · have := hl f hf
        simp [Frame.isSnapshot, hc] at this
    have hall : w.line.queue.filter (fun f => !f.isSnapshot) = w.line.queue :=
      List.filter_eq_self.mpr fun f hf => by simp [not_isSnapshot (hnone f hf)]
    rw [if_pos (hdue.mpr hd), placeSnapshot_of_none (by rw [hzq]; exact hnone), hzq, hzf, ← hframe] at hqueue
    have hqueue : t.line.queue = if w.line.queue.length < 5 then w.line.queue ++ [snapshotFrame t] else w.line.queue := htq.trans hqueue
    have hothers : others t = w.line.queue := by
      show t.line.queue.filter _ = _
      rw [hqueue]
      split_ifs
      · rw [List.filter_append, hall]
        simp [Frame.isSnapshot, snapshotFrame]
      · exact hall
    rw [hothers]
    exact hqueue

/-- What a cycle start leaves beside the stream, in every state. -/
theorem cycleStart_frame (s : State) :
    let t := cycleWork s
    t.group.cycle = s.group.cycle + 1 ∧
    t.link = { lde := true, ltx := [0xB4, s.group.cycle + 1, crc8 [0xB4, s.group.cycle + 1]], started := true } ∧
    t.group.slot = none ∧ t.group.params = s.group.params ∧ t.group.permit = s.group.permit ∧ t.pins = s.pins ∧
    t.line.mask = s.line.mask ∧ t.line.streamPeriod = s.line.streamPeriod ∧ t.line.asm = s.line.asm ∧
    t.line.cold = s.line.cold ∧ t.line.raised = [] ∧
    ∀ k, (t.jack k).pos =
        { (s.jack k).pos with latched := (s.jack k).pos.count, latchedRunning := (s.jack k).gen.running } ∧
      (t.jack k).record.settings = (match (s.jack k).record.pendingOffset with
        | some o => { (s.jack k).record.settings with offset := o }
        | none => (s.jack k).record.settings) ∧
      (t.jack k).record.pendingOffset = none ∧ (t.jack k).record.datumKnown = (s.jack k).record.datumKnown ∧
      (t.jack k).link.held = (s.jack k).link.held ∧ (t.jack k).link.outcome = (s.jack k).link.outcome ∧
      (t.jack k).link.miss = (s.jack k).link.miss ∧ (t.jack k).link.slotOpen = true ∧ (t.jack k).link.bytes = [] ∧
      (t.jack k).homeLow = (s.jack k).homeLow := by
  intro t
  have hwork := Works.wholeCycle s
  obtain ⟨hline, -⟩ := cycleEnd_line s
  obtain ⟨w, hw⟩ : ∃ w, w = cycleEnd (openCycle s) := ⟨_, rfl⟩
  have ht : t = settleBrakes (streamWork w) := by rw [hw]; exact cycleWork_eq s
  rw [← hw] at hline hwork
  obtain ⟨q, n, hset, -⟩ := settled_streamWork w
  have htg : t.group = w.group := by rw [ht, settleBrakes_group, streamWork_group]
  have htl : t.line = { w.line with queue := q, streamCount := n } := by rw [ht, hset]; rfl
  have htj (k : Sta) : t.jack k = { w.jack k with gen := { (w.jack k).gen with
      brake := settledBrake w.group.permit w.group.state (w.jack k) } } := by
    rw [ht, hset]
    exact settleBrakes_jack _ k
  have hbg : (clearSlot (begun s)).group = { s.group with cycle := s.group.cycle + 1, slot := none } := by
    show { (begun s).group with slot := none } = _
    rw [begun_group]
  have hb := Works.begun s
  refine ⟨?_, ?_, ?_, ?_, ?_, ?_, ?_, ?_, ?_, ?_, ?_, fun k => ?_⟩
  · rw [htg, hwork.cycle, hbg]
  · rw [ht, settleBrakes_link, streamWork_link, hwork.link]
    exact hb.link
  · rw [htg, hwork.slot, hbg]
  · rw [htg, hwork.params, hbg]
  · rw [htg, hwork.permit, hbg]
  · rw [ht, settleBrakes_pins, streamWork_pins, hwork.pins]
    exact hb.pins
  · rw [htl, hline]
  · rw [htl, hline]
  · rw [htl, hline]
  · rw [htl, hline]
  · rw [htl, hline]
  · have hk := hwork.jacks k
    have hbk : (clearSlot (begun s)).jack k = (begun s).jack k := rfl
    rw [hbk] at hk
    have hrec := begun_record s k
    have hlink : ((begun s).jack k).link = { (s.jack k).link with slotOpen := true, bytes := [] } := by
      rw [begun_jack, opened_jack]
    have hhome : ((begun s).jack k).homeLow = (s.jack k).homeLow := by rw [begun_jack, opened_jack]
    have hslot := hk.slot
    rw [hlink] at hslot
    rw [htj]
    refine ⟨?_, ?_, ?_, ?_, ?_, ?_, ?_, ?_, ?_, ?_⟩
    · exact hk.pos.trans (begun_latch s k)
    · refine hk.settings.trans ?_
      rw [hrec]
      unfold Jack.recordAtStart Jack.offsetAtStart
      cases (s.jack k).record.pendingOffset <;> rfl
    · refine hk.pendingOffset.trans ?_
      rw [hrec]
      rfl
    · refine hk.datumKnown.trans ?_
      rw [hrec]
      rfl
    · exact (congrArg LinkSlot.held hslot).trans rfl
    · exact (congrArg LinkSlot.outcome hslot).trans rfl
    · exact (congrArg LinkSlot.miss hslot).trans rfl
    · exact (congrArg LinkSlot.slotOpen hslot).trans rfl
    · exact (congrArg LinkSlot.bytes hslot).trans rfl
    · exact hk.homeLow.trans hhome

end Sys2Proof.Machine

/-! PROOF. A command executed at its cycle start, and the cycle start that goes on from there (O8). -/

namespace Sys2Proof.Machine

-- One theorem after another, as in the tests: a thread each for this many proofs would pass the memory limit.
set_option Elab.async false

variable {s t u : State} {k : Sta}

/-! ### What a command leaves to the cycle start it is executed at -/

/-- From `s` to `t` no generator starts, stops or moves its brake, no imbalance mark changes, and neither the commit, nor the active plan, nor the plan position
changes: no command takes a plan, and none has the generators go idle. -/
structure Orders (s t : State) : Prop where
  gen : ∀ k, (t.jack k).gen.run = (s.jack k).gen.run ∧ (t.jack k).gen.brake = (s.jack k).gen.brake ∧
    (t.jack k).imbalance = (s.jack k).imbalance
  commit : t.plan.commit = s.plan.commit
  bank : t.plan.activeBank = s.plan.activeBank
  planPos : t.sync.planPos = s.sync.planPos

theorem Orders.refl (s : State) : Orders s s := ⟨fun _ => ⟨rfl, rfl, rfl⟩, rfl, rfl, rfl⟩

theorem Orders.trans (h : Orders s t) (g : Orders t u) : Orders s u :=
  ⟨fun k => ⟨(g.gen k).1.trans (h.gen k).1, (g.gen k).2.1.trans (h.gen k).2.1, (g.gen k).2.2.trans (h.gen k).2.2⟩, g.commit.trans h.commit, g.bank.trans h.bank,
    g.planPos.trans h.planPos⟩

theorem Orders.enterGroup (g : GroupState) (s : State) : Orders s (enterGroup g s) where
  gen := fun k => by rw [enterGroup_jack]; exact ⟨rfl, rfl, rfl⟩
  commit := by rw [enterGroup_plan]
  bank := by rw [enterGroup_plan]
  planPos := by
    rw [enterGroup_sync]
    split_ifs <;> rfl

/-- Work that changes neither the stations, nor the plan, nor the plan position. -/
theorem Orders.of_same (hj : t.jacks = s.jacks) (hp : t.plan = s.plan) (hy : t.sync.planPos = s.sync.planPos) : Orders s t where
  gen := fun k => by rw [show t.jack k = s.jack k from congrArg (fun p => p.get k) hj]; exact ⟨rfl, rfl, rfl⟩
  commit := by rw [hp]
  bank := by rw [hp]
  planPos := hy

/-- A group state entered after work that changes none of these. -/
theorem Orders.entered (g : GroupState) {v : State} (hj : v.jacks = s.jacks) (hp : v.plan = s.plan)
    (hy : v.sync.planPos = s.sync.planPos) : Orders s (Machine.enterGroup g v) :=
  (Orders.of_same hj hp hy).trans (.enterGroup g v)

/-- An update of every station that leaves the generators' states and brakes alone. -/
theorem Orders.updAll {f : Sta → Jack → Jack} (h : ∀ k, (f k (s.jack k)).gen = (s.jack k).gen ∧
    (f k (s.jack k)).imbalance = (s.jack k).imbalance) : Orders s (s.updAll f) :=
  ⟨fun k => by rw [updAll_jack, (h k).1, (h k).2]; exact ⟨rfl, rfl, rfl⟩, rfl, rfl, rfl⟩

theorem Orders.endTrims (s : State) : Orders s (endTrims s) where
  gen := fun k => by
    rw [endTrims_jack]
    obtain ⟨m, n, p, h⟩ := (s.jack k).moveStopped_same
    unfold Jack.trimEnded
    split
    · split_ifs
      · rw [h]
        exact ⟨rfl, rfl, rfl⟩
      · exact ⟨rfl, rfl, rfl⟩
    · exact ⟨rfl, rfl, rfl⟩
  commit := by rw [endTrims_plan]
  bank := by rw [endTrims_plan]
  planPos := by rw [endTrims_sync]

theorem Orders.leaveStopped (s : State) : Orders s (leaveStopped s) := by
  unfold Machine.leaveStopped
  split_ifs
  · exact .endTrims s
  · exact .refl s

theorem Orders.startSegment (s : State) : Orders s (startSegment s) where
  gen := fun k => by
    rw [show (Machine.startSegment s).jack k = s.jack k from congrArg (fun p => p.get k) (startSegment_jacks s)]
    exact ⟨rfl, rfl, rfl⟩
  commit := by
    unfold Machine.startSegment
    split
    · rfl
    · simp only
      split_ifs <;> rfl
  bank := by
    unfold Machine.startSegment
    split
    · rfl
    · simp only
      split_ifs <;> rfl
  planPos := by
    unfold Machine.startSegment
    split
    · rfl
    · simp only
      split_ifs <;> exact startedSync_planPos _ _ _

theorem Orders.enterMoving (s : State) : Orders s (enterMoving s) :=
  (Orders.entered (s := s) .moving (v := setCause .none s) rfl rfl rfl).trans (.startSegment (Machine.enterGroup .moving (setCause .none s)))

theorem Orders.enterStopping (s : State) : Orders s (enterStopping s) := by
  unfold Machine.enterStopping
  split_ifs
  · exact .refl s
  · exact .entered .stopping (v := { s with group := { s.group with ratesForced := false } }) rfl rfl rfl

theorem Orders.seekAll (s : State) : Orders s (seekAll s) :=
  .updAll fun k => by split_ifs <;> exact ⟨rfl, rfl⟩

theorem Orders.returnFaulted (s : State) : Orders s (returnFaulted s) := .updAll fun _ => ⟨rfl, rfl⟩

theorem Orders.setFaults (l : List FaultEntry) (s : State) : Orders s (setFaults l s) := .of_same rfl rfl rfl

theorem Orders.setCause (c : StopCause) (s : State) : Orders s (setCause c s) := .of_same rfl rfl rfl

theorem Orders.clearWait (s : State) : Orders s (clearWait s) := .of_same rfl rfl rfl

theorem Orders.motionReset (b : Bool) (s : State) : Orders s (motionReset b s) where
  gen := fun k => by
    rw [motionReset_jack]
    exact ⟨rfl, rfl, rfl⟩
  commit := rfl
  bank := rfl
  planPos := rfl

theorem Orders.enterHolding (s : State) : Orders s (enterHolding s) :=
  .entered .holding (v := { s with sync := { s.sync with speed := 0, dir := .none } }) rfl rfl rfl

/-- LAND's passage to LANDING. -/
theorem Orders.landing (s : State) : Orders s (beginDescent (Machine.enterGroup .landing (Machine.setCause .none s))) :=
  (Orders.entered (s := s) .landing (v := Machine.setCause .none s) rfl rfl rfl).trans (.of_same rfl rfl rfl)

theorem Orders.foldl {α : Type} {f : State → α → State} (h : ∀ t x, Orders t (f t x)) (l : List α) (s : State) :
    Orders s (l.foldl f s) := by
  induction l generalizing s with
  | nil => exact .refl s
  | cons x l ih => exact (h s x).trans (ih _)

theorem Orders.refreshGeometry (s : State) : Orders s (refreshGeometry s) := by
  refine .foldl (fun t e => ?_) _ s
  split
  · unfold refreshTwist
    split
    · exact .refl t
    · exact .of_same rfl rfl rfl
  · unfold refreshStep
    split
    · exact .of_same rfl rfl rfl
    · exact .refl t
  · exact .refl t

theorem Orders.runChecked (c : GroupCommand) (s : State) : Orders s (runChecked c s).state := by
  cases c with
  | setupDone =>
    obtain ⟨f, -, e⟩ | ⟨-, e⟩ := runSetupDone_cases s <;> rw [Machine.runChecked, e]
    · exact .refl s
    · exact .entered .prepared (v := { s with group := { s.group with validated := true } }) rfl rfl rfl
  | resetup =>
    unfold Machine.runChecked runResetup
    split_ifs
    · exact .refl s
    · exact (Orders.leaveStopped s).trans (.entered .setup (v := { Machine.setCause .none (Machine.leaveStopped s) with
        group := { (Machine.setCause .none (Machine.leaveStopped s)).group with validated := false } }) rfl rfl rfl)
  | engage =>
    unfold Machine.runChecked runEngage
    split_ifs
    · exact .refl s
    · exact .refl s
    · exact .refl s
    · exact (Orders.entered (s := s) .engaging (v := Machine.clearWait (Machine.setCause .none s)) rfl rfl rfl).trans (.seekAll _)
  | run =>
    unfold Machine.runChecked runRun
    split_ifs
    · exact .refl s
    · exact (Orders.clearWait s).trans (.enterMoving _)
  | continueRun =>
    unfold Machine.runChecked runContinue
    split_ifs
    · exact .refl s
    · exact .enterMoving s
  | stop => exact (Orders.setCause .command s).trans (.enterStopping _)
  | resume =>
    unfold Machine.runChecked runResume
    simp only
    split_ifs
    · exact .refl s
    · exact .refl s
    · exact (Orders.leaveStopped s).trans ((Orders.of_same (s := Machine.leaveStopped s)
        (t := freezeReference (Machine.leaveStopped s)) rfl rfl rfl).trans (.enterMoving _))
    · exact ((Orders.leaveStopped s).trans (.setCause .none _)).trans (.enterHolding _)
  | land =>
    unfold Machine.runChecked runLand
    simp only
    split_ifs
    · exact .refl s
    · exact ((Orders.leaveStopped s).trans (.landing _)).trans (.entered .prepared
        (v := endDescent (beginDescent (Machine.enterGroup .landing (Machine.setCause .none (Machine.leaveStopped s))))) rfl rfl rfl)
    · exact (Orders.leaveStopped s).trans (.landing _)
  | ackFaults => exact ((Orders.refreshGeometry s).trans (.setFaults _ _)).trans (.returnFaulted _)
  | clearLockout =>
    show Orders s (runClearLockout s).state
    unfold runClearLockout
    split
    · exact .refl s
    · exact (((Orders.setFaults _ s).trans (.returnFaulted _)).trans (.motionReset _ _)).trans (.enterGroup _ _)

theorem Orders.runCommand (c : GroupCommand) (s : State) : Orders s (runCommand c s).state := by
  unfold Machine.runCommand
  split_ifs
  · exact .refl s
  · exact .refl s
  · exact .runChecked c s

/-- A command that leaves the group LOCKED_OUT has been refused. -/
theorem runCommand_lockedOut (c : GroupCommand) (h : (runCommand c s).state.group.state = .lockedOut) : (runCommand c s).state = s := by
  unfold runCommand at h ⊢
  split_ifs at h ⊢ with ht hp
  · rfl
  · rfl
  · have ht : takenIn c s.group.state = true := by simpa using ht
    have hnot : c ≠ .clearLockout → s.group.state ≠ .lockedOut := by
      intro hc hl
      rw [hl] at ht
      cases c <;> simp [takenIn] at ht hc
    have hmoving (t : State) : (enterMoving t).group.state = .moving := by
      rw [enterMoving, startSegment_group, enterGroup_state]
    cases c with
    | setupDone =>
      obtain ⟨f, -, e⟩ | ⟨-, e⟩ := runSetupDone_cases s
      · rw [runChecked, e]
        rfl
      · rw [runChecked, e] at h
        cases (enterGroup_state _ _).symm.trans h
    | resetup =>
      unfold runChecked runResetup at h ⊢
      split_ifs at h ⊢
      · rfl
      · simp [Executed.done] at h
    | engage =>
      unfold runChecked runEngage at h ⊢
      split_ifs at h ⊢
      · rfl
      · rfl
      · rfl
      · simp [Executed.done, seekAll] at h
    | run =>
      unfold runChecked runRun at h ⊢
      split_ifs at h ⊢
      · rfl
      · simp [Executed.done, hmoving] at h
    | continueRun =>
      unfold runChecked runContinue at h ⊢
      split_ifs at h ⊢
      · rfl
      · simp [Executed.done, hmoving] at h
    | stop =>
      unfold runChecked runStop Executed.done enterStopping at h
      split_ifs at h with hs
      · have hl : s.group.state = .lockedOut := h
        exact absurd hl (hnot (by simp))
      · simp at h
    | resume =>
      unfold runChecked runResume at h ⊢
      simp only at h ⊢
      split_ifs at h ⊢
      · rfl
      · rfl
      · simp [Executed.done, hmoving] at h
      · simp [Executed.done, enterHolding] at h
    | land =>
      unfold runChecked runLand at h ⊢
      simp only at h ⊢
      split_ifs at h ⊢
      · rfl
      · simp [Executed.done] at h
      · simp [Executed.done, beginDescent] at h
    | ackFaults =>
      have hg : (runChecked .ackFaults s).state.group.state = s.group.state :=
        (congrArg Group.state (refreshGeometry_group s) : (refreshGeometry s).group.state = s.group.state)
      rw [hg] at h
      exact absurd h (hnot (by simp))
    | clearLockout =>
      unfold runChecked runClearLockout at h ⊢
      cases hfind : lowestStation s (fun j => j.mon.runaway != 0) with
      | some k => rfl
      | none =>
        simp only [hfind] at h
        have h' := (enterGroup_state _ _).symm.trans h
        unfold stateAfterLockout at h'
        split_ifs at h'

end Sys2Proof.Machine

/-! PROOF. A command waiting in the slot is executed at its cycle start, which goes on from there (O8). -/

namespace Sys2Proof.Machine

-- One theorem after another, as in the tests: a thread each for this many proofs would pass the memory limit.
set_option Elab.async false

variable {s t u : State} {k : Sta}

theorem Orders.executeCommand (w : SlotCommand) (s : State) : Orders s (executeCommand w s) := by
  have h : Orders (clearSlot s) (Machine.runCommand w.command (clearSlot s)).state := .runCommand _ _
  refine Orders.trans (t := clearSlot s) (.of_same rfl rfl rfl) (h.trans ?_)
  exact .of_same (handOver_jacks _) (handOver_plan _) (congrArg Sync.planPos (handOver_sync _))

/-! ### The watch of R71, and what TAKE leaves nothing to take of -/

/-- The watch of a cycle start is the one the statement spells, on counts just latched. -/
theorem lockoutWatch_of_latched (h : ∀ k, (s.jack k).pos.latched = (s.jack k).pos.count) : lockoutWatch s = s.watchedInLockout := by
  unfold lockoutWatch State.watchedInLockout
  split_ifs
  · refine State.ext_jack (fun k => ?_) rfl rfl rfl rfl rfl rfl rfl rfl
    rw [updAll_jack, updAll_jack]
    have hd : drifted s.group.params (s.jack k) = (s.jack k).driftsBeyond s.group.params := by
      unfold drifted Jack.driftsBeyond Jack.latchedHeight Jack.liveHeight
      rw [h k]
    unfold Jack.watchedMonitor runawayInLockout restAfter saturateNat
    rw [hd, h k]
    cases (s.jack k).assigned <;> simp
  · rfl

/-- Nothing is left to take once a cycle start has taken what was due. -/
def NothingDue (s : State) : Prop := s.plan.commit ≠ some .replace ∧ (s.plan.commit = some .append → s.planCompleted = false)

theorem takeAtCycleStart_of_nothingDue (h : NothingDue s) : takeAtCycleStart s = s := by
  unfold takeAtCycleStart
  obtain ⟨h1, h2⟩ := h
  split
  · next e => exact absurd e h1
  · next e => rw [h2 e]; rfl
  · rfl

theorem nothingDue_takeAtCycleStart (s : State) : NothingDue (takeAtCycleStart s) := by
  have htake (kind : CommitKind) (b : Bool) (t : State) : (takePlan kind b t).plan.commit = none := by
    show t.plan.swapped.commit = none
    unfold Plan.swapped
    cases t.plan.active <;> rfl
  have hnone {t : State} (h : t.plan.commit = none) : NothingDue t := by simp [NothingDue, h]
  unfold takeAtCycleStart
  split
  · split_ifs
    · exact hnone (((Orders.startSegment _).commit).trans (htake _ _ _))
    · exact hnone (htake _ _ _)
  · next e =>
    split_ifs with hc
    · exact hnone (htake _ _ _)
    · exact ⟨by simp [e], fun _ => by simpa using hc⟩
  · next e => exact hnone e

theorem Orders.nothingDue (h : Orders s t) (hs : NothingDue s) : NothingDue t := by
  unfold NothingDue State.planCompleted at *
  have hb : t.plan.activeBank = s.plan.activeBank := h.bank
  rw [h.commit, hb, h.planPos]
  exact hs

theorem nothingDue_begun (s : State) : NothingDue (begun s) := by
  have h1 : Orders (takeAtCycleStart s.opened) (handOver (takeAtCycleStart s.opened)) :=
    .of_same (handOver_jacks _) (handOver_plan _) (congrArg Sync.planPos (handOver_sync _))
  have h2 (t : State) : Orders t (lockoutWatch t) := by
    unfold lockoutWatch
    split_ifs
    · exact .updAll fun _ => ⟨rfl, rfl⟩
    · exact .refl t
  exact (h1.trans (h2 _)).nothingDue (nothingDue_takeAtCycleStart _)

/-! ### The cycle start that goes on from the execution -/

/-- The state of the statement: what an execution of the waiting command left, with the cycle number, the brakes and, in LOCKED_OUT, the
monitors as the cycle start found them. -/
def reopened (s v : State) : State :=
  { v.updAll (fun k j => { j with
      gen := { j.gen with brake := (s.jack k).gen.brake }
      mon := if v.group.state = .lockedOut then (s.jack k).mon else j.mon }) with
    group := { v.group with cycle := s.group.cycle } }

/-- The monitors of a LOCKED_OUT group at the execution. -/
theorem begun_mon_of_lockedOut (h : s.group.state = .lockedOut) : ((begun s).jack k).mon = { (s.jack k).mon with
    runaway := runawayInLockout s.group.params (s.opened.jack k), rest := restAfter (s.opened.jack k) } := by
  have hg : (handOver (takeAtCycleStart s.opened)).group = s.opened.group := (handOver_group _).trans (takeAtCycleStart_group _)
  have hj : (handOver (takeAtCycleStart s.opened)).jack k = s.opened.jack k := by
    rw [handOver_jack]
    exact congrArg (fun p => p.get k) (takeAtCycleStart_jacks _)
  unfold begun lockoutWatch
  rw [hg, if_pos (show s.opened.group.state = .lockedOut from h), updAll_jack, hj, opened_jack]
  rfl

/-- A cycle start opens a station of the statement's state as the execution left it, the monitor as the cycle start found it. -/
theorem reopened_opened_jack {o : State} (hw : Works False False (clearSlot (begun s)) o) (hord : Orders (begun s) o) (k : Sta) :
    (reopened s (settleBrakes o)).opened.jack k =
      { o.jack k with mon := if o.group.state = .lockedOut then (s.jack k).mon else (o.jack k).mon } := by
  have hbj := begun_jack s k
  obtain ⟨hrun, hbrake, -⟩ := hord.gen k
  have hu := hw.jacks k
  have hposk : (o.jack k).pos = { (s.jack k).pos with latched := (s.jack k).pos.count, latchedRunning := (s.jack k).gen.running } :=
    hu.pos.trans (begun_latch s k)
  have hgen : ((begun s).jack k).gen = (s.jack k).gen := by rw [hbj, opened_jack]
  have hnone : (o.jack k).record.pendingOffset = none := hu.pendingOffset.trans (by
    show ((begun s).jack k).record.pendingOffset = none
    rw [begun_record]
    rfl)
  have hlink : (o.jack k).link = { (o.jack k).link with slotOpen := true, bytes := [] } := by
    have hs := hu.slot
    have hl : ((begun s).jack k).link = { (s.jack k).link with slotOpen := true, bytes := [] } := by rw [hbj, opened_jack]
    have hs : (o.jack k).link = { ((begun s).jack k).link with silent := (o.jack k).link.silent, lossRun := (o.jack k).link.lossRun } :=
      hs
    rw [hs, hl]
  rw [hgen] at hrun hbrake
  have hrunning : (o.jack k).gen.running = (s.jack k).gen.running := by unfold Generator.running; rw [hrun]
  have hat : (o.jack k).recordAtStart = (o.jack k).record := by
    unfold Jack.recordAtStart Jack.offsetAtStart
    rw [hnone]
    generalize (o.jack k).record = r at hnone
    obtain ⟨⟩ := r
    cases hnone
    rfl
  have hx : (reopened s (settleBrakes o)).jack k = { o.jack k with
      gen := { (o.jack k).gen with brake := (s.jack k).gen.brake }
      mon := if o.group.state = .lockedOut then (s.jack k).mon else (o.jack k).mon } := by
    show ((settleBrakes o).updAll _).jack k = _
    rw [updAll_jack, settleBrakes_jack]
    rfl
  have hgen' : { (o.jack k).gen with brake := (s.jack k).gen.brake } = (o.jack k).gen := by rw [← hbrake]
  rw [opened_jack, hx, hgen']
  generalize (if o.group.state = .lockedOut then (s.jack k).mon else (o.jack k).mon) = m
  show ({ o.jack k with
    mon := m
    pos := { (o.jack k).pos with latched := (o.jack k).pos.count, latchedRunning := (o.jack k).gen.running }
    link := { (o.jack k).link with slotOpen := true, bytes := [] }
    record := (o.jack k).recordAtStart } : Jack) = _
  have hsame : { (o.jack k).pos with latched := (o.jack k).pos.count, latchedRunning := (s.jack k).gen.running } = (o.jack k).pos := by
    rw [hposk]
  rw [hat, ← hlink, hrunning, hsame]

/-- The state a cycle start opens from `reopened s v` on. -/
theorem openCycle_reopened (w : SlotCommand) :
    openCycle (reopened s (settleBrakes (executeCommand w (begun s)))) = executeCommand w (begun s) := by
  have hbegun := begun_jack s
  have hmon := fun k => begun_mon_of_lockedOut (s := s) (k := k)
  have hb := Works.begun s
  have hw : Works False False (clearSlot (begun s)) (executeCommand w (begun s)) := .executeCommand w _
  have hord : Orders (begun s) (executeCommand w (begun s)) := .executeCommand w _
  have hdue : NothingDue (executeCommand w (begun s)) := hord.nothingDue (nothingDue_begun s)
  have hraised : (executeCommand w (begun s)).line.raised = [] := handOver_raised _
  have hlocked : (executeCommand w (begun s)).group.state = .lockedOut →
      (∀ k, (executeCommand w (begun s)).jack k = (begun s).jack k) ∧ s.group.state = .lockedOut := fun h => by
    have hg : (executeCommand w (begun s)).group = (runCommand w.command (clearSlot (begun s))).state.group := handOver_group _
    have he := runCommand_lockedOut w.command (s := clearSlot (begun s)) (by rw [← hg]; exact h)
    refine ⟨fun k => ?_, ?_⟩
    · refine (handOver_jack _ k).trans ?_
      show (runCommand w.command (clearSlot (begun s))).state.jack k = _
      rw [he]
      rfl
    · rw [hg, he] at h
      have : (begun s).group.state = .lockedOut := h
      rw [begun_group] at this
      exact this
  generalize executeCommand w (begun s) = o at *
  have hjack := reopened_opened_jack hw hord
  have hopened : (reopened s (settleBrakes o)).opened =
      o.updAll (fun k j => { j with mon := if o.group.state = .lockedOut then (s.jack k).mon else j.mon }) := by
    refine State.ext_jack (fun k => ?_) rfl ?_ rfl rfl rfl ?_ rfl rfl
    · rw [hjack, updAll_jack]
    · have hcycle : o.group.cycle = s.group.cycle + 1 := hw.cycle.trans (by
        show (begun s).group.cycle = _
        rw [begun_group])
      show { o.group with cycle := s.group.cycle + 1 } = o.group
      rw [← hcycle]
    · show ({ lde := true, ltx := _, started := true } : LinkLine) = o.link
      rw [hw.link]
      exact hb.link.symm
  have hslot' : (reopened s (settleBrakes o)).group.slot = none := hw.slot
  rw [openCycle_of_none hslot', begun, hopened]
  have hdue' : NothingDue (o.updAll (fun k j => { j with mon := if o.group.state = .lockedOut then (s.jack k).mon else j.mon })) := hdue
  rw [takeAtCycleStart_of_nothingDue hdue', handOver_of_none (by exact hraised)]
  unfold lockoutWatch
  by_cases hl : o.group.state = .lockedOut
  · refine (if_pos hl).trans ?_
    obtain ⟨hsame, hls⟩ := hlocked hl
    refine State.ext_jack (fun k => ?_) rfl rfl rfl rfl rfl rfl rfl rfl
    have hp : o.group.params = s.group.params := hw.params.trans (by
      show (begun s).group.params = _
      rw [begun_group])
    have hk := hmon k hls
    rw [updAll_jack, updAll_jack, if_pos hl, hsame k]
    have hxk : { (begun s).jack k with mon := (s.jack k).mon } = s.opened.jack k := by
      rw [hbegun k, opened_jack]
    show ({ ({ (begun s).jack k with mon := (s.jack k).mon } : Jack) with mon := { (s.jack k).mon with
      runaway := runawayInLockout o.group.params { (begun s).jack k with mon := (s.jack k).mon }
      rest := restAfter { (begun s).jack k with mon := (s.jack k).mon } } } : Jack) = (begun s).jack k
    rw [hxk, hp, ← hk]
    exact (hbegun k).symm
  · refine (if_neg hl).trans ?_
    exact updAll_eq_self fun k => by rw [if_neg hl]

/-! ### The reply of the execution -/

/-- The queue of a cycle start that executes a command begins with what it held, and the command's reply. -/
theorem executeCommand_queue (w : SlotCommand) (s : State) : ∃ l, (executeCommand w s).line.queue =
    s.line.queue ++ executedReply w (runCommand w.command (clearSlot s)) :: l := by
  obtain ⟨l, hl⟩ := handOver_queue (enqueue (executedReply w (runCommand w.command (clearSlot s)))
    (runCommand w.command (clearSlot s)).state)
  refine ⟨l, hl.trans ?_⟩
  show (runCommand w.command (clearSlot s)).state.line.queue ++ _ ++ l = _
  rw [(Quiet.runCommand w.command (clearSlot s)).queue, List.append_assoc]
  rfl

/-- A snapshot that falls due moves no frame but a snapshot. -/
theorem placeSnapshot_getElem {i : Nat} {f : Frame} (h : s.line.queue[i]? = some f) (hf : f.cls ≠ .snapshotNotice) :
    (placeSnapshot s).line.queue[i]? = some f := by
  have happend (l : List Frame) : (s.line.queue ++ l)[i]? = some f := by
    rw [List.getElem?_append_left (List.getElem?_eq_some_iff.mp h).1, h]
  unfold placeSnapshot
  split
  · exact happend _
  · next sending waiting hq =>
    split_ifs
    · exact h
    · show (sending :: waiting.map _)[i]? = _
      rw [hq] at h
      cases i with
      | zero => exact h
      | succ i =>
        have h : waiting[i]? = some f := h
        show (waiting.map _)[i]? = _
        rw [List.getElem?_map, h]
        simp [hf]
    · exact happend _
    · exact h

/-- A cycle start keeps the frames its opening left but for the snapshots. -/
theorem cycleWork_getElem {i : Nat} {f : Frame} (h : (openCycle s).line.queue[i]? = some f) (hf : f.cls ≠ .snapshotNotice) :
    (cycleWork s).line.queue[i]? = some f := by
  obtain ⟨l, hq, -⟩ := (Works.cycleEnd (openCycle s)).queue
  have hw : (cycleEnd (openCycle s)).line.queue[i]? = some f := by
    rw [hq, List.getElem?_append_left (List.getElem?_eq_some_iff.mp h).1, h]
  rw [cycleWork_eq, settleBrakes_line]
  generalize cycleEnd (openCycle s) = w at hw
  obtain ⟨q, n, -, hsq, -, hqueue⟩ := settled_streamWork w
  rw [hsq, hqueue]
  split_ifs
  · exact placeSnapshot_getElem (s := setStreamCount 0 w) hw hf
  · exact hw

/-- Settles O8. -/
theorem cycleStartLatchesAndSendsBeacon : Obligations.CycleStartLatchesAndSendsBeacon := by
  refine ⟨fun s hr => ⟨_, exec_cycleStart hr, cycleStart_stream s, cycleStart_frame s⟩, fun c tag s u v hr hslot hu hv => ?_⟩
  have hopened : s.opened.pins.resetAsserted = false := hr
  cases (exec_take hopened).symm.trans hu
  have hwatch : (handOver (takeAtCycleStart s.opened)).watchedInLockout = begun s := by
    refine (lockoutWatch_of_latched fun k => ?_).symm
    rw [handOver_jack, show (takeAtCycleStart s.opened).jack k = s.opened.jack k from
      congrArg (fun p => p.get k) (takeAtCycleStart_jacks _), opened_jack]
  have hline : (begun s).line = (handOver (takeAtCycleStart s.opened)).line := by
    unfold begun lockoutWatch
    split_ifs <;> rfl
  have hbslot : (begun s).group.slot = some { tag := tag, command := c } := by
    rw [begun_group]
    exact hslot
  have hreset : (begun s).pins.resetAsserted = false := by
    rw [(Works.begun s).pins]
    exact hr
  have hexec : exec (c.row .execution) (begun s) =
      .next (settleBrakes (executeCommand { tag := tag, command := c } (begun s))) := by
    rw [exec_row_execution, unlessReset_of_running hreset]
    unfold executeWaiting
    rw [hbslot]
    simp only [if_true]
  rw [hwatch] at hv
  cases hexec.symm.trans hv
  have hopen : openCycle s = executeCommand { tag := tag, command := c } (begun s) := by
    rw [openCycle_eq, executeSlot, hbslot]
  have hcycle : (runCommand c (clearSlot (begun s))).state.group.cycle = s.group.cycle + 1 := by
    rw [(Works.runCommand c (clearSlot (begun s))).cycle]
    show (begun s).group.cycle = _
    rw [begun_group]
  obtain ⟨l, hq⟩ := executeCommand_queue { tag := tag, command := c } (begun s)
  rw [← hline]
  have hat : (openCycle s).line.queue[(begun s).line.queue.length]? =
      some (executedReply { tag := tag, command := c } (runCommand c (clearSlot (begun s)))) := by
    rw [hopen, hq]
    simp
  refine ⟨cycleWork s, executedReply { tag := tag, command := c } (runCommand c (clearSlot (begun s))), exec_cycleStart hr, ?_,
    cycleWork_getElem hat (by simp [executedReply, replyFrame]), rfl, rfl, rfl, ?_, ?_, ?_⟩
  · rw [settleBrakes_line, ← hopen]
    exact hat
  · show [commandCode c, (runCommand c (clearSlot (begun s))).state.group.cycle] = _
    rw [hcycle]
  · rw [settleBrakes_group]
    exact (Works.executeCommand _ (begun s)).slot
  · have hreopen := openCycle_reopened (s := s) { tag := tag, command := c }
    generalize hv' : reopened s (settleBrakes (executeCommand { tag := tag, command := c } (begun s))) = v' at hreopen
    have hr' : v'.pins.resetAsserted = false := by
      rw [← hv']
      show (executeCommand { tag := tag, command := c } (begun s)).pins.resetAsserted = false
      rw [(Works.executeCommand _ (begun s)).pins]
      exact hreset
    refine (exec_cycleStart hr).trans (Eq.trans ?_ (congrArg (exec .cycleStart) hv'.symm))
    rw [exec_cycleStart hr', cycleWork_eq, cycleWork_eq, hreopen, hopen]

end Sys2Proof.Machine

/-! PROOF. The checks of a cycle start where they find nothing (O10, O13, O18, O34, O52). -/

namespace Sys2Proof.Machine

-- One theorem after another, as in the tests: a thread each for this many proofs would pass the memory limit.
set_option Elab.async false

variable {s t u b : State} {k : Sta}

/-! ### Work that finds nothing -/

/-- From `s` to `t` the group, the reference, the plan and of every station all that rates and judgements are formed from are kept: the
work of a check that finds nothing. -/
structure Calm (s t : State) : Prop where
  group : t.group = s.group := by rfl
  sync : t.sync = s.sync := by rfl
  plan : t.plan = s.plan := by rfl
  record : ∀ k, (t.jack k).record = (s.jack k).record := by intro k; rfl
  gen : ∀ k, (t.jack k).gen = (s.jack k).gen := by intro k; rfl
  pos : ∀ k, (t.jack k).pos = (s.jack k).pos := by intro k; rfl
  rate : ∀ k, (t.jack k).rate = (s.jack k).rate := by intro k; rfl

theorem Calm.refl (s : State) : Calm s s := {}

theorem Calm.trans (h : Calm s t) (g : Calm t u) : Calm s u where
  group := g.group.trans h.group
  sync := g.sync.trans h.sync
  plan := g.plan.trans h.plan
  record := fun k => (g.record k).trans (h.record k)
  gen := fun k => (g.gen k).trans (h.gen k)
  pos := fun k => (g.pos k).trans (h.pos k)
  rate := fun k => (g.rate k).trans (h.rate k)

theorem Calm.handOver (s : State) : Calm s (handOver s) := by
  have hj (k : Sta) : (Machine.handOver s).jack k = s.jack k := handOver_jack s k
  exact ⟨handOver_group s, handOver_sync s, handOver_plan s, fun k => by rw [hj], fun k => by rw [hj], fun k => by rw [hj],
    fun k => by rw [hj]⟩

theorem Calm.raise (e : Event) (s : State) : Calm s (raise e s) := {}

theorem Calm.updCar (i : Nat) (f : Car → Car) (s : State) : Calm s (s.updCar i f) := {}

/-- An update of every station that keeps them. -/
theorem Calm.updAll {f : Sta → Jack → Jack} (h : ∀ k, (f k (s.jack k)).record = (s.jack k).record ∧
    (f k (s.jack k)).gen = (s.jack k).gen ∧ (f k (s.jack k)).pos = (s.jack k).pos ∧ (f k (s.jack k)).rate = (s.jack k).rate) :
    Calm s (s.updAll f) where
  record := fun k => by rw [updAll_jack]; exact (h k).1
  gen := fun k => by rw [updAll_jack]; exact (h k).2.1
  pos := fun k => by rw [updAll_jack]; exact (h k).2.2.1
  rate := fun k => by rw [updAll_jack]; exact (h k).2.2.2

theorem Calm.slipEvent (b : State) (k : Sta) (s : State) : Calm s (slipEvent b k s) := by
  unfold Machine.slipEvent raiseSlip
  split
  · split_ifs
    · exact .raise _ s
    · exact .refl s
  · exact .refl s

theorem Calm.forStations {f : Sta → State → State} (h : ∀ k t, Calm t (f k t)) (s : State) : Calm s (forStations f s) :=
  forStations_keeps (P := fun t => Calm s t) (fun k t ht => ht.trans (h k t)) (.refl s)

theorem flatMap_eq_nil {f : Sta → List Detection} (h : ∀ k, f k = []) : Sta.all.flatMap f = [] :=
  List.flatMap_eq_nil_iff.mpr fun k _ => h k

theorem Calm.monitorWork (h : ∀ k, monitorDetections b k = []) (s : State) : Calm s (monitorWork b s) := by
  unfold Machine.monitorWork
  rw [flatMap_eq_nil h]
  exact ((Calm.updAll fun k => ⟨rfl, rfl, rfl, rfl⟩).trans (.forStations (.slipEvent b) _)).trans (.handOver _)

theorem Calm.linkWork (h : ∀ k, linkDetections b k = []) (s : State) : Calm s (linkWork b s) := by
  unfold Machine.linkWork
  rw [flatMap_eq_nil h]
  exact .updAll fun k => ⟨rfl, rfl, rfl, rfl⟩

theorem Calm.foldl {α : Type} {f : State → α → State} (h : ∀ t x, Calm t (f t x)) (l : List α) (s : State) : Calm s (l.foldl f s) := by
  induction l generalizing s with
  | nil => exact .refl s
  | cons x l ih => exact (h s x).trans (ih _)

theorem Calm.imbalanceWork (s : State) : Calm s (imbalanceWork s) := by
  refine Calm.trans (.foldl (fun t x => ?_) _ s) (.updAll fun k => ⟨rfl, rfl, rfl, rfl⟩)
  split_ifs
  · exact .raise _ t
  · exact .refl t

/-! ### The geometry checks (R26 to R30) -/

/-- What no check writes of a car: its corners, its limits and whether it is coupled. -/
def Car.fixed (c : Car) : Car := { c with warnRaised := false, lastTwist := none, lastStep := none, couplingSet := false }

/-- In `t` the cars stand as in `s` but for what the checks write, and every station at its lift. -/
structure SameGeometry (s t : State) : Prop where
  cars : t.cars.map Car.fixed = s.cars.map Car.fixed
  lift : ∀ k, (t.jack k).lift = (s.jack k).lift

theorem SameGeometry.refl (s : State) : SameGeometry s s := ⟨rfl, fun _ => rfl⟩

theorem SameGeometry.trans (h : SameGeometry s t) (g : SameGeometry t u) : SameGeometry s u :=
  ⟨g.cars.trans h.cars, fun k => (g.lift k).trans (h.lift k)⟩

theorem SameGeometry.car (h : SameGeometry s t) (i : Nat) : (t.cars[i]?).map Car.fixed = (s.cars[i]?).map Car.fixed := by
  rw [← List.getElem?_map, ← List.getElem?_map, h.cars]

theorem SameGeometry.twistOf (h : SameGeometry s t) (c : Car) : twistOf t c = Machine.twistOf s c := by
  simp only [twistOf_eq, cornerLift, h.lift]

theorem SameGeometry.stepBetween (h : SameGeometry s t) (c d : Car) : stepBetween t c d = Machine.stepBetween s c d := by
  simp only [stepBetween_eq, rearLift, frontLift, cornerLift, h.lift]

theorem twistHolds_fixed (i : Nat) (s : State) : twistHolds i s =
    ((s.cars[i]?).map Car.fixed).elim false fun c => beyond (twistOf s c) c.twistLimit := by
  rw [twistHolds_eq]
  cases s.cars[i]? <;> rfl

theorem stepHolds_fixed (i : Nat) (s : State) : stepHolds i s = ((s.cars[i]?).map Car.fixed).elim false fun c =>
    ((s.cars[i + 1]?).map Car.fixed).elim false fun d => c.coupled && beyond (stepBetween s c d) c.couplingLimit := by
  rw [stepHolds_eq]
  cases s.cars[i]? with
  | none => rfl
  | some c => cases s.cars[i + 1]? <;> rfl

theorem SameGeometry.twistHolds (h : SameGeometry s t) (i : Nat) : twistHolds i t = Machine.twistHolds i s := by
  rw [twistHolds_fixed, twistHolds_fixed, h.car]
  simp only [h.twistOf]

theorem SameGeometry.stepHolds (h : SameGeometry s t) (i : Nat) : stepHolds i t = Machine.stepHolds i s := by
  rw [stepHolds_fixed, stepHolds_fixed, h.car, h.car]
  simp only [h.stepBetween]

theorem SameGeometry.updCar {f : Car → Car} (h : ∀ c, (f c).fixed = c.fixed) (i : Nat) (s : State) : SameGeometry s (s.updCar i f) where
  cars := by
    refine List.ext_getElem? fun n => ?_
    show ((s.cars.modify i f).map Car.fixed)[n]? = _
    rw [List.getElem?_map, List.getElem?_map, List.getElem?_modify]
    cases s.cars[n]? with
    | none => rfl
    | some c =>
      simp only [Option.map_some]
      split_ifs
      · exact congrArg some (h c)
      · rfl
  lift := fun _ => rfl

theorem SameGeometry.of_jacks (hc : t.cars = s.cars) (hj : t.jacks = s.jacks) : SameGeometry s t where
  cars := by rw [hc]
  lift := fun k => by rw [show t.jack k = s.jack k from congrArg (fun p => p.get k) hj]

/-- The twist check of a car that is not twisted records its twist, and is calm. -/
theorem checkTwist_calm {i : Nat} (h : twistHolds i s = false) : Calm s (checkTwist i s) ∧ SameGeometry s (checkTwist i s) := by
  rw [twistHolds_eq] at h
  unfold checkTwist
  cases hc : s.cars[i]? with
  | none => exact ⟨.refl s, .refl s⟩
  | some c =>
    rw [hc] at h
    have h : beyond (twistOf s c) c.twistLimit = false := h
    simp only [h, Bool.false_eq_true, if_false]
    have hupd := SameGeometry.updCar (f := fun c' => { c' with
      lastTwist := twistOf s c, warnRaised := aboveWarn s.group.params c (twistOf s c) }) (fun _ => rfl) i s
    split_ifs
    · exact ⟨(Calm.updCar i _ s).trans (.raise _ _), hupd.trans (.of_jacks rfl rfl)⟩
    · exact ⟨.updCar i _ s, hupd⟩

/-- The check of a coupling within its limit records its step, and is calm. -/
theorem checkCoupling_calm {i : Nat} (h : stepHolds i s = false) : Calm s (checkCoupling i s) ∧ SameGeometry s (checkCoupling i s) := by
  unfold stepHolds at h
  unfold checkCoupling
  split
  · next c b hc hb =>
    rw [hc, hb] at h
    have h : beyond (stepBetween s c b) c.couplingLimit = false := h
    simp only [h, Bool.false_eq_true, if_false]
    exact ⟨.updCar i _ s, .updCar (f := fun c' => { c' with lastStep := stepBetween s c b, couplingSet := false }) (fun _ => rfl) i s⟩
  · exact ⟨.refl s, .refl s⟩

/-- No car is twisted beyond its limit, and no coupling stepped beyond its limit. -/
def GeometryFree (s : State) : Prop := ∀ i, twistHolds i s = false ∧ stepHolds i s = false

theorem SameGeometry.free (h : SameGeometry s t) (hs : GeometryFree s) : GeometryFree t := fun i => by
  rw [h.twistHolds, h.stepHolds]
  exact hs i

theorem geometryChecks_calm (h : GeometryFree s) : Calm s (geometryChecks s) := by
  unfold geometryChecks
  generalize List.range s.cars.length = l
  suffices key : ∀ t, Calm s t → SameGeometry s t → Calm s (l.foldl (fun t i => checkCoupling i (checkTwist i t)) t) from
    key s (.refl s) (.refl s)
  induction l with
  | nil => exact fun t ht _ => ht
  | cons i l ih =>
    intro t ht hg
    obtain ⟨h1, g1⟩ := checkTwist_calm (hg.free h i).1
    obtain ⟨h2, g2⟩ := checkCoupling_calm ((hg.trans g1).free h i).2
    exact ih _ ((ht.trans h1).trans h2) ((hg.trans g1).trans g2)

theorem Calm.geometryWork (h : geometryRuns b = true → GeometryFree s) : Calm s (geometryWork b s) := by
  unfold Machine.geometryWork
  split_ifs with hr
  · exact (geometryChecks_calm (h hr)).trans (.imbalanceWork _)
  · exact Calm.trans {} (.imbalanceWork _)

/-! ### The cycle start of a state that nothing is found in -/

theorem begun_eq_opened (hl : s.group.state ≠ .lockedOut) (k : Sta) : (begun s).jack k = s.opened.jack k := by
  have hg : (handOver (takeAtCycleStart s.opened)).group = s.opened.group := (handOver_group _).trans (takeAtCycleStart_group _)
  have hj : (handOver (takeAtCycleStart s.opened)).jack k = s.opened.jack k := by
    rw [handOver_jack]
    exact congrArg (fun p => p.get k) (takeAtCycleStart_jacks _)
  unfold begun lockoutWatch
  rw [if_neg (by rw [hg]; exact hl), hj]

/-- A cycle start that finds nothing up to the contact sequencer: its station's checks. -/
theorem monitorDetections_begun (hl : s.group.state ≠ .lockedOut) (h : TrackingKept s.group.params (s.jack k)) :
    monitorDetections (begun s) k = [] := by
  have hj := begun_eq_opened hl k
  refine monitorDetections_eq_nil ?_ ?_ ?_
  · rw [hj, opened_jack]
  · rw [hj, opened_jack]
  · rw [begun_group, hj, opened_jack]
    exact h

theorem linkDetections_begun (hl : s.group.state ≠ .lockedOut) (h : LoadKept s.group.state s.group.params (s.jack k)) :
    linkDetections (begun s) k = [] := by
  refine linkDetections_eq_nil ?_
  rw [begun_group, begun_eq_opened hl k, opened_jack]
  exact h

/-- The geometry of a state whose stations stand at the lifts `s` would latch is within its limits where that of `s` is. -/
theorem geometryFree_of_kept (h : GeometryKept s) (hc : t.cars = s.cars) (hl : ∀ k, (t.jack k).lift = (s.jack k).liveLift) :
    GeometryFree t := by
  obtain ⟨htwist, hstep⟩ := h
  have hcorner (o : Option Sta) : cornerLift t o = o.bind fun k => (s.jack k).liveLift := by
    unfold cornerLift
    simp only [hl]
  refine fun i => ⟨?_, ?_⟩
  · rw [twistHolds_eq, hc]
    cases hi : s.cars[i]? with
    | none => rfl
    | some c =>
      show beyond (twistOf t c) c.twistLimit = false
      rw [twistOf_eq, beyond_eq]
      simp only [hcorner]
      rw [Bool.eq_false_iff]
      intro hx
      simp only [Option.any_eq_true, Option.bind_eq_some_iff, Option.map_eq_some_iff, decide_eq_true_eq] at hx
      obtain ⟨x, ⟨fl, hfl, fr, hfr, rl, hrl, rr, hrr, rfl⟩, hx⟩ := hx
      have hmem {o : Option Sta} {x : Int} (h : ∃ k, o = some k ∧ (s.jack k).liveLift = some x) :
          x ∈ o.bind fun k => (s.jack k).liveLift := Option.bind_eq_some_iff.mpr h
      have := htwist c (List.mem_of_getElem? hi) fl (hmem hfl) fr (hmem hfr) rl (hmem hrl) rr (hmem hrr)
      omega
  · rw [stepHolds_eq, hc]
    cases hi : s.cars[i]? with
    | none => rfl
    | some c =>
      cases hd : s.cars[i + 1]? with
      | none => rfl
      | some d =>
        show (c.coupled && beyond (stepBetween t c d) c.couplingLimit) = false
        rw [stepBetween_eq, beyond_eq, Bool.eq_false_iff]
        intro hx
        simp only [rearLift, frontLift, hcorner, Bool.and_eq_true, Option.any_eq_true, Option.bind_eq_some_iff, Option.map_eq_some_iff,
          decide_eq_true_eq] at hx
        obtain ⟨hcoupled, x, ⟨r, hr, f, hf, rfl⟩, hx⟩ := hx
        have hmem : (c, d) ∈ s.cars.zip s.cars.tail :=
          List.mem_of_getElem? (List.getElem?_zip_eq_some.mpr ⟨hi, (List.getElem?_tail ..).trans hd⟩)
        have hkept : (r - f).natAbs ≤ c.couplingLimit := hstep (c, d) hmem hcoupled r hr f hf
        omega

/-- The sync unit's items and the plan a cycle start goes on from. -/
theorem begun_sync_plan (hr : s.pins.resetAsserted = false) (hu : exec .take s = .next u) :
    (begun s).sync = u.sync ∧ (begun s).plan = u.plan := by
  cases (exec_take hr).symm.trans hu
  have hl (t : State) : (lockoutWatch t).sync = t.sync ∧ (lockoutWatch t).plan = t.plan := by
    unfold lockoutWatch
    split_ifs <;> exact ⟨rfl, rfl⟩
  have htake : (takeAtCycleStart s.opened).sync = (takeAtCycleStart s).sync ∧
      (takeAtCycleStart s.opened).plan = (takeAtCycleStart s).plan := by
    have hstart (v w : State) (hy : w.sync = v.sync) (hp : w.plan = v.plan) (hg : w.group.params = v.group.params) :
        (startSegment w).sync = (startSegment v).sync ∧ (startSegment w).plan = (startSegment v).plan := by
      have hseg : w.segment = v.segment := by unfold State.segment; rw [hy, hp]
      have hlow : planLowNow w = planLowNow v := by unfold planLowNow; rw [hy, hp]
      cases hv : v.segment with
      | none =>
        unfold startSegment
        rw [hseg, hv]
        exact ⟨hy, hp⟩
      | some g =>
        rw [startSegment_eq hv, startSegment_eq (hseg.trans hv), hlow]
        unfold segmentStarted
        rw [hy, hp, hg]
        split_ifs <;> exact ⟨rfl, rfl⟩
    unfold takeAtCycleStart
    have hp : s.opened.plan = s.plan := rfl
    cases hc : s.plan.commit with
    | none =>
      simp only [hp, hc]
      exact ⟨rfl, trivial⟩
    | some kind =>
      cases kind with
      | replace =>
        simp only [hp, hc]
        split_ifs with h1 h2 h3
        · exact hstart _ _ rfl rfl rfl
        · exact absurd h1 h2
        · exact absurd h3 h1
        · exact ⟨rfl, rfl⟩
      | append =>
        simp only [hp, hc]
        split_ifs with h1 h2 h3
        · exact ⟨rfl, rfl⟩
        · exact absurd h1 h2
        · exact absurd h3 h1
        · exact ⟨rfl, hp⟩
  unfold begun
  rw [(hl _).1, (hl _).2, handOver_sync, handOver_plan, handOver_sync, handOver_plan]
  exact htake

theorem startSegment_ref (s : State) : (startSegment s).sync.ref = s.sync.ref ∧ (startSegment s).sync.descent = s.sync.descent := by
  have hkept (p : GroupParams) (g : Segment) (y : Sync) : (startedSync p g y).ref = y.ref ∧ (startedSync p g y).descent = y.descent := by
    rw [startedSync_eq]
    exact ⟨rfl, rfl⟩
  cases hg : s.segment with
  | none =>
    unfold startSegment
    rw [hg]
    exact ⟨rfl, rfl⟩
  | some g =>
    rw [startSegment_eq hg]
    split_ifs <;> exact hkept _ _ _

/-- The opening of a cycle start leaves the reference lift and the descent. -/
theorem begun_ref (s : State) : (begun s).sync.ref = s.sync.ref ∧ (begun s).sync.descent = s.sync.descent := by
  have hl (t : State) : (lockoutWatch t).sync = t.sync := by
    unfold lockoutWatch
    split_ifs <;> rfl
  unfold begun
  rw [hl, handOver_sync]
  show _ = s.opened.sync.ref ∧ _ = s.opened.sync.descent
  generalize s.opened = t
  unfold takeAtCycleStart
  split
  · split_ifs
    · exact startSegment_ref (takePlan .replace true t)
    · exact ⟨rfl, rfl⟩
  · split_ifs <;> exact ⟨rfl, rfl⟩
  · exact ⟨rfl, rfl⟩

theorem Jack.trims_iff (j : Jack) : j.trims = true ↔ j.record.state = .trimming ∨
    (j.record.state = .faulted ∧ ∃ m ∈ j.record.move, m.underFault = true ∧ m.op = .trim) := by
  unfold Jack.trims
  cases j.record.move <;> simp

/-- A cycle start makes the geometry checks where the statements say so. -/
theorem geometryRuns_begun (s : State) : geometryRuns (begun s) = true ↔ ChecksGeometry s := by
  have htrims : anyJack (begun s) Jack.trims = true ↔ ∃ k, (s.jack k).record.state = .trimming ∨
      ((s.jack k).record.state = .faulted ∧ ∃ m ∈ (s.jack k).record.move, m.underFault = true ∧ m.op = .trim) := by
    unfold anyJack
    rw [List.any_eq_true]
    constructor
    · rintro ⟨k, -, h⟩
      rw [Jack.trims_iff, begun_record] at h
      exact ⟨k, h⟩
    · rintro ⟨k, h⟩
      refine ⟨k, Sta.mem_all k, ?_⟩
      rw [Jack.trims_iff, begun_record]
      exact h
  obtain ⟨href, hdesc⟩ := begun_ref s
  unfold geometryRuns ChecksGeometry beforeRelease
  rw [href, hdesc, begun_group, Bool.or_eq_true, htrims]
  cases s.group.state <;> simp [or_comm]

/-! ### The checks of a cycle start that finds nothing -/

/-- The rate and the rate-ceiling mark of every station cleared, on what a cycle start opens with. -/
def cleared (s : State) : State := clearRates (begun s)

/-- The tracking monitor and the load link that find nothing. -/
theorem Calm.watched (hl : s.group.state ≠ .lockedOut) (hm : ∀ k, TrackingKept s.group.params (s.jack k))
    (hk : ∀ k, LoadKept s.group.state s.group.params (s.jack k)) :
    Calm (cleared s) (Machine.linkWork (begun s) (Machine.monitorWork (begun s) (cleared s))) :=
  (Calm.monitorWork (fun k => monitorDetections_begun hl (hm k)) _).trans (.linkWork (fun k => linkDetections_begun hl (hk k)) _)

theorem linkWork_cars (b s : State) : (linkWork b s).cars = s.cars := by
  unfold linkWork
  rw [takeDetections_cars]
  rfl

theorem monitorWork_cars (b s : State) : (monitorWork b s).cars = s.cars := by
  unfold monitorWork
  rw [takeDetections_cars, handOver_cars]
  exact forStations_keeps (P := fun t => t.cars = s.cars) (fun k t ht => by
    unfold slipEvent raiseSlip
    split
    · split_ifs <;> exact ht
    · exact ht) rfl

theorem begun_cars (s : State) : (begun s).cars = s.cars := by
  have hl (t : State) : (lockoutWatch t).cars = t.cars := by
    unfold lockoutWatch
    split_ifs <;> rfl
  have hstart (t : State) : (startSegment t).cars = t.cars := by
    unfold startSegment
    split
    · rfl
    · simp only
      split_ifs <;> rfl
  unfold begun
  rw [hl, handOver_cars]
  show _ = s.opened.cars
  generalize s.opened = t
  unfold takeAtCycleStart
  split
  · split_ifs
    · exact hstart _
    · rfl
  · split_ifs <;> rfl
  · rfl

/-- The lift a cycle start latches. -/
theorem begun_lift (s : State) (k : Sta) : ((begun s).jack k).lift = (s.jack k).liveLift := by
  unfold Jack.lift Jack.latchedHeight
  rw [begun_latch, begun_record]
  rfl

theorem cleared_jack (s : State) (k : Sta) : (cleared s).jack k =
    { (begun s).jack k with rate := 0, gen := { ((begun s).jack k).gen with ceiling := false } } := updAll_jack _ _ _

theorem Calm.lift (h : Calm s t) (k : Sta) : (t.jack k).lift = (s.jack k).lift := by
  unfold Jack.lift Jack.latchedHeight
  rw [h.record, h.pos]

/-- Where the contact sequencer has no work, and nothing is found, the checks are calm. -/
theorem Calm.blockWork (hl : s.group.state ≠ .lockedOut) (he : s.group.state ≠ .engaging)
    (hd : s.group.state = .landing → s.sync.descent = true) (hm : ∀ k, TrackingKept s.group.params (s.jack k))
    (hk : ∀ k, LoadKept s.group.state s.group.params (s.jack k)) (hg : ChecksGeometry s → GeometryKept s) :
    Calm (cleared s) (Machine.blockWork (begun s)) := by
  have hseq (t : State) : sequencerWork (begun s) t = t := by
    have hg : (begun s).group.state = s.group.state := by rw [begun_group]
    unfold sequencerWork
    split
    · next h => exact absurd (hg.symm.trans h) he
    · next h => rw [(begun_ref s).2, hd (hg.symm.trans h)]; rfl
    all_goals rfl
  have hwatch := Calm.watched hl hm hk
  unfold Machine.blockWork
  rw [hseq, ← cleared]
  have hcalm := hwatch.trans (.handOver _)
  refine (hcalm.trans (.geometryWork fun hr => ?_)).trans (.handOver _)
  refine geometryFree_of_kept (hg ((geometryRuns_begun s).mp hr)) ?_ fun k => ?_
  · rw [handOver_cars, linkWork_cars, monitorWork_cars]
    exact begun_cars s
  · rw [hcalm.lift, ← begun_lift]
    unfold Jack.lift Jack.latchedHeight
    rw [cleared_jack]

end Sys2Proof.Machine

/-! PROOF. The computation of a cycle start that finds nothing: its rates and its reference (O13, O34, O52). -/

namespace Sys2Proof.Machine

-- One theorem after another, as in the tests: a thread each for this many proofs would pass the memory limit.
set_option Elab.async false

variable {s t u w x r : State} {k : Sta}

/-! ### The end of a cycle start (R186, R106, R50) -/

/-- The stream and the brakes leave the group, the reference, the plan and every station but for its brake. -/
theorem closed_same (c : State) : (settleBrakes (streamWork c)).group = c.group ∧ (settleBrakes (streamWork c)).sync = c.sync ∧
    (settleBrakes (streamWork c)).plan = c.plan ∧
    ∀ k, ∃ b, (settleBrakes (streamWork c)).jack k = { c.jack k with gen := { (c.jack k).gen with brake := b } } := by
  refine ⟨streamWork_group c, streamWork_sync c, streamWork_plan c, fun k =>
    ⟨settledBrake (streamWork c).group.permit (streamWork c).group.state ((streamWork c).jack k), ?_⟩⟩
  rw [settleBrakes_jack, show (streamWork c).jack k = c.jack k from congrArg (fun p => p.get k) (streamWork_jacks c)]

/-- A cycle start at whose end no stop passes to STOPPED. -/
theorem cycleWork_of_unstopped (hslot : s.group.slot = none)
    (h : ¬ ((computeCycle (blockWork (begun s))).group.state = .stopping ∧ forcedEarlier (blockWork (begun s)) = true)) :
    cycleWork s = settleBrakes (streamWork (computeCycle (blockWork (begun s)))) := by
  rw [cycleWork_eq, openCycle_of_none hslot, cycleEnd]
  obtain ⟨⟨h1, h2, -⟩, -⟩ | ⟨-, e⟩ := stopTest_cases (forcedEarlier (blockWork (begun s))) (computeCycle (blockWork (begun s)))
  · exact absurd ⟨h1, h2⟩ h
  · rw [e]

/-! ### Rates handed (R132 to R136) -/

/-- The brake is left open. -/
theorem Generator.Handed.brake {rate : Int} {kStep : Nat} {g h : Generator} (hh : Generator.Handed rate kStep g h) (b : Brake) :
    Generator.Handed rate kStep g { h with brake := b } := by
  unfold Generator.Handed at *
  obtain ⟨run, divisor, dir, pending, remaining, ceiling, brake, stepHigh, dirHigh⟩ := g
  cases run <;> rcases pending with - | (_ | _ | _) <;> simp only at hh ⊢ <;> (try split_ifs at hh ⊢) <;> rw [hh]

/-- What a generator becomes does not depend on the rate-ceiling mark it had. -/
theorem Generator.hand_handed_of_mark (rate : Int) (kStep : Nat) (g : Generator) (c : Bool) : Generator.Handed rate kStep g
    ({ ({ g with ceiling := c } : Generator) with ceiling := heldAtCeiling rate kStep }.hand (convertRate rate kStep)) :=
  Generator.hand_handed rate kStep g

theorem rateOf_congr {a b : Jack} (p : GroupParams) (d : RefDir) (v : Nat) (he : b.err = a.err)
    (hr : b.record.settings.rMax = a.record.settings.rMax) : rateOf p d v b = rateOf p d v a := by
  unfold rateOf correction
  rw [he, hr]

/-- The rates of a computation that is not forced, station by station. -/
theorem handRates_jack (v : Nat) (s : State) (k : Sta) : (handRates v s).jack k =
    if syncCommands s = true ∧ (s.jack k).record.state = .engaged then
      (s.jack k).handed (generatorsHeld s) (rateOf s.group.params s.sync.dir v (s.jack k)) else s.jack k := by
  unfold handRates
  by_cases hc : syncCommands s = true
  · rw [if_pos hc]
    refine (forStations_jack_of (P := fun t => t.group = s.group) (g := fun _ j => if j.isIn .engaged = true then
        j.handed (generatorsHeld s) (rateOf s.group.params s.sync.dir v j) else j) (fun k t ht => ⟨?_, fun i => ?_⟩) rfl k).trans ?_
    · split_ifs
      · exact ht
      · exact ht
    · by_cases hi : i = k
      · subst hi
        rw [if_pos rfl]
        split_ifs
        · rw [handRate_jack, if_pos rfl, generatorsHeld_congr ht]
        · rfl
      · rw [if_neg hi]
        split_ifs
        · rw [handRate_jack, if_neg hi]
        · rfl
    · exact if_congr (by simp [hc]) rfl rfl
  · rw [if_neg hc, if_neg fun h => hc h.1]

theorem handRates_rest (v : Nat) (s : State) : (handRates v s).group = s.group ∧ (handRates v s).sync = s.sync ∧
    (handRates v s).plan = s.plan := by
  unfold handRates
  split_ifs
  · exact forStations_handRate_keeps (c := fun k t => (t.jack k).isIn .engaged) (r := fun k t => rateOf s.group.params s.sync.dir v (t.jack k))
      (P := fun t => t.group = s.group ∧ t.sync = s.sync ∧ t.plan = s.plan) (fun k r t h => h) ⟨rfl, rfl, rfl⟩
  · exact ⟨rfl, rfl, rfl⟩

/-! ### The state a computation finds -/

/-- What the computation of a cycle start on `s` finds once the errors are formed, where no earlier check found anything: every station with
its error, its record with the pending offset taken, its generator without its mark, and no commanded rate. -/
structure Computing (s u x : State) : Prop where
  sync : x.sync = u.sync
  plan : x.plan = u.plan
  group : x.group = { s.group with cycle := s.group.cycle + 1 }
  err : ∀ k, (x.jack k).err = errorAt s k
  record : ∀ k, (x.jack k).record = (s.jack k).recordAtStart
  gen : ∀ k, (x.jack k).gen = { (s.jack k).gen with ceiling := false }
  rate : ∀ k, (x.jack k).rate = 0

theorem errorOf_begun (h : Calm (cleared s) w) (k : Sta) : errorOf w.sync.ref (w.jack k) = errorAt s k := by
  have hsync : w.sync.ref = s.sync.ref := (congrArg Sync.ref h.sync).trans (begun_ref s).1
  have hl : (w.jack k).latchedHeight = (s.jack k).liveHeight := by
    unfold Jack.latchedHeight
    rw [h.record, h.pos, cleared_jack, begun_latch, begun_record]
    rfl
  unfold errorOf errorAt Jack.liveLift
  rw [hl, hsync, h.record, cleared_jack, begun_record]
  show (match (s.jack k).record.contact with | some c => _ | none => _) = _
  cases (s.jack k).record.contact <;> rfl

theorem Calm.computing (h : Calm (cleared s) w) (hl : s.group.state ≠ .lockedOut) (hr : s.pins.resetAsserted = false)
    (hu : exec .take s = .next u) : Computing s u (formErrors w) := by
  have hj (k : Sta) : (formErrors w).jack k = { w.jack k with err := errorOf w.sync.ref (w.jack k) } := formErrors_jack w k
  obtain ⟨hsync, hplan⟩ := begun_sync_plan hr hu
  refine ⟨h.sync.trans hsync, h.plan.trans hplan, h.group.trans (begun_group s), fun k => ?_, fun k => ?_, fun k => ?_, fun k => ?_⟩
  · rw [hj]
    exact errorOf_begun h k
  · rw [hj]
    show (w.jack k).record = _
    rw [h.record, cleared_jack, begun_record]
  · rw [hj]
    show (w.jack k).gen = _
    rw [h.gen, cleared_jack, begun_eq_opened hl, opened_jack]
  · rw [hj]
    show (w.jack k).rate = _
    rw [h.rate, cleared_jack]

/-- The rates handed to the stations of such a state, the reference's speed `v` and direction those left (R136). -/
theorem Computing.commanded (h : Computing s u x) (hj : r.jacks = x.jacks) (hp : r.group.params = s.group.params)
    (hheld : generatorsHeld r = false) (hc : syncCommands r = true) (v : Nat)
    (ht : ∀ k, ∃ b, (t.jack k) = { (handRates v r).jack k with gen := { ((handRates v r).jack k).gen with brake := b } }) :
    Commanded s t r.sync.dir v := by
  intro k
  obtain ⟨b, htk⟩ := ht k
  have hjk : r.jack k = x.jack k := congrArg (fun p => p.get k) hj
  have hstate : (x.jack k).record.state = (s.jack k).record.state := by rw [h.record]; rfl
  rw [handRates_jack, hjk, hp, hheld] at htk
  by_cases he : (s.jack k).record.state = .engaged
  · rw [if_pos ⟨hc, hstate.trans he⟩] at htk
    have hrate : rateOf s.group.params r.sync.dir v (x.jack k) =
        rateOf s.group.params r.sync.dir v { s.jack k with err := errorAt s k } :=
      rateOf_congr _ _ _ (h.err k) (by rw [h.record]; rfl)
    rw [hrate] at htk
    refine ⟨by rw [htk]; exact h.err k, by rw [htk]; exact h.record k, ?_⟩
    rw [if_pos he]
    refine ⟨by rw [htk]; rfl, ?_⟩
    have hk : (x.jack k).record.settings.kStep = (s.jack k).record.settings.kStep := by rw [h.record]; rfl
    rw [htk]
    unfold Jack.handed
    simp only [Bool.false_eq_true, if_false]
    rw [h.gen, hk]
    exact (Generator.hand_handed_of_mark _ _ _ false).brake b
  · rw [if_neg (fun hx => he (hstate.symm.trans hx.2))] at htk
    refine ⟨by rw [htk]; exact h.err k, by rw [htk]; exact h.record k, ?_⟩
    rw [if_neg he]
    refine ⟨by rw [htk]; exact h.rate k, ?_⟩
    rw [htk]
    show { (x.jack k).gen with brake := b } = _
    rw [h.gen]

/-! ### The computation that is neither forced nor a wait cycle -/

/-- The stations that the trip check finds within the band. -/
theorem Computing.tripDetections (h : Computing s u (formErrors w))
    (ht : s.group.state ∈ [GroupState.poised, .moving, .holding, .stopping] → ∀ k, (s.jack k).record.state = .engaged →
      (errorAt s k).natAbs ≤ 100 * s.group.params.tripBand) : tripDetections (formErrors w) = [] := by
  unfold Machine.tripDetections
  rw [h.group]
  split_ifs with hc
  · have hs : s.group.state ∈ [GroupState.poised, .moving, .holding, .stopping] := by
      revert hc
      show tripChecked s.group.state = true → _
      cases s.group.state <;> simp [tripChecked]
    rw [List.map_eq_nil_iff, List.filter_eq_nil_iff]
    intro k _
    have := ht hs k
    unfold trips
    rw [h.err k]
    simp only [Bool.and_eq_true, Jack.isIn_eq_true, decide_eq_true_eq, not_and, not_lt]
    rw [h.record]
    exact this
  · rfl

/-- The state whose reference a computation that is neither forced nor a wait cycle moves. -/
def unwaited (s : State) : State := setWait 0 false (formErrors (blockWork (begun s)))

theorem computation_unforced (hf : forcedAtStart w = false) (ht : tripDetections (formErrors w) = [])
    (hw : isWaitCycle (formErrors w) = false) : computation w = handOver (handRates
      (referenceStage (setWait 0 false (formErrors w))).moved (referenceStage (setWait 0 false (formErrors w))).state) := by
  unfold computation
  simp only [ht, hf, List.isEmpty_nil, Bool.not_true, Bool.or_self, Bool.false_eq_true, if_false]
  show (if isWaitCycle (formErrors w) = true then _ else _) = _
  rw [if_neg (by simp [hw])]
  rfl

/-- No station lags, where none is behind in the direction of travel (R130). -/
theorem Computing.notWaiting (h : Computing s u x)
    (hl : waitApplies x = true → ∀ k, (s.jack k).record.state = .engaged →
      u.sync.dir.sign * errorAt s k ≤ 100 * (s.group.params.holdBand : Int)) : isWaitCycle x = false := by
  unfold isWaitCycle
  rw [Bool.and_eq_false_iff]
  by_cases ha : waitApplies x = true
  · refine .inr ?_
    unfold anyJack
    rw [List.any_eq_false]
    intro k _
    have := hl ha k
    unfold lags
    rw [h.err k, h.sync, h.group]
    simp only [Bool.and_eq_true, Jack.isIn_eq_true, decide_eq_true_eq, not_and, not_lt]
    rw [h.record]
    exact this
  · exact .inl (by simpa using ha)

/-- What a calm cycle start begins its computation with (R119, R120, R135). -/
theorem computing_of_undetected (hr : s.pins.resetAsserted = false) (hu : exec .take s = .next u) (h : Undetected s)
    (hl : s.group.state ≠ .lockedOut) (he : s.group.state ≠ .engaging) (hd : s.group.state = .landing → s.sync.descent = true) :
    Computing s u (formErrors (blockWork (begun s))) ∧ tripDetections (formErrors (blockWork (begun s))) = [] ∧
      Calm (cleared s) (blockWork (begun s)) := by
  obtain ⟨hm, hk, hg, ht⟩ := h
  have hcalm := Calm.blockWork hl he hd hm hk hg
  have hc := hcalm.computing hl hr hu
  exact ⟨hc, hc.tripDetections ht, hcalm⟩

/-- The end of a cycle start whose computation, on what the checks left in `w`, hands the rates of `r`. -/
theorem cycleEnd_unforced {w r : State} {v : Nat} (hc : computation w = handOver (handRates v r))
    (hend : w.group.state = .landing → w.sync.descent = true → r.sync.descent = true)
    (hstop : r.group.state = .stopping → forcedEarlier w = false) :
    let c := stopTest (forcedEarlier w) (computeCycle w)
    c.group = r.group ∧ c.sync = r.sync ∧ c.plan = r.plan ∧ ∀ k, c.jack k = (handRates v r).jack k := by
  intro c
  obtain ⟨hg, hy, hp⟩ := handRates_rest v r
  have hgroup : (computation w).group = r.group := by rw [hc, handOver_group, hg]
  have hsync : (computation w).sync = r.sync := by rw [hc, handOver_sync, hy]
  have hcomp : computeCycle w = computation w := by
    unfold computeCycle
    refine if_neg fun ⟨h1, h2, h3⟩ => ?_
    rw [hsync, hend h1 h2] at h3
    cases h3
  have hce : c = computation w := by
    obtain ⟨⟨h1, h2, -⟩, -⟩ | ⟨-, e⟩ := stopTest_cases (forcedEarlier w) (computeCycle w)
    · rw [hcomp, hgroup] at h1
      rw [hstop h1] at h2
      cases h2
    · exact e.trans hcomp
  rw [hce]
  exact ⟨hgroup, hsync, by rw [hc, handOver_plan, hp], fun k => by rw [hc, handOver_jack]⟩

/-- The whole cycle start, from its computation on. -/
theorem cycleWork_unforced {r : State} {v : Nat} (hslot : s.group.slot = none)
    (hc : computation (blockWork (begun s)) = handOver (handRates v r))
    (hend : (blockWork (begun s)).group.state = .landing → (blockWork (begun s)).sync.descent = true → r.sync.descent = true)
    (hstop : r.group.state = .stopping → forcedEarlier (blockWork (begun s)) = false) :
    let t := cycleWork s
    t.group = r.group ∧ t.sync = r.sync ∧ t.plan = r.plan ∧
      ∀ k, ∃ b, t.jack k = { (handRates v r).jack k with gen := { ((handRates v r).jack k).gen with brake := b } } := by
  intro t
  obtain ⟨hg, hy, hp, hj⟩ := cycleEnd_unforced hc hend hstop
  have ht : t = settleBrakes (streamWork (cycleEnd (begun s))) := (cycleWork_eq s).trans (by rw [openCycle_of_none hslot])
  rw [ht, cycleEnd]
  obtain ⟨h1, h2, h3, h4⟩ := closed_same (stopTest (forcedEarlier (blockWork (begun s))) (computeCycle (blockWork (begun s))))
  refine ⟨h1.trans hg, h2.trans hy, h3.trans hp, fun k => ?_⟩
  obtain ⟨b, hb⟩ := h4 k
  exact ⟨b, by rw [hb, hj]⟩

end Sys2Proof.Machine

/-! PROOF. CYCLE_START moves the reference and hands every engaged station its rate (O52). -/

namespace Sys2Proof.Machine

-- One theorem after another, as in the tests: a thread each for this many proofs would pass the memory limit.
set_option Elab.async false

variable {s t u w x : State} {k : Sta} {g : Segment} {y : Sync} {v : Nat}

/-! ### The state whose reference is moved -/

/-- The state of a calm computation before stage 4. -/
structure Unwaited (s u x : State) : Prop where
  sync : x.sync = { u.sync with waiting := false }
  plan : x.plan = u.plan
  group : x.group = { s.group with cycle := s.group.cycle + 1, waitCount := 0 }

theorem Computing.setWait (h : Computing s u x) : Unwaited s u (Machine.setWait 0 false x) where
  sync := by
    show { x.sync with waiting := false } = _
    rw [h.sync]
  plan := h.plan
  group := by
    show { x.group with waitCount := 0 } = _
    rw [h.group]

theorem Unwaited.segment (h : Unwaited s u x) : x.segment = u.segment := by
  unfold State.segment
  rw [h.plan, h.sync]

/-- A reference that goes on in a calm cycle start: the rest is kept, and every engaged station receives its rate. -/
theorem reference_goes_on (hc : Computing s u (formErrors (blockWork (begun s)))) (hslot : s.group.slot = none) (hp : s.group.permit = true)
    (hcomp : computation (blockWork (begun s)) = handOver (handRates
      (referenceStage (unwaited s)).moved (referenceStage (unwaited s)).state))
    (hstage : referenceStage (unwaited s) = { state := { unwaited s with sync := y }, moved := v })
    (hcommand : s.group.state ∈ [GroupState.poised, .moving, .holding, .stopping] ∨ (s.group.state = .landing ∧ y.descent = true))
    (hforced : s.group.state = .stopping → s.group.ratesForced = false) :
    (cycleWork s).plan = u.plan ∧ (cycleWork s).group = { s.group with cycle := s.group.cycle + 1, waitCount := 0 } ∧
      (cycleWork s).sync = y ∧ Commanded s (cycleWork s) y.dir v := by
  have hx : Unwaited s u (unwaited s) := hc.setWait
  have hjacks : (unwaited s).jacks = (formErrors (blockWork (begun s))).jacks := setWait_jacks ..
  have hwg : (blockWork (begun s)).group = { s.group with cycle := s.group.cycle + 1 } :=
    (formErrors_group _).symm.trans hc.group
  have hend := cycleWork_unforced hslot hcomp
  generalize unwaited s = x at hx hjacks hend hstage
  rw [hstage] at hend
  obtain ⟨h1, h2, h3, h4⟩ := hend (fun h _ => by
      rw [hwg] at h
      obtain hs | hs := hcommand
      · rw [show s.group.state = .landing from h] at hs
        simp at hs
      · exact hs.2) (fun h => by
      have h : x.group.state = .stopping := h
      rw [hx.group] at h
      unfold forcedEarlier
      rw [hwg]
      show ((s.group.state == .stopping) && s.group.ratesForced) = false
      rw [hforced h, Bool.and_false])
  refine ⟨h3.trans hx.plan, h1.trans hx.group, h2, ?_⟩
  refine hc.commanded (r := { x with sync := y }) hjacks ?_ ?_ ?_ v h4
  · show x.group.params = _
    rw [hx.group]
  · unfold generatorsHeld
    show (!x.group.permit || x.group.state == .lockedOut) = false
    rw [hx.group]
    show (!s.group.permit || s.group.state == .lockedOut) = false
    rw [hp]
    obtain hs | ⟨hs, -⟩ := hcommand
    · simp only [List.mem_cons, List.not_mem_nil, or_false] at hs
      rcases hs with h | h | h | h <;> simp [h]
    · simp [hs]
  · have hstate : x.group.state = s.group.state := by rw [hx.group]
    unfold syncCommands
    simp only
    rw [hstate]
    obtain hs | ⟨hs, hd⟩ := hcommand
    · simp only [List.mem_cons, List.not_mem_nil, or_false] at hs
      rcases hs with h | h | h | h <;> simp [h]
    · simp [hs, hd]

/-- What a calm cycle start with its reference moving asks of the group it finds, in the words of the statement: a state that is commanded, a
controlled stop that is under way, and no station that lags while the wait rule applies. -/
structure Movable (s u : State) : Prop where
  state : s.group.state ∈ [GroupState.poised, .moving, .holding, .stopping] ∨ (s.group.state = .landing ∧ s.sync.descent = true)
  ramp : s.group.state = .stopping → s.group.cause = .command ∧ s.group.ratesForced = false ∧ 0 < u.sync.speed
  unlagged : (∃ g, s.group.state = .moving ∧ u.segment = some g ∧ g.kind = .move) ∨ s.group.state = .stopping →
    ∀ k, (s.jack k).record.state = .engaged → u.sync.dir.sign * errorAt s k ≤ 100 * (s.group.params.holdBand : Int)

theorem Movable.notLocked (h : Movable s u) : s.group.state ≠ .lockedOut ∧ s.group.state ≠ .engaging ∧
    (s.group.state = .landing → s.sync.descent = true) := by
  have hs := h.state
  refine ⟨fun e => ?_, fun e => ?_, fun e => ?_⟩
  · rw [e] at hs
    simp at hs
  · rw [e] at hs
    simp at hs
  · rw [e] at hs
    simpa using hs

/-- The wait rule applies to what the computation finds only where the statement has it apply (R130). -/
theorem Computing.waitApplies (h : Computing s u x) (hw : waitApplies x = true) :
    (∃ g, s.group.state = .moving ∧ u.segment = some g ∧ g.kind = .move) ∨ s.group.state = .stopping := by
  have hseg : x.segment = u.segment := by
    unfold State.segment
    rw [h.plan, h.sync]
  have hstate : x.group.state = s.group.state := by rw [h.group]
  unfold Machine.waitApplies moveUnderWay at hw
  rw [hstate, hseg] at hw
  split at hw
  · next hs =>
    refine .inl ?_
    cases hg : u.segment with
    | none => simp [hg] at hw
    | some g =>
      rw [hg] at hw
      simp only [Bool.and_eq_true, beq_iff_eq] at hw
      exact ⟨g, hs, rfl, hw.1.2⟩
  · next hs => exact .inr hs
  · cases hw

/-- The computation of a calm cycle start that moves the reference is neither forced nor a wait cycle. -/
theorem Movable.computation (h : Movable s u) (hc : Computing s u (formErrors (blockWork (begun s))))
    (ht : tripDetections (formErrors (blockWork (begun s))) = []) : computation (blockWork (begun s)) = handOver (handRates
      (referenceStage (unwaited s)).moved (referenceStage (unwaited s)).state) := by
  refine computation_unforced ?_ ht (hc.notWaiting fun hw => h.unlagged (hc.waitApplies hw))
  have hg := (formErrors_group _).symm.trans hc.group
  have hy : (blockWork (begun s)).sync = u.sync := (formErrors_sync _).symm.trans hc.sync
  have hr := h.ramp
  unfold forcedAtStart faultStopUnderWay
  rw [hg, hy]
  by_cases hs : s.group.state = .stopping
  · obtain ⟨h1, h2, h3⟩ := hr hs
    simp [hs, h1, Nat.pos_iff_ne_zero.mp h3]
  · simp [hs]

/-- A calm cycle start whose reference goes on. -/
theorem Movable.goesOn (h : Movable s u) (hr : s.pins.resetAsserted = false) (hslot : s.group.slot = none) (hp : s.group.permit = true)
    (hund : Undetected s) (hu : exec .take s = .next u)
    (hstage : ∀ x, Unwaited s u x → referenceStage x = { state := { x with sync := y }, moved := v })
    (hdesc : s.group.state = .landing → y.descent = true) :
    (cycleWork s).plan = u.plan ∧ (cycleWork s).group = { s.group with cycle := s.group.cycle + 1, waitCount := 0 } ∧
      (cycleWork s).sync = y ∧ Commanded s (cycleWork s) y.dir v := by
  obtain ⟨hl, he, hd⟩ := h.notLocked
  obtain ⟨hc, ht, -⟩ := computing_of_undetected hr hu hund hl he hd
  exact reference_goes_on hc hslot hp (h.computation hc ht) (hstage _ hc.setWait) (h.state.imp id fun hs => ⟨hs.1, hdesc hs.1⟩)
    fun hs => (h.ramp hs).2.1

/-! ### Steps of the reference (R123, R124, R127) -/

/-- The sign of a direction, as the statements write it. -/
theorem RefDir.sign_eq (d : RefDir) : d.sign = match d with | .up => 1 | .down => -1 | .none => 0 := by cases d <;> rfl

/-- A step in the direction of travel goes on by the speed chosen. -/
theorem refStep_ahead {top target : Int} {cruise a : Nat} {r : Ref} (h : 0 < r.dir.sign * (target - r.lift)) :
    refStep top target cruise a r = { r with
      lift := r.lift + r.dir.sign * chooseSpeed a cruise r.speed (r.dir.sign * (target - r.lift)).toNat
      speed := chooseSpeed a cruise r.speed (r.dir.sign * (target - r.lift)).toNat } := by
  unfold refStep
  exact if_pos h

/-- With the target behind and a speed above 0, it slows. -/
theorem refStep_behind {top target : Int} {cruise a : Nat} {r : Ref} (h : r.dir.sign * (target - r.lift) < 0) (hv : 0 < r.speed) :
    refStep top target cruise a r = moveBounded top r.lift r.dir (r.speed - a) := by
  unfold refStep
  simp only
  rw [if_neg (by omega), if_pos h, if_pos hv]

/-- With the target behind and at rest, it turns. -/
theorem refStep_turned {top target : Int} {cruise a : Nat} {r : Ref} (h : r.dir.sign * (target - r.lift) < 0) (hv : r.speed = 0) :
    refStep top target cruise a r =
      { lift := r.lift + r.dir.reverse.sign * chooseSpeed a cruise 0 (-(r.dir.sign * (target - r.lift))).toNat
        speed := chooseSpeed a cruise 0 (-(r.dir.sign * (target - r.lift))).toNat
        dir := r.dir.reverse } := by
  unfold refStep
  simp only
  rw [if_neg (by omega), if_pos h, if_neg (by omega)]

/-- At its target, it rests. -/
theorem refStep_there {top target : Int} {cruise a : Nat} {r : Ref} (h : r.dir.sign * (target - r.lift) = 0) :
    refStep top target cruise a r = { r with speed := 0 } := by
  unfold refStep
  simp only
  rw [if_neg (by omega), if_neg (by omega)]

theorem RefDir.reverse_sign (d : RefDir) : d.reverse.sign = -d.sign := by cases d <;> rfl

theorem RefDir.sign_mul_self {d : RefDir} {x : Int} (h : d.sign * x ≠ 0) (z : Int) : d.sign * (d.sign * z) = z := by
  cases d
  · simp [RefDir.sign]
  · simp [RefDir.sign]
  · simp [RefDir.sign] at h

/-- The slowing step of R124 and R127, as the statements split it. -/
theorem moveBounded_cases (top lift : Int) (d : RefDir) (v : Nat) :
    (lift + d.sign * v < 0 → moveBounded top lift d v = { lift := 0, speed := 0, dir := d }) ∧
    (0 ≤ lift + d.sign * v → top < lift + d.sign * v → moveBounded top lift d v = { lift := top, speed := 0, dir := d }) ∧
    (0 ≤ lift + d.sign * v → lift + d.sign * v ≤ top → moveBounded top lift d v = { lift := lift + d.sign * v, speed := v, dir := d }) := by
  unfold moveBounded
  simp only
  refine ⟨fun h => if_pos h, fun h h' => ?_, fun h h' => ?_⟩
  · rw [if_neg (by omega), if_pos h']
  · rw [if_neg (by omega), if_neg (by omega)]

/-! ### Stage 4, case by case -/

/-- What the statements say of a reference that goes on to `r`. -/
def GoesOn (s u t : State) (r : Ref) : Prop :=
  (t.plan = u.plan ∧ t.group = { s.group with cycle := s.group.cycle + 1, waitCount := 0 }) ∧
    t.sync = { u.sync with ref := r.lift, speed := r.speed, dir := r.dir, waiting := false } ∧ Commanded s t r.dir r.speed

/-- A stage 4 that does no more than move the reference. -/
theorem Movable.goesOn_ref {r : Ref} (h : Movable s u) (hr : s.pins.resetAsserted = false) (hslot : s.group.slot = none)
    (hp : s.group.permit = true) (hund : Undetected s) (hu : exec .take s = .next u)
    (hstage : ∀ x, Unwaited s u x → referenceStage x = { state := setRef r x, moved := r.speed })
    (hdesc : s.group.state = .landing → u.sync.descent = true) : GoesOn s u (cycleWork s) r := by
  obtain ⟨h1, h2, h3, h4⟩ := h.goesOn hr hslot hp hund hu
    (y := { u.sync with ref := r.lift, speed := r.speed, dir := r.dir, waiting := false }) (v := r.speed) (fun x hx => by
      rw [hstage x hx]
      unfold setRef
      rw [hx.sync]) hdesc
  exact ⟨⟨h1, h2⟩, h3, h4⟩

/-- With a MOVE under way that the step does not complete (R123 to R125). -/
theorem referenceStage_move {r : Ref} (hx : Unwaited s u x) (hs : s.group.state = .moving) (hseg : u.segment = some g) (hk : g.kind = .move)
    (hr : refStep (refTop s.group.params) (effectiveTarget s.group.params g) (effectiveCruise s.group.params g) g.accel u.sync.toRef = r)
    (hd : remainingDistance (effectiveTarget s.group.params g) r ≠ 0) :
    referenceStage x = { state := setRef r x, moved := r.speed } := by
  have hseg := hx.segment.trans hseg
  have hstate : x.group.state = .moving := by rw [hx.group]; exact hs
  have hparams : x.group.params = s.group.params := by rw [hx.group]
  have href : x.sync.toRef = u.sync.toRef := by rw [hx.sync]; rfl
  unfold referenceStage
  rw [hstate, hseg]
  simp only [hk]
  unfold moveStep
  simp only [hparams, href, hr]
  rw [if_neg hd]

/-- The ramp of a controlled stop (R127). -/
theorem referenceStage_ramp (hx : Unwaited s u x) (hs : s.group.state = .stopping) (hc : s.group.cause = .command)
    (hseg : u.segment = some g) : referenceStage x =
      { state := setRef (moveBounded (refTop s.group.params) u.sync.ref u.sync.dir (u.sync.speed - g.accel)) x
        moved := (moveBounded (refTop s.group.params) u.sync.ref u.sync.dir (u.sync.speed - g.accel)).speed } := by
  have hseg := hx.segment.trans hseg
  have hstate : x.group.state = .stopping := by rw [hx.group]; exact hs
  have hcause : x.group.cause = .command := by rw [hx.group]; exact hc
  have hparams : x.group.params = s.group.params := by rw [hx.group]
  unfold referenceStage
  rw [hstate]
  simp only [hcause, if_true]
  unfold rampStep
  rw [hseg, hparams, hx.sync]

/-- The descent before its end (R129). -/
theorem referenceStage_descent {r : Ref} (hx : Unwaited s u x) (hs : s.group.state = .landing) (hd : u.sync.descent = true)
    (hr : refStep (refTop s.group.params) 0 (min s.group.params.landRate s.group.params.vMax) s.group.params.landAccel u.sync.toRef = r)
    (h0 : r.lift ≠ 0) : referenceStage x = { state := setRef r x, moved := r.speed } := by
  have hstate : x.group.state = .landing := by rw [hx.group]; exact hs
  have hparams : x.group.params = s.group.params := by rw [hx.group]
  have hdesc : x.sync.descent = true := by rw [hx.sync]; exact hd
  have href : x.sync.toRef = u.sync.toRef := by rw [hx.sync]; rfl
  unfold referenceStage
  rw [hstate]
  simp only [hdesc, if_true]
  unfold descentStep
  simp only [hparams, href, hr]
  rw [if_neg h0]

/-- The end of the descent. -/
theorem referenceStage_landed (hx : Unwaited s u x) (hs : s.group.state = .landing) (hd : u.sync.descent = true)
    (h0 : (refStep (refTop s.group.params) 0 (min s.group.params.landRate s.group.params.vMax) s.group.params.landAccel
      u.sync.toRef).lift = 0) :
    referenceStage x = { state := endDescent (setRef { lift := 0, speed := 0, dir := .none } x), moved := 0 } := by
  have hstate : x.group.state = .landing := by rw [hx.group]; exact hs
  have hparams : x.group.params = s.group.params := by rw [hx.group]
  have hdesc : x.sync.descent = true := by rw [hx.sync]; exact hd
  have href : x.sync.toRef = u.sync.toRef := by rw [hx.sync]; rfl
  unfold referenceStage
  rw [hstate]
  simp only [hdesc, if_true]
  unfold descentStep
  simp only [hparams, href]
  rw [if_pos h0]

/-- The reference rests in POISED and HOLDING. -/
theorem referenceStage_rest (hx : Unwaited s u x) (hs : s.group.state = .poised ∨ s.group.state = .holding) :
    referenceStage x = { state := x, moved := 0 } := by
  have hstate : x.group.state = s.group.state := by rw [hx.group]
  unfold referenceStage
  rw [hstate]
  obtain h | h := hs <;> rw [h]

/-- A DWELL that goes on (R126). -/
theorem referenceStage_dwell {n : Nat} (hx : Unwaited s u x) (hs : s.group.state = .moving) (hseg : u.segment = some g) (hk : g.kind = .dwell)
    (hn : u.sync.dwell = some (n + 2)) :
    referenceStage x = { state := { x with sync := { x.sync with dwell := some (n + 1) } }, moved := 0 } := by
  have hseg := hx.segment.trans hseg
  have hstate : x.group.state = .moving := by rw [hx.group]; exact hs
  have hdwell : x.sync.dwell = some (n + 2) := by rw [hx.sync]; exact hn
  unfold referenceStage
  rw [hstate, hseg]
  simp only [hk]
  unfold dwellStep
  rw [hdwell]
  rfl

/-! ### The end of the descent (R129, R150) -/

/-- A station taken into RELEASING (R150). -/
def Jack.takenIntoRelease (held : Bool) (p : GroupParams) (j : Jack) : Jack :=
  if j.record.state = .engaged then
    ({ j with record := j.record.toReleasing j.latchedHeight } : Jack).handed held (-(seekRate p j : Int))
  else j

theorem startRelease_jack (k : Sta) (s : State) (i : Sta) : (startRelease k s).jack i = if i = k then
    ({ s.jack i with record := (s.jack i).record.toReleasing (s.jack i).latchedHeight } : Jack).handed (generatorsHeld s)
      (-(seekRate s.group.params (s.jack i) : Int)) else s.jack i := by
  unfold startRelease
  rw [handRate_jack]
  by_cases h : i = k
  · subst h
    rw [if_pos rfl, if_pos rfl, updRec_jack_self]
    rfl
  · rw [if_neg h, if_neg h, updRec_jack_ne _ _ h]

theorem releaseAll_jack (s : State) (k : Sta) : (releaseAll s).jack k = (s.jack k).takenIntoRelease (generatorsHeld s) s.group.params := by
  refine forStations_jack_of (P := fun t => t.group = s.group) (g := fun _ => Jack.takenIntoRelease (generatorsHeld s) s.group.params)
    (fun k t ht => ⟨?_, fun i => ?_⟩) rfl k
  · unfold whileFound
    split_ifs
    · exact ht
    · exact ht
  · unfold whileFound Jack.takenIntoRelease
    by_cases hi : i = k
    · subst hi
      rw [if_pos rfl]
      by_cases he : (t.jack i).record.state = .engaged
      · rw [if_pos (Jack.isIn_eq_true.mpr he), if_pos he, startRelease_jack, if_pos rfl, generatorsHeld_congr ht, ht]
      · rw [if_neg (fun h => he (Jack.isIn_eq_true.mp h)), if_neg he]
    · rw [if_neg hi]
      split_ifs
      · rw [startRelease_jack, if_neg hi]
      · rfl

theorem releaseAll_rest (s : State) : (releaseAll s).group = s.group ∧ (releaseAll s).sync = s.sync ∧ (releaseAll s).plan = s.plan :=
  forStations_keeps (P := fun t => t.group = s.group ∧ t.sync = s.sync ∧ t.plan = s.plan) (fun k t ht => by
    unfold whileFound
    split_ifs
    · exact ht
    · exact ht) ⟨rfl, rfl, rfl⟩

theorem Calm.latchedHeight (h : Calm (cleared s) w) (k : Sta) : ((formErrors w).jack k).latchedHeight = (s.jack k).liveHeight := by
  have hl : (w.jack k).latchedHeight = (s.jack k).liveHeight := by
    unfold Jack.latchedHeight
    rw [h.record, h.pos, cleared_jack, begun_latch, begun_record]
    rfl
  rw [formErrors_jack]
  exact hl

/-- The stations of a calm computation at whose end the descent has ended. -/
theorem Computing.released (hc : Computing s u x) (hlatch : ∀ k, (x.jack k).latchedHeight = (s.jack k).liveHeight) {o : State}
    (hj : ∀ k, o.jack k = x.jack k) (hparams : o.group.params = s.group.params) (hheld : generatorsHeld o = false) (k : Sta)
    (ht : ∃ b, t.jack k = { (releaseAll o).jack k with gen := { ((releaseAll o).jack k).gen with brake := b } }) :
    (t.jack k).err = errorAt s k ∧
      if (s.jack k).record.state = .engaged then
        (t.jack k).record = { (s.jack k).recordAtStart with
          state := .releasing, start := some (s.jack k).liveHeight, confirm := 0, attempts := 0 } ∧
        Receives s t k (-((min s.group.params.engageRate (s.jack k).record.settings.rMax : Nat) : Int))
      else (t.jack k).record = (s.jack k).recordAtStart ∧ ReceivesNothing s t k := by
  obtain ⟨b, hb⟩ := ht
  have hstate : (x.jack k).record.state = (s.jack k).record.state := by rw [hc.record]; rfl
  rw [releaseAll_jack, hj] at hb
  unfold Jack.takenIntoRelease at hb
  rw [hheld, hparams, hstate, hlatch] at hb
  by_cases hen : (s.jack k).record.state = .engaged
  · rw [if_pos hen] at hb
    rw [if_pos hen]
    have hseek : (seekRate s.group.params (x.jack k) : Int) =
        ((min s.group.params.engageRate (s.jack k).record.settings.rMax : Nat) : Int) := by
      unfold seekRate
      rw [hc.record]
      rfl
    rw [hseek] at hb
    refine ⟨by rw [hb]; exact hc.err k, ?_, by rw [hb]; rfl, ?_⟩
    · rw [hb]
      show (x.jack k).record.toReleasing _ = _
      rw [hc.record]
      rfl
    · have hk : (x.jack k).record.settings.kStep = (s.jack k).record.settings.kStep := by rw [hc.record]; rfl
      rw [hb]
      unfold Jack.handed StationRec.toReleasing
      simp only [Bool.false_eq_true, if_false]
      rw [hc.gen, hk]
      exact (Generator.hand_handed_of_mark _ _ _ false).brake b
  · rw [if_neg hen] at hb
    rw [if_neg hen]
    refine ⟨by rw [hb]; exact hc.err k, by rw [hb]; exact hc.record k, by rw [hb]; exact hc.rate k, ?_⟩
    rw [hb]
    show { (x.jack k).gen with brake := b } = _
    rw [hc.gen]

/-- The reference at the end of the descent. -/
def descended (x : State) : State := endDescent (setRef { lift := 0, speed := 0, dir := .none } x)

theorem Unwaited.descended (hx : Unwaited s u x) : (descended x).group = { s.group with cycle := s.group.cycle + 1, waitCount := 0 } ∧
    (descended x).sync = { u.sync with ref := 0, speed := 0, dir := .none, descent := false, waiting := false } ∧
    (descended x).plan = u.plan := by
  refine ⟨hx.group, ?_, hx.plan⟩
  show { x.sync with ref := 0, speed := 0, dir := .none, descent := false } = _
  rw [hx.sync]

/-- A calm cycle start at which the descent ends: every ENGAGED station is taken into RELEASING and lowered at its seek rate. -/
theorem Movable.lands (h : Movable s u) (hr : s.pins.resetAsserted = false) (hslot : s.group.slot = none) (hp : s.group.permit = true)
    (hund : Undetected s) (hu : exec .take s = .next u) (hs : s.group.state = .landing) (hd : s.sync.descent = true)
    (hstage : ∀ x, Unwaited s u x → referenceStage x = { state := descended x, moved := 0 }) :
    ((cycleWork s).plan = u.plan ∧ (cycleWork s).group = { s.group with cycle := s.group.cycle + 1, waitCount := 0 }) ∧
      (cycleWork s).sync = { u.sync with ref := 0, speed := 0, dir := .none, descent := false, waiting := false } ∧
      ∀ k, ((cycleWork s).jack k).err = errorAt s k ∧
        if (s.jack k).record.state = .engaged then
          ((cycleWork s).jack k).record = { (s.jack k).recordAtStart with
            state := .releasing, start := some (s.jack k).liveHeight, confirm := 0, attempts := 0 } ∧
          Receives s (cycleWork s) k (-((min s.group.params.engageRate (s.jack k).record.settings.rMax : Nat) : Int))
        else ((cycleWork s).jack k).record = (s.jack k).recordAtStart ∧ ReceivesNothing s (cycleWork s) k := by
  obtain ⟨hl, he, hdl⟩ := h.notLocked
  obtain ⟨hc, ht, hcalm⟩ := computing_of_undetected hr hu hund hl he hdl
  have hcomp := h.computation hc ht
  have hlatch := hcalm.latchedHeight
  have hwg : (blockWork (begun s)).group.state = .landing := by
    rw [← formErrors_group, hc.group]
    exact hs
  have hwd : (blockWork (begun s)).sync.descent = true := by
    rw [hcalm.sync]
    exact (begun_ref s).2.trans hd
  have hx : Unwaited s u (unwaited s) := hc.setWait
  have hjacks : (unwaited s).jacks = (formErrors (blockWork (begun s))).jacks := setWait_jacks ..
  have hcycle := cycleWork_of_unstopped (s := s) hslot
  rw [hstage _ hx] at hcomp
  generalize unwaited s = x at hx hjacks hcomp
  generalize formErrors (blockWork (begun s)) = w at hc hlatch hjacks
  obtain ⟨hog, hoy, hop⟩ := hx.descended
  have hoj (k : Sta) : (descended x).jack k = w.jack k := congrArg (fun p => p.get k) hjacks
  generalize descended x = o at hog hoy hop hoj hcomp
  have hhand : handRates 0 o = o := by
    unfold handRates syncCommands
    rw [hog, hoy]
    simp [hs]
  have hcomp : Machine.computation (blockWork (begun s)) = handOver o := hcomp.trans (congrArg handOver hhand)
  have hrelease : computeCycle (blockWork (begun s)) = releaseAll (handOver o) := by
    unfold computeCycle
    rw [hcomp]
    refine if_pos ⟨hwg, hwd, ?_⟩
    rw [handOver_sync, hoy]
  obtain ⟨hg, hy, hpl⟩ := releaseAll_rest (handOver o)
  have hcycle := hcycle (by
    rw [hrelease, hg, handOver_group, hog]
    show ¬ (s.group.state = .stopping ∧ _)
    rw [hs]
    simp)
  rw [hrelease] at hcycle
  obtain ⟨h1, h2, h3, h4⟩ := closed_same (releaseAll (handOver o))
  rw [hcycle]
  refine ⟨⟨h3.trans (hpl.trans ((handOver_plan o).trans hop)), h1.trans (hg.trans ((handOver_group o).trans hog))⟩,
    h2.trans (hy.trans ((handOver_sync o).trans hoy)), fun k => ?_⟩
  refine hc.released hlatch (o := handOver o) (fun k => (handOver_jack o k).trans (hoj k)) ?_ ?_ k (h4 k)
  · rw [handOver_group, hog]
  · rw [generatorsHeld_congr (handOver_group o)]
    unfold generatorsHeld
    rw [hog]
    show (!s.group.permit || s.group.state == .lockedOut) = false
    rw [hp, hs]
    rfl

end Sys2Proof.Machine

/-! PROOF. CYCLE_START moves the reference and hands every engaged station its rate (O52): the cases of the statement. -/

namespace Sys2Proof.Machine

-- One theorem after another, as in the tests: a thread each for this many proofs would pass the memory limit.
set_option Elab.async false

variable {s t u w x : State} {k : Sta} {g : Segment} {y : Sync} {v : Nat}

/-- The reference lift and the descent that TAKE leaves. -/
theorem take_ref (hr : s.pins.resetAsserted = false) (hu : exec .take s = .next u) :
    u.sync.ref = s.sync.ref ∧ u.sync.descent = s.sync.descent := by
  obtain ⟨hy, -⟩ := begun_sync_plan hr hu
  rw [← hy]
  exact begun_ref s

/-- The slowing step, in the words of the statement. -/
theorem GoesOn.slows {p : GroupParams} {a : Nat}
    (h : GoesOn s u t (moveBounded (refTop p) u.sync.ref u.sync.dir (u.sync.speed - a))) :
    let l := u.sync.ref + u.sync.dir.sign * ((u.sync.speed - a : Nat) : Int)
    (0 ≤ l → l ≤ 100 * (p.lMax : Int) → GoesOn s u t { lift := l, speed := u.sync.speed - a, dir := u.sync.dir }) ∧
    (l < 0 → GoesOn s u t { lift := 0, speed := 0, dir := u.sync.dir }) ∧
    (100 * (p.lMax : Int) < l → GoesOn s u t { lift := 100 * (p.lMax : Int), speed := 0, dir := u.sync.dir }) := by
  intro l
  obtain ⟨h1, h2, h3⟩ := moveBounded_cases (refTop p) u.sync.ref u.sync.dir (u.sync.speed - a)
  refine ⟨fun hl hr => ?_, fun hl => ?_, fun hl => ?_⟩
  · rw [h3 hl hr] at h
    exact h
  · rw [h1 hl] at h
    exact h
  · have h0 : 0 ≤ l := by have : (0 : Int) ≤ 100 * (p.lMax : Int) := by positivity
                          omega
    rw [h2 h0 hl] at h
    exact h

/-- What is left to the target after a slowing step away from it is not 0. -/
theorem remainingDistance_moveBounded {top target lift : Int} {d : RefDir} {n : Nat} (h0 : 0 ≤ lift) (ht : lift ≤ top)
    (h0' : 0 ≤ target) (hb : d.sign * (target - lift) < 0) :
    remainingDistance target (moveBounded top lift d n) ≠ 0 := by
  obtain ⟨h1, h2, h3⟩ := moveBounded_cases top lift d n
  unfold remainingDistance
  cases d <;> simp only [RefDir.sign] at h1 h2 h3 hb ⊢
  · by_cases ha : top < lift + 1 * n
    · rw [h2 (by omega) ha]
      simp only
      omega
    · rw [h3 (by omega) (by omega)]
      simp only
      omega
  · by_cases ha : lift + -1 * n < 0
    · rw [h1 ha]
      simp only
      omega
    · rw [h3 (by omega) (by omega)]
      simp only
      omega
  · omega

/-- Settles O52. -/
theorem cycleStartMovesTheReference : Obligations.CycleStartMovesTheReference := by
  intro s u hr hslot hp hund hu h0 htop
  refine ⟨cycleWork s, exec_cycleStart hr, ?_⟩
  intro p y top sign turned unlagged kept goesOn slows
  have hsign : sign = y.dir.sign := (RefDir.sign_eq y.dir).symm
  have hturned : turned = y.dir.reverse := by cases h : y.dir <;> simp [turned, h, RefDir.reverse]
  obtain ⟨href, hdesc⟩ := take_ref hr hu
  have hgoes (l : Int) (v : Nat) (d : RefDir) : goesOn l v d = GoesOn s u (cycleWork s) { lift := l, speed := v, dir := d } := rfl
  have hslow (a : Nat) (h : GoesOn s u (cycleWork s) (moveBounded (refTop p) u.sync.ref u.sync.dir (u.sync.speed - a))) : slows a := by
    show (0 ≤ y.ref + sign * ((y.speed - a : Nat) : Int) → _) ∧ _
    rw [hsign]
    exact h.slows
  have hmoving (hs : s.group.state = .moving) (hl : ∀ g, u.segment = some g → g.kind = .move → unlagged) : Movable s u :=
    { state := .inl (by simp [hs])
      ramp := fun h => by rw [hs] at h; cases h
      unlagged := by
        rintro (⟨g, -, hg, hk⟩ | h)
        · have := hl g hg hk
          rw [← hsign]
          exact this
        · rw [hs] at h; cases h }
  have hresting (hs : s.group.state = .poised ∨ s.group.state = .holding ∨ (s.group.state = .landing ∧ s.sync.descent = true)) :
      Movable s u :=
    { state := by
        rcases hs with h | h | h
        · exact .inl (by simp [h])
        · exact .inl (by simp [h])
        · exact .inr h
      ramp := fun h => by rw [h] at hs; simp at hs
      unlagged := by
        rintro (⟨g, h, -⟩ | h) <;> rw [h] at hs <;> simp at hs }
  refine ⟨fun g hs hseg hk hlag => ?_, fun g hs hcause hforced hv hseg hlag => ?_, fun hs hd => ?_, fun hs => ?_,
    fun g n hs hseg hk hn => ?_⟩
  · have hm := hmoving hs fun _ _ _ => hlag
    have hgo {r : Ref} (hstep : refStep (refTop p) (effectiveTarget p g) (effectiveCruise p g) g.accel u.sync.toRef = r)
        (hleft : remainingDistance (effectiveTarget p g) r ≠ 0) : GoesOn s u (cycleWork s) r :=
      hm.goesOn_ref hr hslot hp hund hu (fun x hx => referenceStage_move hx hs hseg hk hstep hleft)
        fun h => by rw [hs] at h; cases h
    intro dist cruise
    have hdist : dist = y.dir.sign * (effectiveTarget p g - y.ref) := by rw [← hsign]; rfl
    rw [hsign]
    refine ⟨fun hd hv => ?_, fun hd hv => ?_, fun hd hv hlt => ?_⟩
    · rw [hdist] at hd hv ⊢
      refine hgo (refStep_ahead hd) ?_
      unfold remainingDistance
      have := RefDir.sign_mul_self (d := y.dir) (x := effectiveTarget p g - y.ref) (by omega)
        (chooseSpeed g.accel cruise y.speed (y.dir.sign * (effectiveTarget p g - y.ref)).toNat : Int)
      show y.dir.sign * (effectiveTarget p g - (y.ref + y.dir.sign *
        (chooseSpeed g.accel cruise y.speed (y.dir.sign * (effectiveTarget p g - y.ref)).toNat : Int))) ≠ 0
      rw [← Int.sub_sub, Int.mul_sub, this]
      omega
    · rw [hdist] at hd
      have hstep : refStep (refTop p) (effectiveTarget p g) (effectiveCruise p g) g.accel u.sync.toRef =
          moveBounded (refTop p) u.sync.ref u.sync.dir (u.sync.speed - g.accel) := refStep_behind hd hv
      have hbounds : 0 ≤ u.sync.ref ∧ u.sync.ref ≤ refTop p := href ▸ ⟨h0, htop⟩
      exact hslow g.accel (hgo hstep (remainingDistance_moveBounded hbounds.1 hbounds.2 (by unfold effectiveTarget; positivity) hd))
    · rw [hdist] at hd hlt ⊢
      rw [hturned]
      have hmirror : y.ref - y.dir.sign * (chooseSpeed g.accel cruise 0 (-(y.dir.sign * (effectiveTarget p g - y.ref))).toNat : Int) =
          y.ref + y.dir.reverse.sign * (chooseSpeed g.accel cruise 0 (-(y.dir.sign * (effectiveTarget p g - y.ref))).toNat : Int) := by
        rw [RefDir.reverse_sign, Int.neg_mul]
        rfl
      rw [hmirror]
      refine hgo (refStep_turned hd hv) ?_
      unfold remainingDistance
      have := RefDir.sign_mul_self (d := y.dir) (x := effectiveTarget p g - y.ref) (by omega)
        (chooseSpeed g.accel cruise 0 (-(y.dir.sign * (effectiveTarget p g - y.ref))).toNat : Int)
      show y.dir.reverse.sign * (effectiveTarget p g - (y.ref + y.dir.reverse.sign *
        (chooseSpeed g.accel cruise 0 (-(y.dir.sign * (effectiveTarget p g - y.ref))).toNat : Int))) ≠ 0
      rw [RefDir.reverse_sign, ← Int.sub_sub, Int.mul_sub, Int.neg_mul, Int.neg_mul, Int.neg_mul, Int.mul_neg, Int.neg_neg, this]
      omega
  · have hm : Movable s u :=
      { state := .inl (by simp [hs])
        ramp := fun _ => ⟨hcause, hforced, hv⟩
        unlagged := fun _ => by rw [← hsign]; exact hlag }
    exact hslow g.accel (hm.goesOn_ref hr hslot hp hund hu (fun x hx => referenceStage_ramp hx hs hcause hseg)
      fun h => by rw [hs] at h; cases h)
  · have hd' : s.sync.descent = true := hdesc.symm.trans hd
    have hm := hresting (.inr (.inr ⟨hs, hd'⟩))
    intro v
    refine ⟨fun hpos hdir hlt => ?_, fun hend => ?_⟩
    · have hahead : u.sync.toRef.dir.sign * (0 - u.sync.toRef.lift) = y.ref := by
        show y.dir.sign * (0 - y.ref) = y.ref
        rw [hdir]
        simp [RefDir.sign]
      have hstep := refStep_ahead (top := refTop p) (target := 0) (cruise := min p.landRate p.vMax) (a := p.landAccel) (r := u.sync.toRef)
        (by rw [hahead]; exact hpos)
      rw [hahead] at hstep
      have hlift : u.sync.toRef.lift + u.sync.toRef.dir.sign * (chooseSpeed p.landAccel (min p.landRate p.vMax) u.sync.toRef.speed
          y.ref.toNat : Int) = y.ref - v := by
        show y.ref + y.dir.sign * (v : Int) = _
        rw [hdir]
        simp only [RefDir.sign]
        omega
      rw [hlift] at hstep
      have hgo := hm.goesOn_ref hr hslot hp hund hu (fun x hx => referenceStage_descent hx hs hd hstep (by
        show y.ref - v ≠ 0
        omega)) fun _ => hd
      rw [hgoes]
      have hdd : u.sync.toRef.dir = .down := hdir
      rw [hdd] at hgo
      exact hgo
    · refine hm.lands hr hslot hp hund hu hs hd' fun x hx => referenceStage_landed hx hs hd ?_
      by_cases h00 : y.ref = 0
      · rw [refStep_there (by
          show y.dir.sign * (0 - y.ref) = 0
          rw [h00]
          simp)]
        exact h00
      · have hdir : y.dir = .down := (hend.resolve_left h00).1
        have hvr : (v : Int) = y.ref := (hend.resolve_left h00).2
        have hahead : u.sync.toRef.dir.sign * (0 - u.sync.toRef.lift) = y.ref := by
          show y.dir.sign * (0 - y.ref) = y.ref
          rw [hdir]
          simp [RefDir.sign]
        rw [refStep_ahead (by rw [hahead]; show 0 < u.sync.ref; rw [href]; have : y.ref = s.sync.ref := href; omega), hahead]
        show y.ref + y.dir.sign * (v : Int) = 0
        rw [hdir, hvr]
        simp [RefDir.sign]
  · have hm := hresting (hs.imp id .inl)
    obtain ⟨h1, h2, h3, h4⟩ := hm.goesOn hr hslot hp hund hu (y := { u.sync with waiting := false }) (v := 0) (fun x hx => by
      rw [referenceStage_rest hx hs, ← hx.sync]) fun h => by rw [h] at hs; simp at hs
    exact ⟨⟨h1, h2⟩, h3, h4⟩
  · have hm := hmoving hs fun g' hg' hk' => by
      rw [hseg] at hg'
      cases hg'
      rw [hk] at hk'
      cases hk'
    obtain ⟨h1, h2, h3, h4⟩ := hm.goesOn hr hslot hp hund hu (y := { u.sync with dwell := some (n + 1), waiting := false }) (v := 0)
      (fun x hx => by
        rw [referenceStage_dwell hx hs hseg hk hn, hx.sync]) fun h => by rw [h] at hs; cases hs
    exact ⟨⟨h1, h2⟩, h3, h4⟩

end Sys2Proof.Machine

/-! PROOF. The computation that completes a segment (O34). -/

namespace Sys2Proof.Machine

-- One theorem after another, as in the tests: a thread each for this many proofs would pass the memory limit.
set_option Elab.async false

variable {s t u w x : State} {k : Sta} {g : Segment} {y : Sync} {v : Nat} {e : Event} {c : Byte}

/-! ### The events of a cycle start (R181, R182) -/

/-- The stream and the brakes leave what has been reported. -/
theorem Reported.closed (h : Reported e c x) : Reported e c (settleBrakes (streamWork x)) := by
  obtain ⟨q, n, hset, hsq, -, hqueue⟩ := settled_streamWork x
  obtain ⟨f, hf, hcls, hbody⟩ | h := h
  · obtain ⟨i, hi⟩ := List.mem_iff_getElem?.mp hf
    have hns : f.cls ≠ .snapshotNotice := by rw [hcls]; simp
    refine .inl ⟨f, ?_, hcls, hbody⟩
    rw [settleBrakes_line, hsq, hqueue]
    split_ifs
    · exact List.mem_iff_getElem?.mpr ⟨i, placeSnapshot_getElem (s := setStreamCount 0 x) hi hns⟩
    · exact hf
  · refine .inr ?_
    rw [hset]
    exact h

/-- What the work of a cycle start has told is reported at its end. -/
theorem reported_cycleWork (hslot : s.group.slot = none) (h : Told e c (cycleEnd (begun s))) : Reported e c (cycleWork s) := by
  rw [cycleWork_eq, openCycle_of_none hslot]
  refine Reported.closed (h.resolve_right ?_)
  rw [cycleEnd_raised]
  simp

/-- From the end of the checks on, what has been told stays told. -/
theorem tells_cycleEnd_of_computeCycle (o : State) : Tells (computeCycle (blockWork o)) (cycleEnd o) :=
  (Works.stopTest (forcedEarlier (blockWork o)) (computeCycle (blockWork o))).tells

theorem told_of_computation (ho : (blockWork w).group.state ≠ .landing) (h : Told e c (computation (blockWork w))) :
    Told e c (cycleEnd w) := by
  refine tells_cycleEnd_of_computeCycle w e c ?_
  rw [computeCycle_of_not_landing ho]
  exact h

/-! ### A completed segment -/

/-- The state in which stage 4 completes a segment: the reference at `y`, the rest as the computation found it. -/
structure Completing (s u : State) (y : Sync) (z : State) : Prop where
  sync : z.sync = y
  plan : z.plan = u.plan
  group : z.group = { s.group with cycle := s.group.cycle + 1, waitCount := 0 }
  jacks : z.jacks = (unwaited s).jacks

/-- What a calm cycle start that completes a segment leaves, where it stays in MOVING or comes to rest in HOLDING. -/
theorem Movable.completes {z : State} (h : Movable s u) (hr : s.pins.resetAsserted = false) (hslot : s.group.slot = none)
    (hp : s.group.permit = true) (hund : Undetected s) (hu : exec .take s = .next u) (hs : s.group.state = .moving)
    (hstage : referenceStage (unwaited s) = { state := z, moved := v })
    (hjacks : z.jacks = (unwaited s).jacks) (hparams : z.group.params = s.group.params) (hpermit : z.group.permit = s.group.permit)
    (hz : z.group.state = .moving ∨ z.group.state = .holding) :
    (cycleWork s).group = z.group ∧ (cycleWork s).sync = z.sync ∧ (cycleWork s).plan = z.plan ∧
      Commanded s (cycleWork s) z.sync.dir v ∧ ∀ e c, Told e c z → Reported e c (cycleWork s) := by
  obtain ⟨hl, he, hd⟩ := h.notLocked
  obtain ⟨hc, ht, -⟩ := computing_of_undetected hr hu hund hl he hd
  have hcomp := h.computation hc ht
  have hwg : (blockWork (begun s)).group.state = .moving := by
    rw [← formErrors_group, hc.group]
    exact hs
  have hju : (unwaited s).jacks = (formErrors (blockWork (begun s))).jacks := setWait_jacks ..
  obtain ⟨h1, h2, h3, h4⟩ := cycleWork_unforced hslot hcomp (fun h _ => by rw [hwg] at h; cases h)
    (fun _ => by unfold forcedEarlier; rw [hwg]; rfl)
  rw [hstage] at h1 h2 h3 h4 hcomp
  refine ⟨h1, h2, h3, hc.commanded (r := z) (hjacks.trans hju) hparams ?_ ?_ v h4, fun e c hz => ?_⟩
  · unfold generatorsHeld
    rw [hpermit, hp]
    obtain h | h := hz <;> rw [h] <;> rfl
  · unfold syncCommands
    obtain h | h := hz <;> rw [h]
  · refine reported_cycleWork hslot (told_of_computation (by rw [hwg]; simp) ?_)
    rw [hcomp]
    exact (Tells.handOver _) e c (((Works.handRates v z : Works False False _ _).tells) e c hz)

/-- A segment that starts. -/
theorem startSegment_facts {h : Segment} (hseg : w.segment = some h) : (startSegment w).group = w.group ∧
    (startSegment w).plan = { w.plan with segMode := some w.plan.mode } ∧
    (startSegment w).sync = startedSync w.group.params h w.sync ∧ (startSegment w).jacks = w.jacks ∧ Tells w (startSegment w) ∧
    (planLowNow w = true → Told (.planLow w.plan.active w.sync.planPos) w.group.cycle (startSegment w)) := by
  rw [startSegment_eq hseg]
  split_ifs with hl
  · exact ⟨rfl, rfl, rfl, rfl, .of_raises ⟨_, rfl⟩, fun _ => .inr (by simp [raise, segmentStarted])⟩
  · exact ⟨rfl, rfl, rfl, rfl, .of_line rfl, fun h => absurd h hl⟩

section
variable {ref : Int} {d : RefDir} {dw : Option Nat} {z : State} {m : RunMode}

/-- A completed segment at which the group comes to rest, its plan exhausted or holding. -/
theorem Movable.rests (h : Movable s u) (hr : s.pins.resetAsserted = false) (hslot : s.group.slot = none)
    (hp : s.group.permit = true) (hund : Undetected s) (hu : exec .take s = .next u) (hs : s.group.state = .moving)
    (hz : Completing s u { u.sync with ref := ref, speed := v, dir := d, dwell := dw, waiting := false } z)
    (hstage : referenceStage (unwaited s) = { state := completeSegment g z, moved := v })
    {plan : Plan} {pos : Nat} {q : State} {last : Bool} (hq : completeSegment g z = enterHolding q) (hplan : q.plan = plan)
    (hsync : q.sync = { z.sync with dwell := none, planPos := pos }) (hgroup : q.group = z.group) (hjacks : q.jacks = z.jacks)
    (htold : Told (.segmentDone u.plan.active u.sync.planPos g.kind last true) (s.group.cycle + 1) q) :
    ((cycleWork s).group = { s.group with cycle := s.group.cycle + 1, waitCount := 0, state := .holding } ∧ (cycleWork s).plan = plan ∧
      (cycleWork s).sync = { u.sync with ref := ref, speed := 0, dir := .none, planPos := pos, dwell := none, waiting := false } ∧
      Commanded s (cycleWork s) .none v ∧
      Reported (.segmentDone u.plan.active u.sync.planPos g.kind last true) (s.group.cycle + 1) (cycleWork s) ∧
      Reported (.state .moving .holding) (s.group.cycle + 1) (cycleWork s)) ∧
    ∀ e, Told e (s.group.cycle + 1) q → Reported e (s.group.cycle + 1) (cycleWork s) := by
  have hg : q.group = { s.group with cycle := s.group.cycle + 1, waitCount := 0 } := hgroup.trans hz.group
  rw [hq] at hstage
  have hhold : enterHolding q = raise (.state q.group.state .holding) (rested q) := enterHolding_raise q
  rw [hhold] at hstage
  obtain ⟨h1, h2, h3, h4, h5⟩ := h.completes hr hslot hp hund hu hs hstage (hjacks.trans hz.jacks)
    (by show q.group.params = _; rw [hg]) (by show q.group.permit = _; rw [hg]) (.inr rfl)
  have htells : Tells q (raise (.state q.group.state .holding) (rested q)) := .of_raises ⟨_, rfl⟩
  refine ⟨⟨?_, h3.trans hplan, ?_, h4, h5 _ _ (htells _ _ htold), ?_⟩, fun e he => h5 _ _ (htells _ _ he)⟩
  · rw [h1]
    show { q.group with state := .holding } = _
    rw [hg]
  · rw [h2]
    show { q.sync with speed := 0, dir := .none } = _
    rw [hsync, hz.sync]
  · refine h5 _ _ (.inr ?_)
    show _ ∈ q.line.raised ++ [{ event := .state q.group.state .holding, cycle := q.group.cycle }]
    rw [hg]
    show _ ∈ q.line.raised ++ [{ event := .state s.group.state .holding, cycle := s.group.cycle + 1 }]
    rw [hs]
    simp

/-- A completed segment after which another starts. -/
theorem Movable.starts (h : Movable s u) (hr : s.pins.resetAsserted = false) (hslot : s.group.slot = none)
    (hp : s.group.permit = true) (hund : Undetected s) (hu : exec .take s = .next u) (hs : s.group.state = .moving)
    (hz : Completing s u { u.sync with ref := ref, speed := v, dir := d, dwell := dw, waiting := false } z)
    (hstage : referenceStage (unwaited s) = { state := completeSegment g z, moved := v })
    {pos : Nat} {q : State} {f : Segment} (hq : completeSegment g z = startSegment q)
    (hsync : q.sync = { z.sync with dwell := none, planPos := pos }) (hgroup : q.group = z.group) (hjacks : q.jacks = z.jacks)
    (hseg : q.plan.activeBank[pos]? = some f) :
    let dir : RefDir := if f.kind = .dwell then .none else if 0 < v then d else dirToward (effectiveTarget s.group.params f) ref
    ((cycleWork s).group = { s.group with cycle := s.group.cycle + 1, waitCount := 0 } ∧
      (cycleWork s).plan = { q.plan with segMode := some q.plan.mode } ∧
      (cycleWork s).sync = { u.sync with
        ref := ref, speed := if f.kind = .dwell then 0 else v, dir := dir, planPos := pos
        dwell := if f.kind = .dwell then some f.dwell else none, waiting := false } ∧
      Commanded s (cycleWork s) dir v ∧
      (pos + 1 = q.plan.activeBank.length → q.plan.mode = .chained → q.plan.commit ≠ some .append →
        Reported (.planLow q.plan.active pos) (s.group.cycle + 1) (cycleWork s))) ∧
    ∀ e, Told e (s.group.cycle + 1) q → Reported e (s.group.cycle + 1) (cycleWork s) := by
  intro dir
  have hg : q.group = { s.group with cycle := s.group.cycle + 1, waitCount := 0 } := hgroup.trans hz.group
  have hy : q.sync = { u.sync with ref := ref, speed := v, dir := d, dwell := none, planPos := pos, waiting := false } := by
    rw [hsync, hz.sync]
  have hsegment : q.segment = some f := by
    unfold State.segment
    rw [hy]
    exact hseg
  rw [hq] at hstage
  obtain ⟨g1, g2, g3, g4, g5, g6⟩ := startSegment_facts hsegment
  obtain ⟨h1, h2, h3, h4, h5⟩ := h.completes hr hslot hp hund hu hs hstage (g4.trans (hjacks.trans hz.jacks))
    (by rw [g1, hg]) (by rw [g1, hg]) (.inl (by rw [g1, hg]; exact hs))
  have hstarted : (startSegment q).sync = { u.sync with
      ref := ref, speed := if f.kind = .dwell then 0 else v, dir := dir, planPos := pos
      dwell := if f.kind = .dwell then some f.dwell else none, waiting := false } := by
    rw [g3, startedSync_eq, hy, hg]
    rfl
  rw [hstarted] at h4 h2
  refine ⟨⟨h1.trans (g1.trans hg), h3.trans g2, h2, h4, fun hl hm hc => ?_⟩, fun e he => h5 _ _ (g5 _ _ he)⟩
  have hlow := g6 ((planLowNow_iff q).mpr ⟨by rw [hy]; exact hl, hm, hc⟩)
  rw [hy, hg] at hlow
  exact h5 _ _ hlow

end

end Sys2Proof.Machine

/-! PROOF. The computation that completes a segment (O34): the cases of the statement. -/

namespace Sys2Proof.Machine

-- One theorem after another, as in the tests: a thread each for this many proofs would pass the memory limit.
set_option Elab.async false

variable {s t u w x : State} {k : Sta} {g : Segment} {y : Sync} {v : Nat} {e : Event} {c : Byte}

/-- A MOVE whose step leaves no distance to its target (R125). -/
theorem referenceStage_reached {r : Ref} (hx : Unwaited s u x) (hs : s.group.state = .moving) (hseg : u.segment = some g) (hk : g.kind = .move)
    (hr : refStep (refTop s.group.params) (effectiveTarget s.group.params g) (effectiveCruise s.group.params g) g.accel u.sync.toRef = r)
    (hd : remainingDistance (effectiveTarget s.group.params g) r = 0) :
    referenceStage x = { state := completeSegment g (setRef r x), moved := r.speed } := by
  have hseg := hx.segment.trans hseg
  have hstate : x.group.state = .moving := by rw [hx.group]; exact hs
  have hparams : x.group.params = s.group.params := by rw [hx.group]
  have href : x.sync.toRef = u.sync.toRef := by rw [hx.sync]; rfl
  unfold referenceStage
  rw [hstate, hseg]
  simp only [hk]
  unfold moveStep
  simp only [hparams, href, hr]
  rw [if_pos hd]

/-- A DWELL whose count has run out. -/
def dwelt (x : State) : State := { x with sync := { x.sync with dwell := some 0 } }

theorem dwelt_rest (x : State) : (dwelt x).plan = x.plan ∧ (dwelt x).group = x.group ∧ (dwelt x).jacks = x.jacks := ⟨rfl, rfl, rfl⟩

theorem dwelt_sync (x : State) : (dwelt x).sync = { x.sync with dwell := some 0 } := rfl

/-- A DWELL whose count runs out (R126). -/
theorem referenceStage_dwelt (hx : Unwaited s u x) (hs : s.group.state = .moving) (hseg : u.segment = some g) (hk : g.kind = .dwell)
    (hn : u.sync.dwell = some 1) : referenceStage x =
      { state := completeSegment g (dwelt x), moved := 0 } := by
  have hseg := hx.segment.trans hseg
  have hstate : x.group.state = .moving := by rw [hx.group]; exact hs
  have hdwell : x.sync.dwell = some 1 := by rw [hx.sync]; exact hn
  unfold referenceStage
  rw [hstate, hseg]
  simp only [hk]
  unfold dwellStep
  rw [hdwell]
  rfl

theorem setRef_sync (r : Ref) (s : State) : (setRef r s).sync = { s.sync with ref := r.lift, speed := r.speed, dir := r.dir } := rfl

theorem told_takePlan (kind : CommitKind) (b : Bool) (s : State) :
    Told (.planTaken s.plan.pendingLetter kind s.plan.pendingBank.length b) s.group.cycle (takePlan kind b s) := by
  rw [takePlan_eq]
  exact told_raise _ _

/-- What the statement says of a calm computation on `s` that completes the segment `g`, of segment mode `m`, with the reference at `ref`, its
speed `v` and its direction `d`: `t` is the state left, `u` what TAKE left of `s`. -/
def SegmentCompleted (s u t : State) (g : Segment) (m : RunMode) (ref : Int) (v : Nat) (d : RefDir) : Prop :=
  let y := u.sync
  let k := y.planPos
  let c := s.group.cycle + 1
  let last : Prop := k + 1 = u.plan.activeBank.length
  let queued : Prop := u.plan.commit = some .append
  let holds : Prop := g.stopAfter = true ∨ (m = .single ∧ g.kind = .move)
  let taken (continues : Bool) : Prop :=
    Reported (.planTaken u.plan.pendingLetter .append u.plan.pendingBank.length continues) c t
  let rests (plan : Plan) (pos : Nat) : Prop :=
    t.group = { s.group with cycle := c, waitCount := 0, state := .holding } ∧ t.plan = plan ∧
    t.sync = { y with ref := ref, speed := 0, dir := .none, planPos := pos, dwell := none, waiting := false } ∧
    Commanded s t .none v ∧ Reported (.segmentDone u.plan.active k g.kind (decide last) true) c t ∧
    Reported (.state .moving .holding) c t
  let starts (h : Segment) (plan : Plan) (pos : Nat) : Prop :=
    let dir : RefDir := if h.kind = .dwell then .none else if 0 < v then d else dirToward (effectiveTarget s.group.params h) ref
    t.group = { s.group with cycle := c, waitCount := 0 } ∧ t.plan = plan ∧
    t.sync = { y with
      ref := ref, speed := if h.kind = .dwell then 0 else v, dir := dir, planPos := pos
      dwell := if h.kind = .dwell then some h.dwell else none, waiting := false } ∧
    Commanded s t dir v ∧
    (pos + 1 = plan.activeBank.length → plan.mode = .chained → plan.commit ≠ some .append →
      Reported (.planLow plan.active pos) c t)
  (holds ∨ last → (last → ¬ queued) → rests { u.plan with segMode := none } (k + 1)) ∧
  (holds → last → queued → rests (u.plan.exchanged none) 0 ∧ taken false) ∧
  (∀ h, ¬ holds → u.plan.activeBank[k + 1]? = some h → starts h { u.plan with segMode := some u.plan.mode } (k + 1)) ∧
  (∀ h rest, ¬ holds → last → queued → u.plan.pendingBank = h :: rest →
    starts h (u.plan.exchanged (some u.plan.mode)) 0 ∧ taken true ∧ Reported (.segmentDone u.plan.active k g.kind true false) c t)

theorem Movable.segmentCompleted {m : RunMode} {ref : Int} {d : RefDir} {dw : Option Nat} {z : State} (hm : Movable s u)
    (hr : s.pins.resetAsserted = false) (hslot : s.group.slot = none) (hp : s.group.permit = true) (hund : Undetected s)
    (hu : exec .take s = .next u) (hs : s.group.state = .moving) (hmode : u.plan.segMode = some m)
    (hz : Completing s u { u.sync with ref := ref, speed := v, dir := d, dwell := dw, waiting := false } z)
    (hstage : referenceStage (unwaited s) = { state := completeSegment g z, moved := v }) :
    SegmentCompleted s u (cycleWork s) g m ref v d := by
  unfold SegmentCompleted
  intro y k c last queued holds taken rests starts
  obtain ⟨hrest, htakenRest, hstart, htakenStart⟩ := completeSegment_cases g z
  have hpos : z.sync.planPos = k := by rw [hz.sync]
  have hleft : (segmentLeft z).plan = { u.plan with segMode := none } := by
    show { z.plan with segMode := none } = _
    rw [hz.plan]
  have hcycle : (segmentLeft z).group.cycle = c := by
    show z.group.cycle = c
    rw [hz.group]
  rw [hz.plan, hpos, hmode, holdsAfter_iff] at hrest htakenRest hstart htakenStart
  have hdone (last rests : Bool) : Told (.segmentDone u.plan.active k g.kind last rests) c
      (raise (.segmentDone u.plan.active k g.kind last rests) (segmentLeft z)) := by
    have h := told_raise (.segmentDone u.plan.active k g.kind last rests) (segmentLeft z)
    rw [hcycle] at h
    exact h
  have htaken (continues : Bool) (f : Event) : Told (.planTaken u.plan.pendingLetter .append u.plan.pendingBank.length continues) c
      (takePlan .append continues (raise f (segmentLeft z))) := by
    have h := told_takePlan .append continues (raise f (segmentLeft z))
    rw [show (raise f (segmentLeft z)).plan = _ from hleft, show (raise f (segmentLeft z)).group.cycle = c from hcycle] at h
    exact h
  have hplan (continues : Bool) (f : Event) : (takePlan .append continues (raise f (segmentLeft z))).plan = u.plan.exchanged none := by
    rw [takePlan_eq]
    show (segmentLeft z).plan.exchanged none = _
    rw [hleft]
    unfold Plan.exchanged Plan.swapped
    cases u.plan.active <;> rfl
  have htells (continues : Bool) (f : Event) : Tells (raise f (segmentLeft z)) (takePlan .append continues (raise f (segmentLeft z))) :=
    .of_raises ⟨_, by rw [takePlan_eq]; rfl⟩
  refine ⟨fun hh hq => ?_, fun hh hl hq => ?_, fun h hh hnext => ?_, fun h rest hh hl hq hbank => ?_⟩
  · exact (hm.rests hr hslot hp hund hu hs hz hstage (hrest hh hq) hleft (by rw [← hpos]; rfl) rfl rfl (hdone _ true)).1
  · have h := hm.rests hr hslot hp hund hu hs hz hstage (htakenRest hh hl hq) (hplan false _) rfl rfl rfl
      (htells false _ _ _ (hdone true true))
    have hlast : decide last = true := decide_eq_true hl
    refine ⟨?_, h.2 _ (htaken false _)⟩
    show rests _ 0
    simp only [rests, hlast]
    exact h.1
  · have hlast : ¬ last := fun h => by
      rw [show k + 1 = u.plan.activeBank.length from h, List.getElem?_eq_none (Nat.le_refl _)] at hnext
      cases hnext
    have h := (hm.starts hr hslot hp hund hu hs hz hstage (pos := k + 1) (f := h) (hstart hh hlast) (by rw [← hpos]; rfl) rfl rfl
      (by rw [hleft]; exact hnext)).1
    rw [hleft] at h
    exact h
  · have hpl := hplan true (.segmentDone u.plan.active k g.kind true false)
    have hst := hm.starts hr hslot hp hund hu hs hz hstage (pos := 0) (f := h) (htakenStart hh hl hq) rfl rfl rfl
      (by rw [hpl, Plan.exchanged_activeBank, hbank]; rfl)
    rw [hpl] at hst
    obtain ⟨hcommit, hmodeKept, -⟩ := u.plan.exchanged_rest none
    refine ⟨?_, hst.2 _ (htaken true _), hst.2 _ (htells true _ _ _ (hdone true false))⟩
    have hplan' : ({ u.plan.exchanged none with segMode := some (u.plan.exchanged none).mode } : Plan) =
        u.plan.exchanged (some u.plan.mode) := by
      unfold Plan.exchanged Plan.swapped
      cases u.plan.active <;> rfl
    have hactive (mode : Option RunMode) : (u.plan.exchanged mode).active = (u.plan.exchanged none).active ∧
        (u.plan.exchanged mode).activeBank = (u.plan.exchanged none).activeBank ∧
        (u.plan.exchanged mode).mode = (u.plan.exchanged none).mode ∧ (u.plan.exchanged mode).commit = (u.plan.exchanged none).commit := by
      unfold Plan.exchanged Plan.swapped Plan.activeBank
      cases u.plan.active <;> exact ⟨rfl, rfl, rfl, rfl⟩
    rw [hplan'] at hst
    obtain ⟨ha, hb, hmd, hcm⟩ := hactive (some u.plan.mode)
    show _ ∧ _ ∧ _ ∧ _ ∧ (0 + 1 = (u.plan.exchanged (some u.plan.mode)).activeBank.length →
      (u.plan.exchanged (some u.plan.mode)).mode = .chained → (u.plan.exchanged (some u.plan.mode)).commit ≠ some .append →
      Reported (.planLow (u.plan.exchanged (some u.plan.mode)).active 0) c (cycleWork s))
    rw [ha, hb, hmd, hcm]
    exact hst.1

/-- Settles O34. -/
theorem moveCompletesAtItsTarget : Obligations.MoveCompletesAtItsTarget := by
  intro s u g m hr hslot hp hund hu hs hseg hmode p y sign turned hlag
  refine ⟨cycleWork s, exec_cycleStart hr, ?_⟩
  intro target dist k last queued holds exchanged c taken completes
  have hsign : sign = y.dir.sign := (RefDir.sign_eq y.dir).symm
  have hturned : turned = y.dir.reverse := by cases h : y.dir <;> simp [turned, h, RefDir.reverse]
  have hexchanged (mode : Option RunMode) : exchanged mode = u.plan.exchanged mode := by
    simp only [exchanged]
    unfold Plan.exchanged Plan.swapped
    cases u.plan.active <;> rfl
  have hm : Movable s u :=
    { state := .inl (by simp [hs])
      ramp := fun h => by rw [hs] at h; cases h
      unlagged := by
        rintro (⟨g', -, hg, hk⟩ | h)
        · rw [hseg] at hg
          cases hg
          have := hlag hk
          rw [hsign] at this
          exact this
        · rw [hs] at h; cases h }
  obtain ⟨hc, -, -⟩ := computing_of_undetected hr hu hund hm.notLocked.1 hm.notLocked.2.1 hm.notLocked.2.2
  have hx : Unwaited s u (unwaited s) := hc.setWait
  have hjacks (r : Ref) : (setRef r (unwaited s)).jacks = (unwaited s).jacks := setRef_jacks r _
  have hsetRef (r : Ref) : (setRef r (unwaited s)).sync =
      { u.sync with ref := r.lift, speed := r.speed, dir := r.dir, dwell := u.sync.dwell, waiting := false } := by
    rw [setRef_sync, hx.sync]
  have hcompletes (ref : Int) (v : Nat) (d : RefDir) (h : SegmentCompleted s u (cycleWork s) g m ref v d) : completes ref v d := by
    obtain ⟨h1, h2, h3, h4⟩ := h
    refine ⟨h1, fun a b c => ?_, h3, fun f rest a b c e => ?_⟩
    · rw [hexchanged]
      exact h2 a b c
    · rw [hexchanged]
      exact h4 f rest a b c e
  have hmove (r : Ref) (hk : g.kind = .move)
      (hstep : refStep (refTop p) (effectiveTarget p g) (effectiveCruise p g) g.accel u.sync.toRef = r)
      (hd : remainingDistance (effectiveTarget p g) r = 0) : completes r.lift r.speed r.dir :=
    hcompletes _ _ _ (hm.segmentCompleted hr hslot hp hund hu hs hmode ⟨hsetRef r, (setRef_plan r _).trans hx.plan,
      (setRef_group r _).trans hx.group, hjacks r⟩ (referenceStage_reached hx hs hseg hk hstep hd))
  have hdist : dist = y.dir.sign * (effectiveTarget p g - y.ref) := by rw [← hsign]; rfl
  have htarget : target g = effectiveTarget p g := rfl
  intro cruise
  refine ⟨fun hk hd => ?_, fun hk hd hv => ?_, fun hk hd hv hlt => ?_, fun hk hn hv => ?_⟩
  · rw [hdist] at hd
    exact hmove _ hk (refStep_there hd) hd
  · have hv : chooseSpeed g.accel cruise y.speed dist.toNat = dist.toNat := by omega
    rw [hdist] at hd hv ⊢
    have hstep := refStep_ahead (top := refTop p) (cruise := cruise) (a := g.accel) (r := u.sync.toRef) hd
    have hlift : u.sync.toRef.lift + u.sync.toRef.dir.sign * (chooseSpeed g.accel cruise u.sync.toRef.speed
        (u.sync.toRef.dir.sign * (effectiveTarget p g - u.sync.toRef.lift)).toNat : Int) = target g := by
      show y.ref + y.dir.sign * (chooseSpeed g.accel cruise y.speed (y.dir.sign * (effectiveTarget p g - y.ref)).toNat : Int) = _
      rw [hv, Int.toNat_of_nonneg hd.le, RefDir.sign_mul_self hd.ne', htarget]
      omega
    rw [hlift, show chooseSpeed g.accel cruise u.sync.toRef.speed
        (u.sync.toRef.dir.sign * (effectiveTarget p g - u.sync.toRef.lift)).toNat = _ from hv] at hstep
    exact hmove _ hk hstep (by unfold remainingDistance; rw [htarget]; simp)
  · have hlt : chooseSpeed g.accel cruise 0 (-dist).toNat = (-dist).toNat := by omega
    rw [hdist] at hd hlt ⊢
    rw [hturned]
    have hstep := refStep_turned (top := refTop p) (cruise := cruise) (a := g.accel) (r := u.sync.toRef) hd hv
    have hlift : u.sync.toRef.lift + u.sync.toRef.dir.reverse.sign * (chooseSpeed g.accel cruise 0
        (-(u.sync.toRef.dir.sign * (effectiveTarget p g - u.sync.toRef.lift))).toNat : Int) = target g := by
      show y.ref + y.dir.reverse.sign * (chooseSpeed g.accel cruise 0 (-(y.dir.sign * (effectiveTarget p g - y.ref))).toNat : Int) = _
      rw [hlt, Int.toNat_of_nonneg (by omega), RefDir.reverse_sign, Int.neg_mul_neg, RefDir.sign_mul_self hd.ne, htarget]
      omega
    rw [hlift, show chooseSpeed g.accel cruise 0 (-(u.sync.toRef.dir.sign * (effectiveTarget p g - u.sync.toRef.lift))).toNat = _ from hlt]
      at hstep
    exact hmove _ hk hstep (by unfold remainingDistance; rw [htarget]; simp)
  · obtain ⟨hdp, hdg, hdj⟩ := dwelt_rest (unwaited s)
    refine hcompletes _ _ _ (hm.segmentCompleted hr hslot hp hund hu hs hmode (dw := some 0) (z := dwelt (unwaited s))
      ⟨?_, hdp.trans hx.plan, hdg.trans hx.group, hdj⟩ (referenceStage_dwelt hx hs hseg hk hn))
    rw [dwelt_sync, hx.sync, ← hv]

end Sys2Proof.Machine

/-! PROOF. A wait cycle holds the reference, and at the limit begins a fault stop (O13). -/

namespace Sys2Proof.Machine

-- One theorem after another, as in the tests: a thread each for this many proofs would pass the memory limit.
set_option Elab.async false

variable {s t u w x : State} {k : Sta} {g : Segment}

/-! ### The wait rule (R130) -/

/-- The wait rule applies, as the statement says it. -/
theorem waitApplies_iff (s : State) : waitApplies s = true ↔
    (s.group.state = .moving ∧ s.plan.segMode.isSome = true ∧ (∃ g ∈ s.segment, g.kind = .move) ∧ s.sync.dir ≠ .none) ∨
      (s.group.state = .stopping ∧ s.group.cause = .command ∧ 0 < s.sync.speed) := by
  unfold waitApplies moveUnderWay
  cases h : s.group.state <;> cases hg : s.segment <;> simp [Nat.pos_iff_ne_zero, and_assoc]

/-- A wait cycle whose count reaches the limit. -/
theorem timesOut_iff (s : State) : timesOut s = true ↔ waitApplies s = true ∧ s.group.params.waitLimit ≤ s.group.waitCount + 1 ∧
    ∃ k, (s.jack k).record.state = .engaged ∧ 100 * (s.group.params.holdBand : Int) < s.sync.dir.sign * (s.jack k).err := by
  unfold timesOut isWaitCycle anyJack lags
  simp only [Bool.and_eq_true, List.any_eq_true, Jack.isIn_eq_true, decide_eq_true_eq, Sta.mem_all, true_and]
  tauto

/-! ### WAIT_TIMEOUT (R131) -/

/-- The group a WAIT_TIMEOUT leaves at the end of its computation. -/
def Group.timedOut (g : Group) : Group :=
  { g with
    state := .stopping, cause := .fault .waitTimeout .none, waitCount := 0, ratesForced := true
    faults := if (∃ e ∈ g.faults, e.kind = .waitTimeout ∧ e.subject = .none) ∨ 16 ≤ g.faults.length then g.faults
      else g.faults ++ [{ kind := .waitTimeout, subject := .none, cycle := g.cycle }]
    overflow := g.overflow || (decide (16 ≤ g.faults.length) &&
      !g.faults.any (fun e => e.kind == .waitTimeout && e.subject == .none)) }

theorem timedOut_listing (g : Group) : { g.listing .waitTimeout .none with
    state := .stopping, cause := .fault .waitTimeout .none, waitCount := 0, ratesForced := true } = g.timedOut := by
  have hany : g.faults.any (fun e => e.kind == .waitTimeout && e.subject == .none) = true ↔
      ∃ e ∈ g.faults, e.kind = .waitTimeout ∧ e.subject = .none := by simp [List.any_eq_true]
  unfold Group.listing Group.timedOut
  by_cases hl : g.faults.any (fun e => e.kind == .waitTimeout && e.subject == .none) = true
  · simp only [hl, if_true, if_pos (Or.inl (hany.mp hl)), Bool.not_true, Bool.and_false, Bool.or_false]
  · by_cases hn : g.faults.length < 16
    · have hnot : ¬ ((∃ e ∈ g.faults, e.kind = .waitTimeout ∧ e.subject = .none) ∨ 16 ≤ g.faults.length) :=
        fun h => h.elim (fun h => hl (hany.mpr h)) (by omega)
      rw [if_neg hl, if_pos hn, if_neg hnot]
      simp [Nat.not_le.mpr hn]
    · rw [if_neg hl, if_neg hn, if_pos (Or.inr (by omega))]
      simp [Nat.not_lt.mp hn, Bool.eq_false_iff.mpr hl]

/-- The computation whose wait cycle times out, before its events are handed over. -/
def timedOut (x : State) : State := handStops (forceReference (waitCycle x))

theorem waitCycle_below (h : s.group.waitCount + 1 < s.group.params.waitLimit) :
    waitCycle s = setWait (s.group.waitCount + 1) true (freezeReference s) := if_neg (by omega)

theorem waitCycle_at (h : s.group.params.waitLimit ≤ s.group.waitCount + 1) :
    waitCycle s = takeDetection .waitTimeout .none (setWait (s.group.waitCount + 1) true (freezeReference s)) := if_pos h

/-- A fault stop without a station as its subject, in the states in which the group waits. -/
theorem timedOut_facts (ha : waitApplies x = true) (hl : x.group.params.waitLimit ≤ x.group.waitCount + 1) :
    (timedOut x).group = x.group.timedOut ∧
    (timedOut x).sync = { x.sync with speed := 0, dir := .none, descent := false, waiting := true } ∧
    (timedOut x).plan = x.plan ∧ (timedOut x).cars = x.cars ∧
    (∀ k, forcedStation ((timedOut x).jack k) = true → ((timedOut x).jack k).rate = 0) ∧
    ∀ k, ((timedOut x).jack k).pos = (x.jack k).pos ∧ ((timedOut x).jack k).link = (x.jack k).link ∧
      ((timedOut x).jack k).mon = (x.jack k).mon ∧
      ((x.jack k).record.state = .engaged → ((timedOut x).jack k).record = (x.jack k).record ∧ ((timedOut x).jack k).rate = 0) := by
  have hstop : faultStops (setWait (x.group.waitCount + 1) true (freezeReference x)) = true := by
    rw [faultStops_congr (s := x) (t := setWait (x.group.waitCount + 1) true (freezeReference x)) rfl rfl]
    rw [waitApplies_iff] at ha
    obtain ⟨h, -⟩ | ⟨h, hc, -⟩ := ha
    · simp [faultStops, h]
    · simp [faultStops, h, hc]
  obtain ⟨hg, hy, -, hj⟩ := takeDetection_stops (f := .waitTimeout) (x := .none) (by simp) hstop
  rw [← waitCycle_at hl] at hg hy hj
  have hp : (waitCycle x).plan = x.plan ∧ (waitCycle x).cars = x.cars := by
    rw [waitCycle_at hl, takeDetection_plan, takeDetection_cars]
    exact ⟨rfl, rfl⟩
  unfold timedOut
  generalize waitCycle x = z at hg hy hj hp
  obtain ⟨h1, h2, h3, h4⟩ := handStops_rest (forceReference z)
  have hjack (k : Sta) : (handStops (forceReference z)).jack k = (z.jack k).forcedToStop (generatorsHeld z) := handStops_jack _ k
  refine ⟨?_, ?_, h3.trans hp.1, h4.trans hp.2, fun k hk => ?_, fun k => ?_⟩
  · rw [h1]
    show { z.group with ratesForced := true } = _
    rw [hg, ← timedOut_listing]
    have : (({ x.group with waitCount := x.group.waitCount + 1 } : Group).listing .waitTimeout .none) =
        { x.group.listing .waitTimeout .none with waitCount := x.group.waitCount + 1 } := by
      unfold Group.listing
      simp only
      split_ifs <;> rfl
    show ({ (({ x.group with waitCount := x.group.waitCount + 1 } : Group).listing .waitTimeout .none) with
      state := .stopping, cause := .fault .waitTimeout .none, waitCount := 0, ratesForced := true } : Group) = _
    rw [this]
  · rw [h2]
    show { z.sync with speed := 0, dir := .none } = _
    rw [hy]
    rfl
  · rw [hjack] at hk ⊢
    exact Jack.forcedToStop_rate _ hk
  · have hz : z.jack k = { x.jack k with
        record := (x.jack k).record.moveByStop
        gen := if (x.jack k).isIn .releasing then (x.jack k).gen.stopForm else (x.jack k).gen } := hj k
    have hsame (held : Bool) (j : Jack) : (j.forcedToStop held).pos = j.pos ∧ (j.forcedToStop held).link = j.link ∧
        (j.forcedToStop held).mon = j.mon := by
      unfold Jack.forcedToStop
      split_ifs <;> exact ⟨rfl, rfl, rfl⟩
    obtain ⟨g1, g2, g3⟩ := hsame (generatorsHeld z) (z.jack k)
    rw [hjack, g1, g2, g3, hz]
    refine ⟨rfl, rfl, rfl, fun he => ?_⟩
    have hmove : (x.jack k).record.moveByStop = (x.jack k).record := by
      unfold StationRec.moveByStop
      rw [he]
    refine ⟨(Jack.forcedToStop_record _ _).trans hmove, ?_⟩
    unfold Jack.forcedToStop
    rw [if_pos]
    · rfl
    · unfold forcedStation Jack.assigned Jack.isIn
      simp only [hmove, he]
      rfl

/-! ### The cycle start that waits (R131) -/

theorem computation_waited (hf : forcedAtStart w = false) (ht : tripDetections (formErrors w) = [])
    (hw : isWaitCycle (formErrors w) = true) :
    computation w = handOver (finishComputation (timesOut (formErrors w)) true (waitCycle (formErrors w))) := by
  unfold computation
  simp only [ht, hf, List.isEmpty_nil, Bool.not_true, Bool.or_self, Bool.false_eq_true, if_false]
  exact if_pos hw

/-- What a calm cycle start that waits begins its computation with. -/
theorem waits_of_undetected (hr : s.pins.resetAsserted = false) (hu : exec .take s = .next u) (h : Undetected s)
    (ha : waitApplies u = true) (hforced : s.group.state = .stopping → s.group.ratesForced = false)
    (hlag : ∃ k, (s.jack k).record.state = .engaged ∧ 100 * (s.group.params.holdBand : Int) < u.sync.dir.sign * errorAt s k) :
    Computing s u (formErrors (blockWork (begun s))) ∧ waitApplies (formErrors (blockWork (begun s))) = true ∧
    computation (blockWork (begun s)) = handOver (finishComputation (timesOut (formErrors (blockWork (begun s)))) true
      (waitCycle (formErrors (blockWork (begun s))))) ∧
    (timesOut (formErrors (blockWork (begun s))) = true ↔ s.group.params.waitLimit ≤ s.group.waitCount + 1) ∧
    (blockWork (begun s)).group.state ≠ .landing ∧ forcedEarlier (blockWork (begun s)) = false := by
  have hug : u.group = s.group := by
    cases (exec_take hr).symm.trans hu
    exact (handOver_group _).trans (takeAtCycleStart_group _)
  have hap := (waitApplies_iff u).mp ha
  rw [hug] at hap
  have hs : s.group.state = .moving ∨ s.group.state = .stopping := hap.imp (·.1) (·.1)
  obtain ⟨hc, ht, -⟩ := computing_of_undetected hr hu h (by rintro e; simp [e] at hs) (by rintro e; simp [e] at hs)
    (by intro e; simp [e] at hs)
  have hwg := (formErrors_group (blockWork (begun s))).symm.trans hc.group
  have hwy := (formErrors_sync (blockWork (begun s))).symm.trans hc.sync
  have hforce : forcedAtStart (blockWork (begun s)) = false := by
    unfold forcedAtStart faultStopUnderWay
    rw [hwg, hwy]
    obtain ⟨e, -⟩ | ⟨e, hcause, hv⟩ := hap
    · simp [e]
    · simp [e, hcause, Nat.pos_iff_ne_zero.mp hv]
  have hland : (blockWork (begun s)).group.state ≠ .landing := by
    rw [hwg]
    intro e
    rw [show s.group.state = .landing from e] at hs
    simp at hs
  have hearly : forcedEarlier (blockWork (begun s)) = false := by
    unfold forcedEarlier
    rw [hwg]
    show ((s.group.state == .stopping) && s.group.ratesForced) = false
    obtain e | e := hs
    · simp [e]
    · simp [hforced e]
  generalize hx : formErrors (blockWork (begun s)) = x at *
  have hseg : x.segment = u.segment := by
    unfold State.segment
    rw [hc.plan, hc.sync]
  have hwa : waitApplies x = true := by
    rw [waitApplies_iff, hseg, hc.plan, hc.sync, hc.group]
    exact hap
  have hlags : ∃ k, (x.jack k).record.state = .engaged ∧ 100 * (x.group.params.holdBand : Int) < x.sync.dir.sign * (x.jack k).err := by
    obtain ⟨k, he, hk⟩ := hlag
    refine ⟨k, ?_, ?_⟩
    · rw [hc.record]
      exact he
    · rw [hc.err, hc.sync, hc.group]
      exact hk
  have hwait : isWaitCycle x = true := by
    obtain ⟨k, he, hk⟩ := hlags
    unfold isWaitCycle anyJack lags
    simp only [Bool.and_eq_true, List.any_eq_true, Jack.isIn_eq_true, decide_eq_true_eq]
    exact ⟨hwa, k, Sta.mem_all k, he, hk⟩
  refine ⟨hc, hwa, ?_, ?_, hland, hearly⟩
  · subst hx
    exact computation_waited hforce ht hwait
  · rw [timesOut_iff, hc.group]
    exact ⟨fun h => h.2.1, fun h => ⟨hwa, h, by rw [hc.group] at hlags; exact hlags⟩⟩

/-- Settles O13. -/
theorem waitTimeoutBeginsAFaultStop : Obligations.WaitTimeoutBeginsAFaultStop := by
  unfold Obligations.WaitTimeoutBeginsAFaultStop
  intro sign applies stopped
  have hsign (d : RefDir) : sign d = d.sign := (RefDir.sign_eq d).symm
  refine ⟨fun s hs => ?_, fun s u hr hslot hp hund hu ha hforced hlag => ⟨cycleWork s, exec_cycleStart hr, ?_⟩⟩
  · intro due
    have hdue : due ↔ timesOut s = true := by
      rw [timesOut_iff, waitApplies_iff, ← hsign]
    have hexec : exec .waitTimeout s = .next (timeoutWork s) := congrArg Host.Outcome.next (unlessReset_of_running hs.1 _)
    rw [hexec, hdue]
    refine ⟨fun h => congrArg _ (if_neg h), fun h => ⟨_, rfl, ?_⟩⟩
    have ht : timeoutWork s = settleBrakes (handOver (timedOut s)) := if_pos h
    obtain ⟨ha, hl, -⟩ := (timesOut_iff s).mp h
    obtain ⟨h1, h2, h3, h4, h5, h6⟩ := timedOut_facts ha hl
    rw [ht]
    generalize timedOut s = z at h1 h2 h3 h4 h5 h6
    have hj (k : Sta) : ∃ b, (settleBrakes (handOver z)).jack k = { z.jack k with gen := { (z.jack k).gen with brake := b } } :=
      ⟨_, (settleBrakes_jack _ k).trans (by rw [handOver_jack])⟩
    refine ⟨⟨(handOver_group z).trans h1, fun k hk => ?_⟩, (handOver_sync z).trans h2, (handOver_plan z).trans h3,
      (handOver_cars z).trans h4, fun k => ?_⟩
    · obtain ⟨b, hb⟩ := hj k
      rw [hb] at hk ⊢
      exact h5 k hk
    · obtain ⟨b, hb⟩ := hj k
      rw [hb]
      exact h6 k
  · obtain ⟨hc, hwa, hcomp, hto, hland, hearly⟩ := waits_of_undetected hr hu hund ((waitApplies_iff u).mpr ha) hforced
      (by simpa only [hsign] using hlag)
    have hcycle : cycleWork s = settleBrakes (streamWork (computation (blockWork (begun s)))) := by
      refine (cycleWork_of_unstopped hslot fun h => ?_).trans (by rw [computeCycle_of_not_landing hland])
      rw [hearly] at h
      cases h.2
    have hxplan := hc.plan
    obtain ⟨hcg, hcy, hcp, hcj⟩ := closed_same (computation (blockWork (begun s)))
    rw [hcycle]
    generalize formErrors (blockWork (begun s)) = x at *
    have hcount : x.group.params.waitLimit = s.group.params.waitLimit ∧ x.group.waitCount = s.group.waitCount := by
      rw [hc.group]
      exact ⟨rfl, rfl⟩
    by_cases hl : s.group.params.waitLimit ≤ s.group.waitCount + 1
    · have hx : computation (blockWork (begun s)) = handOver (timedOut x) := by
        rw [hcomp, hto.mpr hl]
        rfl
      obtain ⟨h1, h2, h3, -, h5, -⟩ := timedOut_facts hwa (by rw [hcount.1, hcount.2]; exact hl)
      generalize timedOut x = z at hx h1 h2 h3 h5
      refine ⟨hcp.trans (by rw [hx, handOver_plan, h3, hxplan]), fun h => absurd hl (by omega), fun _ => ⟨⟨?_, fun k hk => ?_⟩, ?_⟩⟩
      · rw [hcg, hx, handOver_group, h1, hc.group]
        rfl
      · obtain ⟨b, hb⟩ := hcj k
        rw [hx] at hk hb ⊢
        rw [handOver_jack] at hb
        rw [hb] at hk ⊢
        exact h5 k hk
      · rw [hcy, hx, handOver_sync, h2, hc.sync]
    · have hfalse : timesOut x = false := by
        rw [← Bool.not_eq_true, hto]
        exact hl
      have hbelow : waitCycle x = setWait (s.group.waitCount + 1) true (freezeReference x) := by
        rw [waitCycle_below (by rw [hcount.1, hcount.2]; omega), hcount.2]
      have hx : computation (blockWork (begun s)) = handOver (handRates 0 (waitCycle x)) := by
        rw [hcomp, hfalse]
        rfl
      have hwg : (waitCycle x).group = { s.group with cycle := s.group.cycle + 1, waitCount := s.group.waitCount + 1 } := by
        rw [hbelow]
        show { x.group with waitCount := s.group.waitCount + 1 } = _
        rw [hc.group]
      have hwy : (waitCycle x).sync = { u.sync with speed := 0, waiting := true } := by
        rw [hbelow]
        show { x.sync with speed := 0, waiting := true } = _
        rw [hc.sync]
      have hwj : (waitCycle x).jacks = x.jacks := by
        rw [hbelow]
        rfl
      have hwp : (waitCycle x).plan = u.plan := by
        rw [hbelow]
        exact hxplan
      have hstate : s.group.state = .moving ∨ s.group.state = .stopping := by
        have := (waitApplies_iff x).mp hwa
        rw [hc.group] at this
        exact this.imp (·.1) (·.1)
      have hcommand := hc.commanded hwj (by rw [hwg]) (by
          unfold generatorsHeld
          rw [hwg]
          show (!s.group.permit || s.group.state == .lockedOut) = false
          rw [hp]
          obtain h | h := hstate <;> simp [h]) (by
          unfold syncCommands
          rw [hwg]
          obtain h | h := hstate <;> simp [h]) 0 (t := settleBrakes (streamWork (computation (blockWork (begun s))))) (fun k => by
          obtain ⟨b, hb⟩ := hcj k
          rw [hx] at hb ⊢
          rw [handOver_jack] at hb
          exact ⟨b, hb⟩)
      obtain ⟨g1, g2, g3⟩ := handRates_rest 0 (waitCycle x)
      rw [hwy] at hcommand
      refine ⟨hcp.trans (by rw [hx, handOver_plan, g3, hwp]), fun _ => ⟨?_, ?_, hcommand⟩, fun h => absurd h hl⟩
      · rw [hcg, hx, handOver_group, g1, hwg]
      · rw [hcy, hx, handOver_sync, g2, hwy]

end Sys2Proof.Machine

/-! PROOF. What the work of a cycle start is made of, and what no part of it does (O9, O10, O18, O20). -/

namespace Sys2Proof.Machine

-- One theorem after another, as in the tests: a thread each for this many proofs would pass the memory limit.
set_option Elab.async false

variable {geo : Prop} {s t u b : State} {k i : Sta}

/-! ### The parts of a cycle start's work -/

/-- The work of a cycle start past the records of the tracking monitor, the load link and the imbalance marks: events, detections, station
records, values handed to generators, the reference and the plan, the group's items, and group states other than LOCKED_OUT. Where `geo`,
the marks of cars are written as well. -/
inductive Acts (geo : Prop) : State → State → Prop where
  | refl (s : State) : Acts geo s s
  | trans {s t u : State} : Acts geo s t → Acts geo t u → Acts geo s u
  | line (l : Line) (s : State) : Acts geo s { s with line := l }
  | detection (f : FaultKind) (x : Subject) (s : State) : Acts geo s (takeDetection f x s)
  | updRec (k : Sta) (f : StationRec → StationRec) (s : State) : Acts geo s (s.updRec k f)
  | handRate (k : Sta) (r : Int) (s : State) : Acts geo s (handRate k r s)
  | recordRate (k : Sta) (r : Int) (s : State) : Acts geo s (recordRate k r s)
  | orderMove (k : Sta) (n : Nat) (d : Dir) (m : Nat) (s : State) : Acts geo s (orderMove k n d m s)
  | formErrors (s : State) : Acts geo s (formErrors s)
  | sync (y : Sync) (p : Plan) (s : State) (h : s.group.state = .lockedOut → s.sync.speed = 0 → y.speed = 0) :
      Acts geo s { s with sync := y, plan := p }
  | group (g : Group) (s : State) (h : g.state = s.group.state) : Acts geo s { s with group := g }
  | enter (g : GroupState) (s : State) (hs : s.group.state ≠ .lockedOut) (hg : g ≠ .lockedOut) : Acts geo s (enterGroup g s)
  | updCar (h : geo) (i : Nat) (f : Car → Car) (s : State) (hf : ∀ c, (f c).fixed = c.fixed) : Acts geo s (s.updCar i f)

theorem Acts.forStations {f : Sta → State → State} (h : ∀ k t, Acts geo t (f k t)) (s : State) : Acts geo s (forStations f s) :=
  forStations_keeps (P := fun t => Acts geo s t) (fun k t ht => ht.trans (h k t)) (.refl s)

theorem Acts.foldl {α : Type} {f : State → α → State} (h : ∀ t x, Acts geo t (f t x)) (l : List α) (s : State) :
    Acts geo s (l.foldl f s) := by
  induction l generalizing s with
  | nil => exact .refl s
  | cons x l ih => exact (h s x).trans (ih _)

theorem Acts.raise (e : Event) (s : State) : Acts geo s (raise e s) := .line _ s

theorem Acts.handOver (s : State) : Acts geo s (handOver s) := by
  have h : Machine.handOver s = { s with line := (Machine.handOver s).line } :=
    State.ext_jack (fun k => handOver_jack s k) (handOver_cars s) (handOver_group s) (handOver_sync s) (handOver_plan s) rfl
      (handOver_link s) (handOver_pins s) (handOver_pending s)
  rw [h]
  exact .line _ s

theorem Acts.takeDetections (l : List Detection) (s : State) : Acts geo s (takeDetections l s) :=
  takeDetections_keeps (P := fun t => Acts geo s t) (fun f x t ht => ht.trans (.detection f x t)) (.refl s) l

theorem Acts.ite {c : Prop} [Decidable c] (ht : c → Acts geo s t) (hu : ¬ c → Acts geo s u) : Acts geo s (if c then t else u) := by
  split_ifs with h
  · exact ht h
  · exact hu h

theorem Acts.slipEvent (b : State) (k : Sta) (s : State) : Acts geo s (slipEvent b k s) := by
  unfold Machine.slipEvent raiseSlip
  split
  · exact .ite (fun _ => .raise _ s) fun _ => .refl s
  · exact .refl s

/-! ### The geometry checker -/

theorem Acts.checkTwist (h : geo) (i : Nat) (s : State) : Acts geo s (checkTwist i s) := by
  unfold Machine.checkTwist
  split
  · exact .refl s
  · next c _ =>
    have hupd (b : Bool) (x : Option Int) : Acts geo s (s.updCar i fun c => { c with lastTwist := x, warnRaised := b }) :=
      .updCar h i _ s fun _ => rfl
    simp only
    split_ifs
    · exact (hupd _ _).trans ((Acts.raise _ _).trans (.detection _ _ _))
    · exact (hupd _ _).trans (.detection _ _ _)
    · exact (hupd _ _).trans (.raise _ _)
    · exact hupd _ _

theorem Acts.checkCoupling (h : geo) (i : Nat) (s : State) : Acts geo s (checkCoupling i s) := by
  unfold Machine.checkCoupling
  split
  · have hupd (b : Bool) (x : Option Int) : Acts geo s (s.updCar i fun c => { c with lastStep := x, couplingSet := b }) :=
      .updCar h i _ s fun _ => rfl
    simp only
    split_ifs
    · exact (hupd _ _).trans (.detection _ _ _)
    · exact hupd _ _
  · exact .refl s

theorem Acts.geometryChecks (h : geo) (s : State) : Acts geo s (geometryChecks s) :=
  .foldl (fun t i => (Acts.checkTwist h i t).trans (.checkCoupling h i _)) _ s

/-! ### The contact sequencer -/

theorem Acts.whileFound {st : StationState} {f : State → State} (h : Acts geo s (f s)) : Acts geo s (whileFound k st f s) :=
  .ite (fun _ => h) fun _ => .refl s

theorem Acts.engageStation (k : Sta) (s : State) : Acts geo s (engageStation k s) :=
  ((Acts.updRec k _ s).trans (.handRate k 0 _)).trans (.raise _ _)

theorem Acts.judgeSeeking (b : State) (k : Sta) (s : State) : Acts geo s (judgeSeeking b k s) := by
  unfold Machine.judgeSeeking beginConfirm
  simp only
  split_ifs
  · exact .whileFound (.ite (fun _ => .engageStation k s) fun _ => (Acts.updRec k _ s).trans (.handRate k 0 _))
  · exact .detection _ _ s
  · exact .whileFound (.handRate k _ s)

theorem Acts.judgeConfirming (b : State) (k : Sta) (s : State) : Acts geo s (judgeConfirming b k s) := by
  unfold Machine.judgeConfirming
  simp only
  split_ifs
  · exact .whileFound (.ite (fun _ => .engageStation k s) fun _ => (Acts.updRec k _ s).trans (.handRate k 0 _))
  · exact .detection _ _ s
  · exact .whileFound ((Acts.updRec k _ s).trans (.handRate k _ _))
  · exact .whileFound (.handRate k 0 s)

theorem Acts.judgeEngaging (b : State) (k : Sta) (s : State) : Acts geo s (judgeEngaging b k s) := by
  unfold Machine.judgeEngaging
  split
  · exact .judgeSeeking b k s
  · exact .judgeConfirming b k s
  · exact .whileFound (.handRate k 0 s)
  all_goals exact .refl s

theorem Acts.poisedTest (s : State) : Acts geo s (poisedTest s) := by
  refine .ite (fun h => ?_) fun _ => .refl s
  refine Acts.trans (t := clearReference s) (.sync _ _ s fun _ _ => rfl) (.enter _ _ ?_ (by simp))
  show s.group.state ≠ .lockedOut
  rw [h.1]
  simp

theorem Acts.landedCheck (s : State) : Acts geo s (landedCheck s) :=
  .ite (fun h => .enter _ s (by rw [h.1]; simp) (by simp)) fun _ => .refl s

theorem Acts.finishRelease (k : Sta) (s : State) : Acts geo s (finishRelease k s) :=
  ((Acts.updRec k _ s).trans (.raise _ _)).trans (.landedCheck _)

theorem Acts.startRelease (k : Sta) (s : State) : Acts geo s (startRelease k s) := (Acts.updRec k _ s).trans (.handRate k _ _)

theorem Acts.releaseAll (s : State) : Acts geo s (releaseAll s) := .forStations (fun k t => .whileFound (.startRelease k t)) s

theorem Acts.confirmRelease (k : Sta) (s : State) : Acts geo s (confirmRelease k s) := by
  unfold Machine.confirmRelease
  simp only
  split_ifs
  · exact ((Acts.updRec k _ s).trans (.handRate k 0 _)).trans (.finishRelease k _)
  · exact ((Acts.updRec k _ s).trans (.recordRate k _ _)).trans (.orderMove k _ _ _ _)

theorem Acts.judgeReleasing (b : State) (k : Sta) (s : State) : Acts geo s (judgeReleasing b k s) := by
  unfold Machine.judgeReleasing
  simp only
  split_ifs
  · exact .whileFound (.recordRate k _ s)
  · exact .whileFound (.confirmRelease k s)
  · exact .detection _ _ s
  · exact .whileFound ((Acts.updRec k _ s).trans (.handRate k _ _))

theorem Acts.judgeLanding (b : State) (k : Sta) (s : State) : Acts geo s (judgeLanding b k s) := by
  unfold Machine.judgeLanding
  split
  · exact .judgeReleasing b k s
  · exact .whileFound (.startRelease k s)
  all_goals exact .refl s

theorem Acts.sequencerWork (b s : State) : Acts geo s (sequencerWork b s) := by
  unfold Machine.sequencerWork
  split
  · exact (Acts.forStations (.judgeEngaging b) s).trans (.poisedTest _)
  · exact .ite (fun _ => .refl s) fun _ => .forStations (.judgeLanding b) s
  all_goals exact .refl s

/-! ### The synchronisation unit -/

theorem Acts.plan (p : Plan) (y : Sync) (s : State) (h : y.speed = s.sync.speed) : Acts geo s { s with sync := y, plan := p } :=
  .sync y p s fun _ h0 => h.trans h0

theorem Acts.startSegment (hs : s.group.state ≠ .lockedOut) : Acts geo s (startSegment s) := by
  unfold Machine.startSegment
  split
  · exact .refl s
  · exact .ite (fun _ => (Acts.sync _ _ s fun h => absurd h hs).trans (.raise _ _)) fun _ => .sync _ _ s fun h => absurd h hs

theorem Acts.takePlan (c : CommitKind) (v : Bool) (s : State) : Acts geo s (takePlan c v s) :=
  (Acts.plan s.plan.swapped { s.sync with planPos := 0, dwell := none } s rfl).trans (.raise _ _)

theorem Acts.enterHolding (hs : s.group.state ≠ .lockedOut) : Acts geo s (enterHolding s) :=
  (Acts.sync { s.sync with speed := 0, dir := .none } s.plan s fun _ _ => rfl).trans (.enter _ _ hs (by simp))

theorem Acts.completeSegment (g : Segment) (hs : s.group.state ≠ .lockedOut) : Acts geo s (completeSegment g s) := by
  have hleft : Acts geo s (segmentLeft s) := .plan _ _ s rfl
  have htake (c : Bool) (t : State) (ht : t.group = s.group) : (Machine.takePlan .append c t).group.state ≠ .lockedOut := by
    show t.group.state ≠ _
    rw [ht]
    exact hs
  obtain ⟨h1, h2, h3, h4⟩ := completeSegment_cases g s
  by_cases hh : holdsAfter g s.plan.segMode = true
  · by_cases hq : s.sync.planPos + 1 = s.plan.activeBank.length ∧ s.plan.commit = some .append
    · rw [h2 hh hq.1 hq.2]
      exact ((hleft.trans (.raise _ _)).trans (.takePlan _ _ _)).trans (.enterHolding (htake _ _ rfl))
    · rw [h1 (.inl hh) fun hl hc => hq ⟨hl, hc⟩]
      exact (hleft.trans (.raise _ _)).trans (.enterHolding hs)
  · by_cases hl : s.sync.planPos + 1 = s.plan.activeBank.length
    · by_cases hc : s.plan.commit = some .append
      · rw [h4 hh hl hc]
        exact ((hleft.trans (.raise _ _)).trans (.takePlan _ _ _)).trans (.startSegment (htake _ _ rfl))
      · rw [h1 (.inr hl) fun _ => hc]
        exact (hleft.trans (.raise _ _)).trans (.enterHolding hs)
    · rw [h3 hh hl]
      exact hleft.trans (.startSegment hs)

theorem Acts.setRef (r : Ref) (hs : s.group.state ≠ .lockedOut) : Acts geo s (setRef r s) := .sync _ s.plan s fun h => absurd h hs

theorem Acts.referenceStage (s : State) : Acts geo s (referenceStage s).state := by
  unfold Machine.referenceStage
  split
  · next h =>
    have hs : s.group.state ≠ .lockedOut := by rw [h]; simp
    split
    · split
      · exact .ite (fun _ => (Acts.setRef _ hs).trans (.completeSegment _ hs)) fun _ => .setRef _ hs
      · exact .ite (fun _ => (Acts.plan s.plan _ s rfl).trans (.completeSegment _ hs)) fun _ => .plan s.plan _ s rfl
    · exact .refl s
  · next h =>
    have hs : s.group.state ≠ .lockedOut := by rw [h]; simp
    split_ifs
    · exact .setRef _ hs
    · exact .refl s
  · next h =>
    have hs : s.group.state ≠ .lockedOut := by rw [h]; simp
    split_ifs
    · unfold descentStep
      simp only
      split_ifs
      · exact (Acts.setRef _ hs).trans (.plan s.plan _ _ rfl)
      · exact .setRef _ hs
    · exact .refl s
  · exact .refl s

theorem Acts.handRates (v : Nat) (s : State) : Acts geo s (handRates v s) :=
  .ite (fun _ => .forStations (fun k t => .ite (fun _ => .handRate k _ t) fun _ => .refl t) s) fun _ => .refl s

theorem Acts.markForced (s : State) : Acts geo s (markForced s) := .group _ s rfl

theorem Acts.stopsHanded (s : State) : Acts geo s (stopsHanded s) :=
  .forStations (fun k t => .ite (fun _ => .handRate k 0 t) fun _ => .refl t) s

theorem Acts.handStops (s : State) : Acts geo s (handStops s) := by
  rw [handStops_eq]
  exact (Acts.stopsHanded s).trans (.markForced _)

theorem Acts.setWait (n : Nat) (v : Bool) (s : State) : Acts geo s (setWait n v s) :=
  Acts.trans (t := { s with group := { s.group with waitCount := n } }) (.group _ s rfl) (.plan s.plan _ _ rfl)

theorem Acts.finishComputation (f w : Bool) (s : State) : Acts geo s (finishComputation f w s) := by
  unfold Machine.finishComputation
  split_ifs
  · exact Acts.trans (t := forceReference s) (.sync _ s.plan s fun _ _ => rfl) (.handStops _)
  · exact .handRates _ s
  · exact (Acts.referenceStage s).trans (.handRates _ _)

theorem Acts.waitCycle (s : State) : Acts geo s (waitCycle s) := by
  have h : Acts geo s (Machine.setWait (s.group.waitCount + 1) true (freezeReference s)) :=
    Acts.trans (t := freezeReference s) (.sync _ s.plan s fun _ _ => rfl) (.setWait _ _ _)
  exact .ite (fun _ => h.trans (.detection _ _ _)) fun _ => h

theorem Acts.computation (s : State) : Acts geo s (computation s) := by
  have h : Acts geo s (Machine.takeDetections (tripDetections (Machine.formErrors s)) (Machine.formErrors s)) :=
    (Acts.formErrors s).trans (.takeDetections _ _)
  unfold Machine.computation
  simp only
  split_ifs
  · exact ((h.trans (.setWait _ _ _)).trans (.finishComputation _ _ _)).trans (.handOver _)
  · exact ((h.trans (.waitCycle _)).trans (.finishComputation _ _ _)).trans (.handOver _)
  · exact ((h.trans (.setWait _ _ _)).trans (.finishComputation _ _ _)).trans (.handOver _)

theorem Acts.computeCycle (s : State) : Acts geo s (computeCycle s) := by
  unfold Machine.computeCycle
  simp only
  split_ifs
  · exact (Acts.computation s).trans (.releaseAll _)
  · exact .computation s

theorem Acts.stopTest (f : Bool) (s : State) : Acts geo s (stopTest f s) := by
  refine .ite (fun h => ?_) fun _ => .refl s
  refine (Acts.trans (t := clearWait s) (.group _ s rfl) (.enter _ _ ?_ (by simp))).trans (.handOver _)
  show s.group.state ≠ .lockedOut
  rw [h.1]
  simp

end Sys2Proof.Machine

/-! PROOF. What a cycle start keeps of the tracking monitor, and the halt of a lockout (O9, O20). -/

namespace Sys2Proof.Machine

-- One theorem after another, as in the tests: a thread each for this many proofs would pass the memory limit.
set_option Elab.async false

variable {geo : Prop} {s t u b : State} {k i : Sta}

/-! ### The monitor's records and the halt of LOCKED_OUT (R109) -/

/-- The reference and every generator at rest, with nothing pending. -/
def Halted (s : State) : Prop := s.sync.speed = 0 ∧ ∀ i, (s.jack i).gen.run = .idle ∧ (s.jack i).gen.pending = none

/-- From `s` to `t` the counts stand; LOCKED_OUT stands, and an entry to it latches every rest count and halts the group, as it stays while it
lasts; the rest of the monitors stands. -/
structure Watches (s t : State) : Prop where
  locked : s.group.state = .lockedOut → t.group.state = .lockedOut
  pos : ∀ k, (t.jack k).pos = (s.jack k).pos
  mon : ∀ k, (t.jack k).mon = if t.group.state = .lockedOut ∧ s.group.state ≠ .lockedOut then
    { (s.jack k).mon with rest := (s.jack k).pos.count } else (s.jack k).mon
  halted : t.group.state = .lockedOut → (s.group.state = .lockedOut → Halted s) → Halted t

theorem Watches.trans (h : Watches s t) (g : Watches t u) : Watches s u where
  locked := fun hs => g.locked (h.locked hs)
  pos := fun k => (g.pos k).trans (h.pos k)
  mon := fun k => by
    rw [g.mon, h.mon, h.pos]
    by_cases hs : s.group.state = .lockedOut
    · have ht := h.locked hs
      simp [hs, ht]
    · by_cases ht : t.group.state = .lockedOut
      · have hu := g.locked ht
        simp [hs, ht, hu]
      · simp [hs, ht]
  halted := fun hu hs => g.halted hu fun ht => h.halted ht hs

/-- Work that neither enters nor leaves LOCKED_OUT. -/
theorem Watches.of_state (hg : t.group.state = .lockedOut ↔ s.group.state = .lockedOut) (hp : ∀ k, (t.jack k).pos = (s.jack k).pos)
    (hm : ∀ k, (t.jack k).mon = (s.jack k).mon) (hh : s.group.state = .lockedOut → Halted s → Halted t) : Watches s t where
  locked := hg.mpr
  pos := hp
  mon := fun k => by
    rw [hm, if_neg]
    rw [hg]
    exact fun h => h.2 h.1
  halted := fun ht hs => hh (hg.mp ht) (hs (hg.mp ht))

theorem Watches.refl (s : State) : Watches s s := .of_state Iff.rfl (fun _ => rfl) (fun _ => rfl) fun _ h => h

/-- Work that changes neither the stations nor the group's state, and no speed but to 0. -/
theorem Watches.of_jacks (hg : t.group.state = s.group.state) (hj : t.jacks = s.jacks)
    (hy : s.group.state = .lockedOut → s.sync.speed = 0 → t.sync.speed = 0) : Watches s t := by
  have hjack (k : Sta) : t.jack k = s.jack k := congrArg (fun p => p.get k) hj
  exact .of_state (by rw [hg]) (fun k => by rw [hjack]) (fun k => by rw [hjack]) fun hs ⟨h0, h⟩ =>
    ⟨hy hs h0, fun i => by rw [hjack]; exact h i⟩

/-- Work on the stations that leaves their counts and monitors, and every generator of LOCKED_OUT at rest. -/
theorem Watches.of_stations (hg : t.group = s.group) (hy : t.sync = s.sync) (hp : ∀ k, (t.jack k).pos = (s.jack k).pos)
    (hm : ∀ k, (t.jack k).mon = (s.jack k).mon)
    (hr : ∀ k, s.group.state = .lockedOut → (s.jack k).gen.run = .idle → (s.jack k).gen.pending = none →
      (t.jack k).gen.run = .idle ∧ (t.jack k).gen.pending = none) : Watches s t :=
  .of_state (by rw [hg]) hp hm fun hl ⟨h0, h⟩ => ⟨by rw [hy]; exact h0, fun i => hr i hl (h i).1 (h i).2⟩

theorem generatorsHeld_of_lockedOut (h : s.group.state = .lockedOut) : generatorsHeld s = true := by
  unfold generatorsHeld
  rw [h]
  simp

theorem Watches.updJack {f : Jack → Jack} (hp : (f (s.jack k)).pos = (s.jack k).pos) (hm : (f (s.jack k)).mon = (s.jack k).mon)
    (hr : s.group.state = .lockedOut → (f (s.jack k)).gen.run = (s.jack k).gen.run ∧ (f (s.jack k)).gen.pending = (s.jack k).gen.pending) :
    Watches s (s.updJack k f) := by
  refine .of_stations rfl rfl (fun i => ?_) (fun i => ?_) fun i hl h1 h2 => ?_
  · by_cases hi : i = k
    · subst hi; rw [updJack_jack_self, hp]
    · rw [updJack_jack_ne _ _ hi]
  · by_cases hi : i = k
    · subst hi; rw [updJack_jack_self, hm]
    · rw [updJack_jack_ne _ _ hi]
  · by_cases hi : i = k
    · subst hi
      obtain ⟨g1, g2⟩ := hr hl
      rw [updJack_jack_self, g1, g2]
      exact ⟨h1, h2⟩
    · rw [updJack_jack_ne _ _ hi]
      exact ⟨h1, h2⟩

/-- A generator at rest with nothing pending stays so through the end of its station's move. -/
theorem Jack.moveStopped_halted {j : Jack} (hr : j.gen.run = .idle) : j.moveStopped.gen = j.gen := by
  have hs : j.gen.stopForm = j.gen := by
    unfold Generator.stopForm
    rw [hr]
  unfold Jack.moveStopped
  split
  · rfl
  · split_ifs
    · rfl
    · exact hs

theorem Jack.struck_halted {f : FaultKind} {x : Subject} {j : Jack} (hr : j.gen.run = .idle) : (j.struck f x k).gen = j.gen := by
  have hs : j.gen.stopForm = j.gen := by
    unfold Generator.stopForm
    rw [hr]
  have htrim : j.trimEnded.gen = j.gen := by
    unfold Jack.trimEnded
    split
    · split_ifs
      · exact Jack.moveStopped_halted hr
      · rfl
    · rfl
  have hfault : (j.faultedBy f).gen = j.gen := by
    unfold Jack.faultedBy
    split_ifs
    · rfl
    · rfl
    · exact Jack.moveStopped_halted hr
    · show j.moveStopped.gen.stopForm = j.gen
      rw [Jack.moveStopped_halted hr, hs]
  unfold Jack.struck
  split
  · split_ifs
    · exact hfault
    · rfl
  · exact htrim
  · exact htrim
  · rfl

theorem Jack.struck_same (f : FaultKind) (x : Subject) (k : Sta) (j : Jack) : (j.struck f x k).pos = j.pos ∧ (j.struck f x k).mon = j.mon ∧
    (j.struck f x k).link = j.link ∧ (j.struck f x k).imbalance = j.imbalance := by
  have hmove (j : Jack) : j.moveStopped.pos = j.pos ∧ j.moveStopped.mon = j.mon ∧ j.moveStopped.link = j.link ∧
      j.moveStopped.imbalance = j.imbalance := by
    obtain ⟨m, n, p, h⟩ := j.moveStopped_same
    rw [h]
    exact ⟨rfl, rfl, rfl, rfl⟩
  have htrim : j.trimEnded.pos = j.pos ∧ j.trimEnded.mon = j.mon ∧ j.trimEnded.link = j.link ∧ j.trimEnded.imbalance = j.imbalance := by
    unfold Jack.trimEnded
    split
    · split_ifs
      · exact hmove j
      · exact ⟨rfl, rfl, rfl, rfl⟩
    · exact ⟨rfl, rfl, rfl, rfl⟩
  have hfault : (j.faultedBy f).pos = j.pos ∧ (j.faultedBy f).mon = j.mon ∧ (j.faultedBy f).link = j.link ∧
      (j.faultedBy f).imbalance = j.imbalance := by
    unfold Jack.faultedBy
    split_ifs
    · exact ⟨rfl, rfl, rfl, rfl⟩
    · exact ⟨rfl, rfl, rfl, rfl⟩
    · exact hmove j
    · exact hmove j
  unfold Jack.struck
  split
  · split_ifs
    · exact hfault
    · exact ⟨rfl, rfl, rfl, rfl⟩
  · exact htrim
  · exact htrim
  · exact ⟨rfl, rfl, rfl, rfl⟩

/-! ### A detection, case by case -/

/-- A station as a stop moves it (R105). -/
def Jack.stopped (j : Jack) : Jack :=
  { j with record := j.record.moveByStop, gen := if j.isIn .releasing then j.gen.stopForm else j.gen }

/-- What a detection makes of the group and of every station: it acts on the stations alone, begins a fault stop, or locks the group out. -/
theorem takeDetection_cases (f : FaultKind) (x : Subject) (s : State) :
    ((faultStops s = false ∧ (f = .runaway → ∀ i, x = .station i → s.group.state = .lockedOut)) ∧
      (takeDetection f x s).group = s.group.listing f x ∧ (takeDetection f x s).sync = s.sync ∧
      ∀ k, (takeDetection f x s).jack k = (s.jack k).struck f x k) ∨
    ((faultStops s = true ∧ (f = .runaway → ∀ i, x ≠ .station i)) ∧ ((takeDetection f x s).group.state = .stopping ∧ (takeDetection f x s).group.cause = .fault f x) ∧
      (takeDetection f x s).sync = { s.sync with speed := 0, descent := false } ∧
      ∀ k, (takeDetection f x s).jack k = ((s.jack k).struck f x k).stopped) ∨
    (∃ i, (f = .runaway ∧ x = .station i ∧ s.group.state ≠ .lockedOut) ∧
      ((takeDetection f x s).group.state = .lockedOut ∧ (takeDetection f x s).group.cause = .fault .runaway (.station i)) ∧
      Told (.lockout i) s.group.cycle (takeDetection f x s) ∧
      (takeDetection f x s).sync = { s.sync with speed := 0, descent := false } ∧
      ∀ k, (takeDetection f x s).jack k = ((s.jack k).struck f x k).lockedOut) := by
  have hg : (actOnStations f x (listFault f x s)).group = s.group.listing f x := (actOnStations_group _ _ _).trans (listFault_group f x s)
  have hy : (actOnStations f x (listFault f x s)).sync = s.sync := by rw [actOnStations_sync, listFault_sync]
  have hj (k : Sta) : (actOnStations f x (listFault f x s)).jack k = (s.jack k).struck f x k := by rw [actOnStations_jack, listFault_jack]
  have hstate : (s.group.listing f x).state = s.group.state ∧ (s.group.listing f x).cause = s.group.cause ∧
      (s.group.listing f x).cycle = s.group.cycle := by
    unfold Group.listing
    split_ifs <;> exact ⟨rfl, rfl, rfl⟩
  obtain ⟨hst, hcs, hcy⟩ := hstate
  unfold takeDetection
  have hsame : faultStops (actOnStations f x (listFault f x s)) = faultStops s := faultStops_congr (by rw [hg, hst]) (by rw [hg, hcs])
  obtain ⟨i, -, -, hl, e⟩ | ⟨i, hf, hx, hl, e⟩ | ⟨hn, hstop, e⟩ | ⟨hn, hstop, e⟩ :=
    actOnGroup_cases f x (actOnStations f x (listFault f x s)) <;> rw [e]
  · rw [hg, hst] at hl
    have hstop : faultStops s = false := by
      rw [faultStops, hl]
    exact .inl ⟨⟨hstop, fun _ _ _ => hl⟩, by rw [handOver_group, hg], by rw [handOver_sync, hy], fun k => by rw [handOver_jack, hj]⟩
  · rw [hg, hst] at hl
    refine .inr (.inr ⟨i, ⟨hf, hx, hl⟩, ?_, ?_, ?_, fun k => ?_⟩)
    · rw [handOver_group, enterLockout_group]
      exact ⟨rfl, rfl⟩
    · have h := told_enterLockout i (actOnStations f x (listFault f x s))
      rw [hg, hcy] at h
      exact .inl h.handOver
    · rw [handOver_sync, enterLockout_sync, hy]
    · rw [handOver_jack, enterLockout_jack, hj]
  · refine .inr (.inl ⟨⟨hsame.symm.trans hstop, fun hf i hx => hn.elim (fun h => h hf) fun h => h i hx⟩, ?_, ?_, fun k => ?_⟩)
    · rw [handOver_group, beginFaultStop_group]
      exact ⟨rfl, rfl⟩
    · rw [handOver_sync, beginFaultStop_sync, hy]
    · rw [handOver_jack, beginFaultStop_jack, moveStations_jack, hj]
      rfl
  · exact .inl ⟨⟨hsame.symm.trans hstop, fun hf i hx => (hn.elim (fun h => h hf) fun h => h i hx).elim⟩, by rw [handOver_group, hg],
      by rw [handOver_sync, hy], fun k => by rw [handOver_jack, hj]⟩

theorem faultStops_lockedOut (h : faultStops s = true) : s.group.state ≠ .lockedOut := fun e => by
  unfold faultStops at h
  rw [e] at h
  cases h

theorem Watches.detection (f : FaultKind) (x : Subject) (s : State) : Watches s (takeDetection f x s) := by
  obtain ⟨-, hg, hy, hj⟩ | ⟨⟨hstop, -⟩, ⟨hg, -⟩, hy, hj⟩ | ⟨i, ⟨-, -, hl⟩, ⟨hg, -⟩, -, hy, hj⟩ := takeDetection_cases f x s
  · have hs : (takeDetection f x s).group.state = s.group.state := by
      rw [hg]
      unfold Group.listing
      split_ifs <;> rfl
    refine .of_state (by rw [hs]) (fun k => ?_) (fun k => ?_) fun _ ⟨h0, h⟩ => ⟨by rw [hy]; exact h0, fun k => ?_⟩
    · rw [hj, ((s.jack k).struck_same f x k).1]
    · rw [hj, ((s.jack k).struck_same f x k).2.1]
    · rw [hj, Jack.struck_halted (h k).1]
      exact h k
  · have hs := faultStops_lockedOut hstop
    refine .of_state (by rw [hg]; simp [hs]) (fun k => ?_) (fun k => ?_) fun h => absurd h hs
    · rw [hj]
      exact ((s.jack k).struck_same f x k).1
    · rw [hj]
      exact ((s.jack k).struck_same f x k).2.1
  · refine ⟨fun h => absurd h hl, fun k => ?_, fun k => ?_, fun _ _ => ⟨by rw [hy], fun k => ?_⟩⟩
    · rw [hj]
      exact ((s.jack k).struck_same f x k).1
    · rw [hj, if_pos ⟨hg, hl⟩]
      obtain ⟨h1, h2, -⟩ := (s.jack k).struck_same f x k
      unfold Jack.lockedOut
      simp only
      rw [h1, h2]
    · rw [hj]
      have hidle (g : Generator) : g.abandon.run = .idle ∧ g.abandon.pending = none := by
        unfold Generator.abandon
        split
        · next h => exact ⟨h, rfl⟩
        · exact ⟨rfl, rfl⟩
      have hform (g : Generator) : g.abandon.stopForm = g.abandon := by
        unfold Generator.stopForm
        rw [(hidle g).1]
      unfold Jack.lockedOut
      simp only [hform, ite_self]
      exact hidle _

theorem Acts.watches (h : Acts geo s t) : Watches s t := by
  induction h with
  | refl s => exact .refl s
  | trans _ _ h g => exact h.trans g
  | line l s => exact .of_jacks rfl rfl fun _ h => h
  | detection f x s => exact .detection f x s
  | updRec k f s => exact .updJack rfl rfl fun _ => ⟨rfl, rfl⟩
  | handRate k r s =>
    refine .updJack rfl rfl fun hl => ?_
    simp only [if_pos (generatorsHeld_of_lockedOut hl)]
    exact ⟨trivial, trivial⟩
  | recordRate k r s => exact .updJack rfl rfl fun _ => ⟨rfl, rfl⟩
  | orderMove k n d m s =>
    refine .updJack rfl rfl fun hl => ?_
    simp only [if_pos (generatorsHeld_of_lockedOut hl)]
    exact ⟨trivial, trivial⟩
  | formErrors s =>
    refine .of_stations rfl rfl (fun k => ?_) (fun k => ?_) fun k _ h1 h2 => ?_ <;> rw [formErrors_jack]
    exact ⟨h1, h2⟩
  | sync y p s h => exact .of_jacks rfl rfl h
  | group g s h => exact .of_jacks h rfl fun _ h => h
  | enter g s hs hg =>
    refine .of_state (by rw [enterGroup_state]; simp [hs, hg]) (fun k => by rw [enterGroup_jack]) (fun k => by rw [enterGroup_jack])
      fun h => absurd h hs
  | updCar h i f s hf => exact .of_jacks rfl rfl fun _ h => h

/-! ### The link's records, the imbalance marks and the cars -/

/-- No part of this work writes the link's records of a station, or its imbalance mark. -/
theorem Acts.marks (h : Acts geo s t) (k : Sta) : (t.jack k).link = (s.jack k).link ∧ (t.jack k).imbalance = (s.jack k).imbalance := by
  induction h with
  | refl s => exact ⟨rfl, rfl⟩
  | trans _ _ h g => exact ⟨g.1.trans h.1, g.2.trans h.2⟩
  | line l s => exact ⟨rfl, rfl⟩
  | detection f x s =>
    obtain ⟨-, h, -, -, -, -, h', -⟩ := takeDetection_sameStation f x s k
    exact ⟨h.symm, h'.symm⟩
  | updRec i f s =>
    by_cases h : k = i
    · subst h
      rw [updRec_jack_self]
      exact ⟨rfl, rfl⟩
    · rw [updRec_jack_ne _ _ h]
      exact ⟨rfl, rfl⟩
  | handRate i r s =>
    rw [handRate_jack]
    split_ifs <;> exact ⟨rfl, rfl⟩
  | recordRate i r s =>
    unfold Machine.recordRate
    by_cases h : k = i
    · subst h
      rw [updJack_jack_self]
      exact ⟨rfl, rfl⟩
    · rw [updJack_jack_ne _ _ h]
      exact ⟨rfl, rfl⟩
  | orderMove i n d m s =>
    unfold Machine.orderMove
    by_cases h : k = i
    · subst h
      rw [updJack_jack_self]
      exact ⟨rfl, rfl⟩
    · rw [updJack_jack_ne _ _ h]
      exact ⟨rfl, rfl⟩
  | formErrors s =>
    rw [formErrors_jack]
    exact ⟨rfl, rfl⟩
  | sync y p s h => exact ⟨rfl, rfl⟩
  | group g s h => exact ⟨rfl, rfl⟩
  | enter g s hs hg =>
    rw [enterGroup_jack]
    exact ⟨rfl, rfl⟩
  | updCar h i f s hf => exact ⟨rfl, rfl⟩

/-- The cars keep their corners and limits; where the geometry checks have no part, they are not changed. -/
theorem Acts.cars (h : Acts geo s t) : t.cars.map Car.fixed = s.cars.map Car.fixed ∧ (¬ geo → t.cars = s.cars) := by
  have same {s t : State} (h : t.cars = s.cars) : t.cars.map Car.fixed = s.cars.map Car.fixed ∧ (¬ geo → t.cars = s.cars) :=
    ⟨by rw [h], fun _ => h⟩
  induction h with
  | refl s => exact same rfl
  | trans _ _ h g => exact ⟨g.1.trans h.1, fun hn => (g.2 hn).trans (h.2 hn)⟩
  | line l s => exact same rfl
  | detection f x s => exact same (takeDetection_cars f x s)
  | updRec k f s => exact same rfl
  | handRate k r s => exact same rfl
  | recordRate k r s => exact same rfl
  | orderMove k n d m s => exact same rfl
  | formErrors s => exact same rfl
  | sync y p s h => exact same rfl
  | group g s h => exact same rfl
  | enter g s hs hg => exact same (enterGroup_cars g s)
  | updCar h i f s hf => exact ⟨(SameGeometry.updCar hf i s).cars, fun hn => absurd h hn⟩

end Sys2Proof.Machine

/-! PROOF. The contact heights past the contact sequencer, and the events of any cycle start (O9, O20). -/

namespace Sys2Proof.Machine

-- One theorem after another, as in the tests: a thread each for this many proofs would pass the memory limit.
set_option Elab.async false

variable {s t u w : State} {k i : Sta} {f : FaultKind} {x : Subject} {e : Event} {c : Byte}

/-- What the work of a cycle start has told is reported at its end, a command waiting or not. -/
theorem reported_of_told (h : Told e c (cycleEnd (openCycle s))) : Reported e c (cycleWork s) := by
  rw [cycleWork_eq]
  refine Reported.closed (h.resolve_right ?_)
  rw [cycleEnd_raised]
  simp

/-! ### Contact heights past the contact sequencer -/

/-- From `s` to `t` every station keeps its contact height, and one that holds it ENGAGED or FAULTED stays in one of these states. -/
structure Keeps (s t : State) : Prop where
  contact : ∀ k, (t.jack k).record.contact = (s.jack k).record.contact
  held : ∀ k, (s.jack k).record.state = .engaged ∨ (s.jack k).record.state = .faulted →
    (t.jack k).record.state = .engaged ∨ (t.jack k).record.state = .faulted

theorem Keeps.trans (h : Keeps s t) (g : Keeps t u) : Keeps s u :=
  ⟨fun k => (g.contact k).trans (h.contact k), fun k hk => g.held k (h.held k hk)⟩

theorem Keeps.of_records (h : ∀ k, (t.jack k).record = (s.jack k).record) : Keeps s t :=
  ⟨fun k => by rw [h], fun k hk => by rw [h]; exact hk⟩

theorem Keeps.of_jacks (h : t.jacks = s.jacks) : Keeps s t := .of_records fun k => by rw [show t.jack k = s.jack k from congrArg (fun p => p.get k) h]

theorem Keeps.refl (s : State) : Keeps s s := .of_jacks rfl

theorem Keeps.handOver (s : State) : Keeps s (handOver s) := .of_records fun k => by rw [handOver_jack]

theorem Keeps.foldl {α : Type} {f : State → α → State} (h : ∀ t x, Keeps t (f t x)) (l : List α) (s : State) :
    Keeps s (l.foldl f s) := by
  induction l generalizing s with
  | nil => exact .refl s
  | cons x l ih => exact (h s x).trans (ih _)

/-- A station that a detection strikes keeps its contact height where it stood ENGAGED or FAULTED, or is not the subject. -/
theorem Jack.struck_contact {j : Jack} (h : x = .station k → j.record.state = .engaged ∨ j.record.state = .faulted) :
    (j.struck f x k).record.contact = j.record.contact ∧ (j.record.state = .engaged ∨ j.record.state = .faulted →
      (j.struck f x k).record.state = .engaged ∨ (j.struck f x k).record.state = .faulted) := by
  have htrim : ∃ m, j.trimEnded.record = { j.record with move := m } := by
    unfold Jack.trimEnded
    split
    · split_ifs
      · exact j.moveStopped_record
      · exact ⟨_, rfl⟩
    · exact ⟨_, rfl⟩
  unfold Jack.struck
  split
  · split_ifs with hk
    · have h := h (by rw [hk])
      obtain ⟨m, hm⟩ := j.moveStopped_record
      unfold Jack.faultedBy
      split_ifs
      · exact ⟨rfl, id⟩
      · exact ⟨rfl, id⟩
      · rw [hm]
        exact ⟨rfl, id⟩
      · next hf =>
        have he := h.resolve_right hf
        simp only [hm]
        unfold StationRec.toFaulted
        simp [he, priorOf]
    · exact ⟨rfl, id⟩
  · obtain ⟨m, hm⟩ := htrim
    rw [hm]
    exact ⟨rfl, id⟩
  · obtain ⟨m, hm⟩ := htrim
    rw [hm]
    exact ⟨rfl, id⟩
  · exact ⟨rfl, id⟩

theorem StationRec.moveByStop_held (r : StationRec) : r.moveByStop.contact = r.contact ∧
    (r.state = .engaged ∨ r.state = .faulted → r.moveByStop.state = .engaged ∨ r.moveByStop.state = .faulted) := by
  unfold StationRec.moveByStop
  split <;> simp_all

theorem Keeps.detection (f : FaultKind) (x : Subject) (s : State)
    (h : ∀ k, x = .station k → (s.jack k).record.state = .engaged ∨ (s.jack k).record.state = .faulted) (hf : f ≠ .runaway) :
    Keeps s (takeDetection f x s) := by
  have hs (k : Sta) := Jack.struck_contact (f := f) (j := s.jack k) (h k)
  obtain ⟨-, -, -, hj⟩ | ⟨-, -, -, hj⟩ | ⟨-, ⟨hr, -⟩, -⟩ := takeDetection_cases f x s
  · exact ⟨fun k => by rw [hj]; exact (hs k).1, fun k hk => by rw [hj]; exact (hs k).2 hk⟩
  · refine ⟨fun k => ?_, fun k hk => ?_⟩ <;> rw [hj]
    · exact (StationRec.moveByStop_held _).1.trans (hs k).1
    · exact (StationRec.moveByStop_held _).2 ((hs k).2 hk)
  · exact absurd hr hf

/-- The trips of a cycle start strike ENGAGED stations alone. -/
theorem Keeps.trips (l : List Detection) (s : State) (h : ∀ d ∈ l, d.kind ≠ .runaway ∧ ∀ k, d.subject = .station k →
    (s.jack k).record.state = .engaged ∨ (s.jack k).record.state = .faulted) : Keeps s (takeDetections l s) := by
  induction l generalizing s with
  | nil => exact .refl s
  | cons d l ih =>
    obtain ⟨hd, hl⟩ := List.forall_mem_cons.mp h
    have h1 := Keeps.detection d.kind d.subject s hd.2 hd.1
    exact h1.trans (ih _ fun e he => ⟨(hl e he).1, fun k hk => h1.held k ((hl e he).2 k hk)⟩)

theorem mem_tripDetections {d : Detection} : d ∈ tripDetections s ↔ tripChecked s.group.state = true ∧
    ∃ k, trips s.group.params (s.jack k) = true ∧ d = { kind := .syncTrip, subject := .station k } := by
  unfold tripDetections
  split_ifs with h
  · simp only [h, true_and, List.mem_map, List.mem_filter, Sta.mem_all]
    exact ⟨fun ⟨k, hk, e⟩ => ⟨k, hk, e.symm⟩, fun ⟨k, hk, e⟩ => ⟨k, hk, e.symm⟩⟩
  · simp [h]

theorem Keeps.tripped (s : State) : Keeps s (tripped s) := by
  have hform : Keeps s (formErrors s) := .of_records fun k => by rw [formErrors_jack]
  refine hform.trans (.trips _ _ fun d hd => ?_)
  obtain ⟨-, k, hk, rfl⟩ := mem_tripDetections.mp hd
  refine ⟨by simp, fun i hi => ?_⟩
  obtain rfl : k = i := Subject.station.inj hi
  unfold Machine.trips at hk
  rw [Bool.and_eq_true] at hk
  exact .inl (by simpa [Jack.isIn] using hk.1)

theorem completeSegment_jacks (g : Segment) (s : State) : (completeSegment g s).jacks = s.jacks := by
  have htake (c : CommitKind) (b : Bool) (s : State) : (takePlan c b s).jacks = s.jacks := by rw [takePlan_eq]; rfl
  have hrest (s : State) : (enterHolding s).jacks = s.jacks := by rw [enterHolding_raise]; rfl
  unfold completeSegment
  simp only
  split_ifs <;> simp only [hrest, startSegment_jacks, htake, raise_jacks]

theorem referenceStage_jacks (s : State) : (referenceStage s).state.jacks = s.jacks := by
  unfold referenceStage
  split
  · split
    · split
      · unfold moveStep
        simp only
        split_ifs
        · exact completeSegment_jacks _ _
        · rfl
      · unfold dwellStep
        simp only
        split_ifs
        · exact completeSegment_jacks _ _
        · rfl
    · rfl
  · split_ifs <;> rfl
  · split_ifs
    · unfold descentStep
      simp only
      split_ifs <;> rfl
    · rfl
  · rfl

theorem Jack.handed_record (held : Bool) (r : Int) (j : Jack) : (j.handed held r).record = j.record := rfl

theorem Keeps.handRates (v : Nat) (s : State) : Keeps s (handRates v s) := .of_records fun k => by
  rw [handRates_jack]
  split_ifs
  · exact Jack.handed_record _ _ _
  · rfl

theorem Keeps.handStops (s : State) : Keeps s (handStops s) := .of_records fun k => by
  rw [handStops_jack, Jack.forcedToStop_record]

theorem Keeps.waitCycle (s : State) : Keeps s (waitCycle s) := by
  have h : Keeps s (Machine.setWait (s.group.waitCount + 1) true (freezeReference s)) := .of_jacks rfl
  unfold Machine.waitCycle
  simp only
  split_ifs
  · exact h.trans (.detection _ _ _ (fun k hk => by cases hk) (by simp))
  · exact h

theorem Keeps.computation (s : State) : Keeps s (computation s) := by
  have hform : Keeps s (formErrors s) := .of_records fun k => by rw [formErrors_jack]
  obtain ⟨-, e⟩ | ⟨-, -, -, e⟩ | ⟨-, -, -, e⟩ := computation_cases s <;> rw [e]
  · have h : Keeps (Machine.tripped s) (forceReference (Machine.setWait 0 false (Machine.tripped s))) := .of_jacks rfl
    exact ((Keeps.tripped s).trans h).trans ((Keeps.handStops _).trans (.handOver _))
  · refine (hform.trans (.waitCycle _)).trans (.trans ?_ (.handOver _))
    unfold finishComputation
    split
    · exact .trans (t := forceReference (Machine.waitCycle (formErrors s))) (.of_jacks rfl) (.handStops _)
    · exact .handRates 0 _
  · have h : Keeps (formErrors s) (referenceStage (Machine.setWait 0 false (formErrors s))).state := .of_jacks (referenceStage_jacks _)
    exact (hform.trans h).trans ((Keeps.handRates _ _).trans (.handOver _))

theorem Keeps.releaseAll_contact (s : State) (k : Sta) : ((releaseAll s).jack k).record.contact = (s.jack k).record.contact := by
  rw [releaseAll_jack]
  unfold Jack.takenIntoRelease
  split_ifs <;> rfl

theorem computeCycle_contact (s : State) (k : Sta) : ((computeCycle s).jack k).record.contact = (s.jack k).record.contact := by
  unfold computeCycle
  simp only
  split_ifs
  · rw [Keeps.releaseAll_contact]
    exact (Keeps.computation s).contact k
  · exact (Keeps.computation s).contact k

theorem stopTest_jack (b : Bool) (s : State) (k : Sta) : (stopTest b s).jack k = s.jack k := by
  obtain ⟨-, h⟩ | ⟨-, h⟩ := stopTest_cases b s <;> rw [h]
  rw [handOver_jack, enterGroup_jack]
  rfl

/-- Past the blocks' checks every contact height stands. -/
theorem cycleWork_contact (s : State) (k : Sta) :
    ((cycleWork s).jack k).record.contact = ((blockWork (openCycle s)).jack k).record.contact := by
  rw [cycleWork_eq]
  unfold cycleEnd
  generalize blockWork (openCycle s) = w
  obtain ⟨-, -, -, h⟩ := closed_same (stopTest (forcedEarlier w) (computeCycle w))
  obtain ⟨b, hb⟩ := h k
  rw [hb, stopTest_jack]
  exact computeCycle_contact w k

end Sys2Proof.Machine

/-! PROOF. The stages of the blocks' work at a cycle start, and the imbalance marks (O20). -/

namespace Sys2Proof.Machine

-- One theorem after another, as in the tests: a thread each for this many proofs would pass the memory limit.
set_option Elab.async false

variable {s t u w o : State} {k i : Sta} {e : Event} {c : Byte} {strict early : Prop}

/-! ### The stages -/

/-- The state with the tracking monitor's and the load link's detections taken. -/
def watchedWork (o : State) : State := linkWork o (monitorWork o (clearRates o))

/-- The state with the contact sequencer's work done. -/
def sequenced (o : State) : State := handOver (sequencerWork o (watchedWork o))

/-- The state with the twists and couplings checked, or the warn marks ARMED. -/
def measured (o : State) : State := if geometryRuns o then geometryChecks (sequenced o) else armWarnings (sequenced o)

theorem blockWork_eq (o : State) : blockWork o = handOver (imbalanceWork (measured o)) := rfl

theorem Works.watchedWork (o : State) : Works strict early o (watchedWork o) :=
  ((Works.clearRates o).trans (.monitorWork o _)).trans (.linkWork o _)

theorem Works.sequenced (o : State) : Works strict early o (sequenced o) :=
  ((Works.watchedWork o).trans (.sequencerWork o _)).trans (.handOver _)

theorem measured_cases (o : State) : (geometryRuns o = true ∧ measured o = geometryChecks (sequenced o)) ∨
    (geometryRuns o = false ∧ measured o = armWarnings (sequenced o)) := by
  unfold measured
  split_ifs with h
  · exact .inl ⟨h, rfl⟩
  · exact .inr ⟨by simpa using h, rfl⟩

theorem Works.geometryChecks (s : State) : Works strict early s (geometryChecks s) :=
  .foldl (fun t i => (Works.checkTwist i t).trans (.checkCoupling i _)) _ s

theorem Works.measured (o : State) : Works strict early o (measured o) := by
  obtain ⟨-, e⟩ | ⟨-, e⟩ := measured_cases o <;> rw [e]
  · exact (Works.sequenced o).trans (.geometryChecks _)
  · exact (Works.sequenced o).trans (.of_rest rfl rfl rfl rfl rfl)

/-- What has been told by the end of the imbalance test is reported at the end of the cycle start. -/
theorem reported_of_imbalanceWork (h : Told e c (imbalanceWork (measured (openCycle s)))) : Reported e c (cycleWork s) := by
  refine reported_of_told ?_
  have hend : cycleEnd (openCycle s) = stopTest (forcedEarlier (blockWork (openCycle s))) (computeCycle (blockWork (openCycle s))) := rfl
  have hw := ((Works.computeCycle (blockWork (openCycle s)) : Works False False _ _).trans
    (.stopTest (forcedEarlier (blockWork (openCycle s))) _)).tells
  rw [← hend] at hw
  refine hw e c ?_
  rw [blockWork_eq]
  exact Tells.handOver _ e c h

/-! ### The imbalance test (R32, R33) -/

/-- The corner stations of a car that hold a contact height. -/
def holdersOf (s : State) (c : Car) : List Sta := (c.corners.filterMap id).filter fun k => (s.jack k).record.contact.isSome

/-- The integer quotient of a car's held loads. -/
def meanHeld (s : State) (c : Car) : Nat := ((holdersOf s c).map fun k => (s.jack k).link.held).sum / (holdersOf s c).length

/-- A station of a car is over the car's mean by more than the percentage. -/
def overMean (s : State) (c : Car) (k : Sta) : Prop :=
  k ∈ holdersOf s c ∧ 2 ≤ (holdersOf s c).length ∧ meanHeld s c * (100 + s.group.params.imbalance) < (s.jack k).link.held * 100

/-- The imbalance test of a station of a car. -/
def loadTest (s : State) (c : Car) (k : Sta) : LoadTest where
  station := k
  load := (s.jack k).link.held
  mean := meanHeld s c
  heavy := meanHeld s c * (100 + s.group.params.imbalance) < (s.jack k).link.held * 100

theorem mem_loadTests {x : LoadTest} {c : Car} :
    x ∈ loadTests s c ↔ 2 ≤ (holdersOf s c).length ∧ ∃ k ∈ holdersOf s c, loadTest s c k = x := by
  have hl : loadTests s c = if (holdersOf s c).length < 2 then [] else (holdersOf s c).map (loadTest s c) := by
    unfold loadTests loadTest meanHeld
    simp only [List.length_map]
    rfl
  rw [hl]
  split_ifs with h
  · simp only [List.not_mem_nil, false_iff, not_and]
    intro h2
    omega
  · rw [List.mem_map]
    exact ⟨fun hx => ⟨by omega, hx⟩, fun hx => hx.2⟩

/-- IMBALANCE raised for a station whose mark is about to become RAISED. -/
def raiseImbalance (s t : State) (x : LoadTest) : State :=
  if x.heavy && !(s.jack x.station).imbalance then raise (.imbalance x.station x.load x.mean) t else t

theorem raiseImbalance_rest (s t : State) (x : LoadTest) : (raiseImbalance s t x).jacks = t.jacks ∧ (raiseImbalance s t x).group = t.group ∧
    Tells t (raiseImbalance s t x) := by
  unfold raiseImbalance
  split_ifs
  · exact ⟨rfl, rfl, .raise _ t⟩
  · exact ⟨rfl, rfl, .refl t⟩

theorem foldl_raiseImbalance (s : State) (l : List LoadTest) (t : State) : (l.foldl (raiseImbalance s) t).jacks = t.jacks ∧
    (l.foldl (raiseImbalance s) t).group = t.group ∧ Tells t (l.foldl (raiseImbalance s) t) := by
  induction l generalizing t with
  | nil => exact ⟨rfl, rfl, .refl t⟩
  | cons x l ih =>
    obtain ⟨h1, h2, h3⟩ := raiseImbalance_rest s t x
    obtain ⟨g1, g2, g3⟩ := ih (raiseImbalance s t x)
    exact ⟨g1.trans h1, g2.trans h2, h3.trans g3⟩

theorem imbalanceWork_eq (s : State) : imbalanceWork s = ((s.cars.flatMap (loadTests s)).foldl (raiseImbalance s) s).updAll fun k j =>
    { j with imbalance := (s.cars.flatMap (loadTests s)).any fun x => x.station == k && x.heavy } := rfl

/-- The mark of a station is RAISED exactly where it is over the mean of a car. -/
theorem imbalanceWork_jack (s : State) (k : Sta) : ∃ b : Bool, (imbalanceWork s).jack k = { s.jack k with imbalance := b } ∧
    (b = true ↔ ∃ c ∈ s.cars, overMean s c k) := by
  have hj : ((s.cars.flatMap (loadTests s)).foldl (raiseImbalance s) s).jack k = s.jack k :=
    congrArg (fun p => p.get k) (foldl_raiseImbalance s _ s).1
  refine ⟨_, by rw [imbalanceWork_eq, updAll_jack, hj], ?_⟩
  simp only [List.any_eq_true, Bool.and_eq_true, beq_iff_eq, List.mem_flatMap, mem_loadTests]
  constructor
  · rintro ⟨x, ⟨c, hc, h2, i, hi, rfl⟩, rfl, hh⟩
    exact ⟨c, hc, hi, h2, of_decide_eq_true hh⟩
  · rintro ⟨c, hc, hk, h2, hh⟩
    exact ⟨loadTest s c k, ⟨c, hc, h2, k, hk, rfl⟩, rfl, decide_eq_true hh⟩

/-- A mark that becomes RAISED raises its event. -/
theorem told_imbalanceWork {d : Car} (hd : d ∈ s.cars) (h : overMean s d k) (hi : (s.jack k).imbalance = false) :
    Told (.imbalance k (s.jack k).link.held (meanHeld s d)) s.group.cycle (imbalanceWork s) := by
  obtain ⟨hk, h2, hh⟩ := h
  have hmem : loadTest s d k ∈ s.cars.flatMap (loadTests s) := List.mem_flatMap.mpr ⟨d, hd, mem_loadTests.mpr ⟨h2, k, hk, rfl⟩⟩
  obtain ⟨l, m, hlm⟩ := List.append_of_mem hmem
  rw [imbalanceWork_eq]
  refine Tells.of_line (s := (s.cars.flatMap (loadTests s)).foldl (raiseImbalance s) s) rfl _ _ ?_
  rw [hlm, List.foldl_append, List.foldl_cons]
  refine (foldl_raiseImbalance s m _).2.2 _ _ ?_
  have hheavy : ((loadTest s d k).heavy && !(s.jack k).imbalance) = true := by
    rw [hi, Bool.not_false, Bool.and_true]
    exact decide_eq_true hh
  have hraise (t : State) : raiseImbalance s t (loadTest s d k) = raise (.imbalance k (s.jack k).link.held (meanHeld s d)) t :=
    if_pos hheavy
  have ht := told_raise (.imbalance k (s.jack k).link.held (meanHeld s d)) (l.foldl (raiseImbalance s) s)
  rw [(foldl_raiseImbalance s l s).2.1] at ht
  rw [hraise]
  exact ht

end Sys2Proof.Machine

/-! PROOF. What a cycle start leaves of the imbalance marks, the monitors, the link's records and the cars (O20). -/

namespace Sys2Proof.Machine

-- One theorem after another, as in the tests: a thread each for this many proofs would pass the memory limit.
set_option Elab.async false

variable {s t u w o : State} {k i : Sta} {e : Event} {c : Byte}

/-! ### Past the imbalance test -/

theorem imbalanceWork_cars (s : State) : (imbalanceWork s).cars = s.cars := by
  have h (l : List LoadTest) (t : State) : (l.foldl (raiseImbalance s) t).cars = t.cars := by
    induction l generalizing t with
    | nil => rfl
    | cons x l ih =>
      refine (ih _).trans ?_
      unfold raiseImbalance
      split_ifs <;> rfl
  exact h _ _

theorem Acts.cycleEnd (o : State) : Acts False (blockWork o) (cycleEnd o) := (Acts.computeCycle _).trans (.stopTest _ _)

/-- The stream and the brakes leave every record but a generator's brake, and the cars. -/
theorem closed_jack (c : State) (k : Sta) : ∃ b, (settleBrakes (streamWork c)).jack k = { c.jack k with gen := { (c.jack k).gen with brake := b } } :=
  (closed_same c).2.2.2 k

theorem cycleWork_cars (s : State) : (cycleWork s).cars = (measured (openCycle s)).cars := by
  rw [cycleWork_eq, settleBrakes_cars, streamWork_cars, (Acts.cycleEnd _).cars.2 id, blockWork_eq, handOver_cars, imbalanceWork_cars]

/-- From the blocks' checks on, the link's records and the imbalance marks stand. -/
theorem closed_marks (o : State) (k : Sta) : ((settleBrakes (streamWork (cycleEnd o))).jack k).link = ((blockWork o).jack k).link ∧
    ((settleBrakes (streamWork (cycleEnd o))).jack k).imbalance = ((blockWork o).jack k).imbalance := by
  have hm := (Acts.cycleEnd o).marks k
  generalize cycleEnd o = w at hm ⊢
  obtain ⟨b, hb⟩ := closed_jack w k
  rw [hb]
  exact hm

/-- Every station's link records and imbalance mark stand past the blocks' checks. -/
theorem cycleWork_marks (s : State) (k : Sta) : ((cycleWork s).jack k).link = ((measured (openCycle s)).jack k).link ∧
    (((cycleWork s).jack k).imbalance = true ↔ ∃ c ∈ (cycleWork s).cars, overMean (measured (openCycle s)) c k) := by
  obtain ⟨m, hj, hi⟩ := imbalanceWork_jack (measured (openCycle s)) k
  obtain ⟨h1, h2⟩ := closed_marks (openCycle s) k
  rw [blockWork_eq, handOver_jack, hj] at h1 h2
  rw [cycleWork_cars, ← hi]
  exact ⟨h1, by rw [cycleWork_eq, h2]⟩

theorem cycleWork_contact_measured (s : State) (k : Sta) :
    ((cycleWork s).jack k).record.contact = ((measured (openCycle s)).jack k).record.contact := by
  obtain ⟨m, hj, -⟩ := imbalanceWork_jack (measured (openCycle s)) k
  rw [cycleWork_contact, blockWork_eq, handOver_jack, hj]

/-! ### The stations and cars that a cycle start's checks see -/

theorem begun_jack_same (s : State) (k : Sta) : ((begun s).jack k).link.held = (s.jack k).link.held ∧
    ((begun s).jack k).imbalance = (s.jack k).imbalance := by
  rw [begun_jack, opened_jack]
  exact ⟨rfl, rfl⟩

theorem openCycle_imbalance (s : State) (k : Sta) : ((openCycle s).jack k).imbalance = (s.jack k).imbalance := by
  rw [← (begun_jack_same s k).2, openCycle_eq]
  unfold executeSlot
  split
  · rfl
  · next w _ => exact ((Orders.executeCommand w (begun s)).gen k).2.2

/-- The parameters, the cycle number and the held loads that the checks see. -/
theorem measured_same (s : State) : (measured (openCycle s)).group.params = s.group.params ∧
    (measured (openCycle s)).group.cycle = s.group.cycle + 1 ∧ ∀ k, ((measured (openCycle s)).jack k).link.held = (s.jack k).link.held := by
  have hw : Works False False (clearSlot (begun s)) (measured (openCycle s)) := (Works.openCycle s).trans (.measured _)
  have hg : (clearSlot (begun s)).group = { s.group with cycle := s.group.cycle + 1, slot := none } := by
    show { (begun s).group with slot := none } = _
    rw [begun_group]
  refine ⟨?_, ?_, fun k => ?_⟩
  · rw [hw.params, hg]
  · rw [hw.cycle, hg]
  · rw [(hw.jacks k).slot]
    exact (begun_jack_same s k).1

theorem monitorWork_marks (b t : State) (k : Sta) : ((monitorWork b t).jack k).link = (t.jack k).link ∧
    ((monitorWork b t).jack k).imbalance = (t.jack k).imbalance := by
  unfold monitorWork
  have h := (((Acts.forStations (geo := False) (fun k t => Acts.slipEvent b k t) (t.updAll fun k j => { j with
    mon := monitorStep b.group.state b.group.params (b.jack k) })).trans (.handOver _)).trans
    (.takeDetections (Sta.all.flatMap (monitorDetections b)) _)).marks k
  rw [updAll_jack] at h
  exact h

theorem linkWork_marks (b t : State) (k : Sta) : ((linkWork b t).jack k).link = { (t.jack k).link with
      silent := (t.jack k).link.silent || silentNow b.group.params (b.jack k)
      lossRun := lossAfter b.group.state (b.jack k) } ∧
    ((linkWork b t).jack k).imbalance = (t.jack k).imbalance := by
  unfold linkWork
  have h := (Acts.takeDetections (geo := False) (Sta.all.flatMap (linkDetections b)) (t.updAll fun k j => { j with link := { j.link with
    silent := j.link.silent || silentNow b.group.params (b.jack k)
    lossRun := lossAfter b.group.state (b.jack k) } })).marks k
  rw [updAll_jack] at h
  exact h

/-- The link's records and the imbalance marks after the geometry checks. -/
theorem measured_marks (o : State) (k : Sta) : ((measured o).jack k).link = { (o.jack k).link with
      silent := (o.jack k).link.silent || silentNow o.group.params (o.jack k)
      lossRun := lossAfter o.group.state (o.jack k) } ∧
    ((measured o).jack k).imbalance = (o.jack k).imbalance := by
  have hclear : ((clearRates o).jack k).link = (o.jack k).link ∧ ((clearRates o).jack k).imbalance = (o.jack k).imbalance := by
    unfold clearRates
    rw [updAll_jack]
    exact ⟨rfl, rfl⟩
  have hseq : ((sequenced o).jack k).link = ((watchedWork o).jack k).link ∧
      ((sequenced o).jack k).imbalance = ((watchedWork o).jack k).imbalance :=
    ((Acts.sequencerWork (geo := False) o _).trans (.handOver _)).marks k
  have hm : ((measured o).jack k).link = ((sequenced o).jack k).link ∧
      ((measured o).jack k).imbalance = ((sequenced o).jack k).imbalance := by
    obtain ⟨-, e⟩ | ⟨-, e⟩ := measured_cases o <;> rw [e]
    · exact (Acts.geometryChecks (geo := True) trivial _).marks k
    · exact ⟨rfl, rfl⟩
  obtain ⟨h1, h2⟩ := linkWork_marks o (monitorWork o (clearRates o)) k
  obtain ⟨h3, h4⟩ := monitorWork_marks o (clearRates o) k
  rw [h3, hclear.1] at h1
  exact ⟨hm.1.trans (hseq.1.trans h1), hm.2.trans (hseq.2.trans (h2.trans (h4.trans hclear.2)))⟩

theorem measured_imbalance (s : State) (k : Sta) : ((measured (openCycle s)).jack k).imbalance = (s.jack k).imbalance :=
  (measured_marks (openCycle s) k).2.trans (openCycle_imbalance s k)

theorem cars_of_configuration (h : configuration t = configuration s) : t.cars.map Car.config = s.cars.map Car.config :=
  congrArg Prod.fst h

/-- The cars keep their corners, limits and couplings. -/
theorem cycleWork_config (s : State) : (cycleWork s).cars.map Car.config = s.cars.map Car.config :=
  cars_of_configuration ((Kept.cycleWork (edit := False) s).config id)

theorem exists_car_congr {l m : List Car} {P : Car → Prop} (h : l.map Car.config = m.map Car.config)
    (hP : ∀ c d : Car, c.config = d.config → P c → P d) (hl : ∃ c ∈ l, P c) : ∃ c ∈ m, P c := by
  obtain ⟨c, hc, hp⟩ := hl
  obtain ⟨d, hd, hcd⟩ := List.mem_map.mp (h ▸ List.mem_map_of_mem (f := Car.config) hc)
  exact ⟨d, hd, hP c d hcd.symm hp⟩

/-- What the statement says of the imbalance test: `t` is the state left. -/
structure ImbalanceRecorded (s t : State) : Prop where
  length : t.cars.length = s.cars.length
  marks : ∀ k, (t.jack k).imbalance = true ↔ ∃ c ∈ s.cars, k ∈ holdersOf t c ∧ 2 ≤ (holdersOf t c).length ∧
    ((holdersOf t c).map (fun k => (s.jack k).link.held)).sum / (holdersOf t c).length * (100 + s.group.params.imbalance) <
      (s.jack k).link.held * 100
  events : ∀ c ∈ s.cars, ∀ k ∈ holdersOf t c, 2 ≤ (holdersOf t c).length →
    ((holdersOf t c).map (fun k => (s.jack k).link.held)).sum / (holdersOf t c).length * (100 + s.group.params.imbalance) <
      (s.jack k).link.held * 100 → (s.jack k).imbalance = false →
    Reported (.imbalance k (s.jack k).link.held (((holdersOf t c).map (fun k => (s.jack k).link.held)).sum / (holdersOf t c).length))
      (s.group.cycle + 1) t

theorem imbalanceRecorded (s : State) : ImbalanceRecorded s (cycleWork s) := by
  have hconf := cycleWork_config s
  obtain ⟨hp, hcyc, hheld⟩ := measured_same s
  have hholders (c : Car) : holdersOf (measured (openCycle s)) c = holdersOf (cycleWork s) c := by
    unfold holdersOf
    simp only [cycleWork_contact_measured]
  have hcong (c d : Car) (h : c.config = d.config) (t : State) : holdersOf t c = holdersOf t d := by
    have hc : c.corners = d.corners := congrArg Prod.fst h
    unfold holdersOf
    rw [hc]
  have hmean (c : Car) : meanHeld (measured (openCycle s)) c =
      ((holdersOf (cycleWork s) c).map (fun k => (s.jack k).link.held)).sum / (holdersOf (cycleWork s) c).length := by
    unfold meanHeld
    simp only [hholders, hheld]
  have hover (c : Car) (k : Sta) : overMean (measured (openCycle s)) c k ↔ k ∈ holdersOf (cycleWork s) c ∧
      2 ≤ (holdersOf (cycleWork s) c).length ∧
      ((holdersOf (cycleWork s) c).map (fun k => (s.jack k).link.held)).sum / (holdersOf (cycleWork s) c).length *
        (100 + s.group.params.imbalance) < (s.jack k).link.held * 100 := by
    unfold overMean
    rw [hholders, hmean, hp, hheld]
  have hlen : (cycleWork s).cars.length = s.cars.length := by
    rw [← List.length_map (as := (cycleWork s).cars) Car.config, hconf, List.length_map]
  refine ⟨hlen, fun k => ?_, fun c hc k hk h2 hh hi => ?_⟩
  · rw [(cycleWork_marks s k).2]
    simp only [hover]
    refine ⟨exists_car_congr hconf fun c d h hc => ?_, exists_car_congr hconf.symm fun c d h hc => ?_⟩ <;> rwa [← hcong c d h]
  · have hmem : c.config ∈ (cycleWork s).cars.map Car.config := by
      rw [hconf]
      exact List.mem_map_of_mem hc
    obtain ⟨d, hd, hcd⟩ := List.mem_map.mp hmem
    rw [cycleWork_cars] at hd
    rw [← hcong d c hcd] at hk h2 hh ⊢
    have h := told_imbalanceWork hd ((hover d k).mpr ⟨hk, h2, hh⟩) ((measured_imbalance s k).trans hi)
    rw [hheld, hmean, hcyc] at h
    exact reported_of_imbalanceWork h

end Sys2Proof.Machine

/-! PROOF. What a cycle start leaves of the tracking monitor and of the link's checks (O9, O20). -/

namespace Sys2Proof.Machine

-- One theorem after another, as in the tests: a thread each for this many proofs would pass the memory limit.
set_option Elab.async false

variable {s t u w o : State} {k i : Sta} {e : Event} {c : Byte}

/-! ### The monitors, from the gates' step to the end of the cycle start -/

/-- The state with every monitor stepped, before what it found is taken. -/
def monitored (o : State) : State :=
  (clearRates o).updAll fun k j => { j with mon := monitorStep o.group.state o.group.params (o.jack k) }

theorem monitored_jack (o : State) (k : Sta) : (monitored o).jack k = { o.jack k with
    rate := 0, gen := { (o.jack k).gen with ceiling := false }, mon := monitorStep o.group.state o.group.params (o.jack k) } := by
  unfold monitored clearRates
  rw [updAll_jack, updAll_jack]

theorem monitored_group (o : State) : (monitored o).group = o.group := rfl

/-- Work on the stations that leaves counts, monitors and generators. -/
theorem Watches.of_gens (hg : t.group = s.group) (hy : t.sync = s.sync) (hj : ∀ k, (t.jack k).pos = (s.jack k).pos ∧
    (t.jack k).mon = (s.jack k).mon ∧ (t.jack k).gen.run = (s.jack k).gen.run ∧ (t.jack k).gen.pending = (s.jack k).gen.pending) :
    Watches s t :=
  .of_stations hg hy (fun k => (hj k).1) (fun k => (hj k).2.1) fun k _ h1 h2 => ⟨(hj k).2.2.1.trans h1, (hj k).2.2.2.trans h2⟩

theorem Watches.monitorWork (o : State) : Watches (monitored o) (monitorWork o (clearRates o)) :=
  (((Acts.forStations (geo := False) (fun k t => Acts.slipEvent o k t) (monitored o)).trans (.handOver _)).trans
    (.takeDetections _ _)).watches

theorem Watches.linkWork (b s : State) : Watches s (linkWork b s) := by
  unfold Machine.linkWork
  refine Watches.trans (t := s.updAll fun k j => { j with link := { j.link with
    silent := j.link.silent || silentNow b.group.params (b.jack k), lossRun := lossAfter b.group.state (b.jack k) } }) ?_
    (Acts.takeDetections (geo := False) _ _).watches
  refine .of_gens rfl rfl fun k => ?_
  rw [updAll_jack]
  exact ⟨rfl, rfl, rfl, rfl⟩

theorem Watches.sequenced (o : State) : Watches (monitored o) (sequenced o) :=
  ((Watches.monitorWork o).trans (.linkWork o _)).trans ((Acts.sequencerWork (geo := False) o _).trans (.handOver _)).watches

theorem Watches.measured (o : State) : Watches (monitored o) (measured o) := by
  refine (Watches.sequenced o).trans ?_
  obtain ⟨-, e⟩ | ⟨-, e⟩ := measured_cases o <;> rw [e]
  · exact (Acts.geometryChecks (geo := True) trivial _).watches
  · exact .of_jacks rfl rfl fun _ h => h

theorem Watches.imbalanceWork (s : State) : Watches s (imbalanceWork s) := by
  refine .of_gens ?_ (imbalanceWork_sync s) fun k => ?_
  · exact (foldl_raiseImbalance s _ s).2.1
  · obtain ⟨b, hb, -⟩ := imbalanceWork_jack s k
    rw [hb]
    exact ⟨rfl, rfl, rfl, rfl⟩

theorem Watches.blockWork (o : State) : Watches (monitored o) (blockWork o) :=
  ((Watches.measured o).trans (.imbalanceWork _)).trans (Acts.handOver (geo := False) _).watches

theorem Watches.closed (s : State) : Watches s (settleBrakes (streamWork s)) := by
  obtain ⟨hg, hy, -, hj⟩ := closed_same s
  refine .of_gens hg hy fun k => ?_
  obtain ⟨b, hb⟩ := hj k
  rw [hb]
  exact ⟨rfl, rfl, rfl, rfl⟩

/-- From the stepped monitors to the end of the cycle start. -/
theorem watches_cycleWork (s : State) : Watches (monitored (openCycle s)) (cycleWork s) := by
  rw [cycleWork_eq]
  exact ((Watches.blockWork _).trans (Acts.cycleEnd _).watches).trans (.closed _)

/-! ### A monitor's step, as the statements write it -/

/-- The run count after the close of gate `g`. -/
theorem slipRunAfter_eq (p : GroupParams) (j : Jack) (g : SlipGate) : slipRunAfter p j g =
    if j.assigned = false then 0 else if g.steps = 0 ∧ g.edges = 0 then j.mon.slipRun
    else if slips p j g then min 15 (j.mon.slipRun + 1) else 0 := by
  unfold slipRunAfter saturateNat
  simp only [← g.quiet_iff]
  cases j.assigned <;> rfl

/-- A station as a cycle start opens it, its monitor's watch made. -/
def Jack.openedWith (j : Jack) (n : Nat) (q : Word) : Jack := { j with
  pos := { j.pos with latched := j.pos.count, latchedRunning := j.gen.running }
  link := { j.link with slotOpen := true, bytes := [] }
  record := j.recordAtStart
  mon := { j.mon with runaway := n, rest := q } }

/-- What the gates make of a monitor depends on its watch in nothing. -/
theorem gateStep_openedWith (p : GroupParams) (j : Jack) (n : Nat) (q : Word) :
    gateStep p (j.openedWith n q) = { gateStep p j with runaway := n, rest := q } := by
  have ho : (j.openedWith n q).mon.gateOpen = j.mon.gateOpen := rfl
  have hg : (j.openedWith n q).mon.gate = j.mon.gate := rfl
  unfold gateStep
  rw [ho, hg]
  split
  · rfl
  · split
    · rfl
    · next g _ => split_ifs <;> rfl

/-- A station as a cycle start opens it, before the watch of R71. -/
theorem openedWith_watch (p : GroupParams) (j : Jack) (n : Nat) (q : Word) :
    (j.openedWith n q).assigned = j.assigned ∧ drifted p (j.openedWith j.mon.runaway j.mon.rest) = j.driftsBeyond p ∧
    runawayInLockout p (j.openedWith j.mon.runaway j.mon.rest) = (j.watchedMonitor p).runaway ∧
    restAfter (j.openedWith j.mon.runaway j.mon.rest) = (j.watchedMonitor p).rest := by
  have ha : (j.openedWith j.mon.runaway j.mon.rest).assigned = j.assigned := rfl
  refine ⟨rfl, rfl, ?_, ?_⟩
  · unfold runawayInLockout Jack.watchedMonitor saturateNat
    rw [ha]
    cases j.assigned <;> rfl
  · unfold restAfter Jack.watchedMonitor
    rw [ha]
    rfl

theorem begun_openedWith (s : State) (k : Sta) : (begun s).jack k = (s.jack k).openedWith
    (if s.group.state = .lockedOut then ((s.jack k).watchedMonitor s.group.params).runaway else (s.jack k).mon.runaway)
    (if s.group.state = .lockedOut then ((s.jack k).watchedMonitor s.group.params).rest else (s.jack k).mon.rest) := by
  have ho : s.opened.jack k = (s.jack k).openedWith (s.jack k).mon.runaway (s.jack k).mon.rest := opened_jack s k
  by_cases hl : s.group.state = .lockedOut
  · obtain ⟨-, -, h1, h2⟩ := openedWith_watch s.group.params (s.jack k) 0 0
    rw [begun_jack, begun_mon_of_lockedOut hl, if_pos hl, if_pos hl, ho, h1, h2]
    rfl
  · rw [begun_eq_opened hl, ho, if_neg hl, if_neg hl]

/-- The runaway count and the rest count of a station that a cycle start has watched, before any entry to LOCKED_OUT. -/
theorem monitorStep_begun (s : State) (k : Sta) : monitorStep s.group.state s.group.params ((begun s).jack k) =
    { gateStep s.group.params (s.jack k) with
      runaway := if s.group.state = .lockedOut then ((s.jack k).watchedMonitor s.group.params).runaway
        else if (s.jack k).assigned = true ∧ (s.jack k).gen.run = .idle ∧ (s.jack k).driftsBeyond s.group.params = true then
          min 15 ((s.jack k).mon.runaway + 1) else 0
      rest := if (s.jack k).assigned = false then (s.jack k).pos.count else (s.jack k).mon.rest } := by
  unfold monitorStep
  simp only
  rw [begun_openedWith, gateStep_openedWith]
  by_cases hl : s.group.state = .lockedOut
  · simp only [if_pos hl]
    unfold Jack.watchedMonitor
    cases (s.jack k).assigned <;> rfl
  · simp only [if_neg hl]
    obtain ⟨ha, hd, -⟩ := openedWith_watch s.group.params (s.jack k) (s.jack k).mon.runaway (s.jack k).mon.rest
    have hrun : ((s.jack k).openedWith (s.jack k).mon.runaway (s.jack k).mon.rest).pos.latchedRunning = (s.jack k).gen.running := rfl
    have hr : (s.jack k).gen.running = false ↔ (s.jack k).gen.run = .idle := by
      unfold Generator.running
      simp
    unfold runawayAfter restAfter saturateNat
    simp only [ha, hd, hrun, ← hr, Bool.and_eq_true, Bool.not_eq_true', and_assoc]
    congr 1
    cases (s.jack k).assigned <;> rfl

theorem begun_pos_count (s : State) (k : Sta) : ((begun s).jack k).pos.count = (s.jack k).pos.count := by
  rw [begun_openedWith]
  rfl

/-- The monitor at the end of a cycle start without a waiting command (R62 to R71). -/
theorem cycleWork_mon (hslot : s.group.slot = none) (k : Sta) : ((cycleWork s).jack k).mon =
    { gateStep s.group.params (s.jack k) with
      runaway := if s.group.state = .lockedOut then ((s.jack k).watchedMonitor s.group.params).runaway
        else if (s.jack k).assigned = true ∧ (s.jack k).gen.run = .idle ∧ (s.jack k).driftsBeyond s.group.params = true then
          min 15 ((s.jack k).mon.runaway + 1) else 0
      rest := if ((cycleWork s).group.state = .lockedOut ∧ s.group.state ≠ .lockedOut) ∨ (s.jack k).assigned = false then
        (s.jack k).pos.count else (s.jack k).mon.rest } := by
  have h := (watches_cycleWork s).mon k
  rw [openCycle_of_none hslot, monitored_group, begun_group, monitored_jack, begun_group] at h
  simp only at h
  rw [h, monitorStep_begun, begun_pos_count]
  by_cases hl : (cycleWork s).group.state = .lockedOut ∧ s.group.state ≠ .lockedOut
  · rw [if_pos hl, if_pos (Or.inl hl)]
  · rw [if_neg hl]
    simp only [hl, false_or]

/-! ### The slip events and the link's records -/

/-- What the slip gates have told is reported at the end of the cycle start. -/
theorem reported_of_slips (hslot : s.group.slot = none)
    (h : Told e c (forStations (slipEvent (begun s)) (monitored (begun s)))) : Reported e c (cycleWork s) := by
  refine reported_of_imbalanceWork ?_
  rw [openCycle_of_none hslot]
  generalize hb : begun s = b at h ⊢
  have hmon : monitorWork b (clearRates b) = takeDetections (Sta.all.flatMap (monitorDetections b))
    (handOver (forStations (slipEvent b) (monitored b))) := rfl
  have h1 : Works False False (forStations (slipEvent b) (monitored b)) (sequenced b) := by
    unfold sequenced watchedWork
    rw [hmon]
    exact ((((Works.handOver _).trans (.takeDetections _ _)).trans (.linkWork b _)).trans (.sequencerWork b _)).trans (.handOver _)
  have h2 : Works False False (sequenced b) (measured b) := by
    obtain ⟨-, e⟩ | ⟨-, e⟩ := measured_cases b <;> rw [e]
    · exact .geometryChecks _
    · exact .of_rest rfl rfl rfl rfl rfl
  exact ((h1.trans h2).trans (.imbalanceWork _)).tells e c h

/-- A gate that closes as a slip gate raises SLIP. -/
theorem slip_reported {g : SlipGate} (hslot : s.group.slot = none) (hg : (s.jack k).mon.gate = some g) (ho : (s.jack k).mon.gateOpen = false)
    (hl : g.left ≤ 1) (hs : slips s.group.params (s.jack k) g = true) :
    Reported (.slip k (slipDifference (s.jack k) g) (slipRunAfter s.group.params (s.jack k) g)) (s.group.cycle + 1) (cycleWork s) := by
  refine reported_of_slips hslot ?_
  have hclose : closingGate ((begun s).jack k) = some g := by
    rw [begun_openedWith]
    unfold closingGate
    have hgate : ((s.jack k).openedWith (if s.group.state = .lockedOut then ((s.jack k).watchedMonitor s.group.params).runaway
      else (s.jack k).mon.runaway) (if s.group.state = .lockedOut then ((s.jack k).watchedMonitor s.group.params).rest
      else (s.jack k).mon.rest)).mon.gate = some g := hg
    rw [hgate]
    simp only
    refine if_pos ?_
    show (!(s.jack k).mon.gateOpen && decide (g.left ≤ 1)) = true
    rw [ho]
    simpa using hl
  have hev (t : State) : slipEvent (begun s) k t =
      raise (.slip k (slipDifference (s.jack k) g) (slipRunAfter s.group.params (s.jack k) g)) t := by
    unfold slipEvent
    rw [hclose]
    unfold raiseSlip
    rw [begun_openedWith, begun_group]
    exact if_pos hs
  have hkeep (i : Sta) (t : State) : (slipEvent (begun s) i t).group = t.group ∧ Tells t (slipEvent (begun s) i t) :=
    ⟨(Calm.slipEvent (begun s) i t).group, ((Works.slipEvent (begun s) i t : Works False False _ _)).tells⟩
  refine forStations_reaches (P := fun t => t.group.cycle = s.group.cycle + 1) k (fun i t _ ht => ?_) (fun t ht => ?_)
    (fun i t ht => (hkeep i t).2 _ _ ht) ?_
  · rw [(hkeep i t).1]
    exact ht
  · rw [hev, ← ht]
    exact told_raise _ _
  · rw [monitored_group, begun_group]

/-- The link's records at the end of a cycle start without a waiting command (R83, R86). -/
theorem cycleWork_link (hslot : s.group.slot = none) (k : Sta) :
    ((cycleWork s).jack k).link.silent = ((s.jack k).link.silent || silentNow s.group.params (s.jack k)) ∧
    ((cycleWork s).jack k).link.lossRun = lossAfter s.group.state (s.jack k) := by
  have h := (cycleWork_marks s k).1
  rw [(measured_marks (openCycle s) k).1, openCycle_of_none hslot, begun_group, begun_openedWith] at h
  rw [h]
  exact ⟨rfl, rfl⟩

theorem watched_iff (st : StationState) :
    watched st = true ↔ st ∈ [StationState.seeking, .confirming, .engaged, .trimming, .releasing] := by
  cases st <;> decide

end Sys2Proof.Machine

/-! PROOF. The twists and steps that a cycle start records (O20). -/

namespace Sys2Proof.Machine

-- One theorem after another, as in the tests: a thread each for this many proofs would pass the memory limit.
set_option Elab.async false

variable {s t u w o : State} {k i : Sta} {e : Event} {c : Byte} {n : Nat}

/-! ### One car's checks (R27 to R30) -/

/-- A car with its twist recorded. -/
def twistChecked (s : State) (d : Car) : Car :=
  { d with lastTwist := twistOf s d, warnRaised := aboveWarn s.group.params d (twistOf s d) }

/-- A car with the step to the car behind recorded, where there is one. -/
def stepChecked (s : State) (behind : Option Car) (d : Car) : Car :=
  match behind with
  | some b => if d.coupled then
      { d with lastStep := stepBetween s d b, couplingSet := beyond (stepBetween s d b) d.couplingLimit } else d
  | none => d

theorem modify_congr {l : List Car} {f g : Car → Car} (h : ∀ d, l[n]? = some d → f d = g d) : l.modify n f = l.modify n g := by
  refine List.ext_getElem? fun m => ?_
  rw [List.getElem?_modify, List.getElem?_modify]
  cases hm : l[m]? with
  | none => rfl
  | some d =>
    by_cases hn : n = m
    · subst hn
      simp [h d hm]
    · simp [hn]

theorem modify_of_none {l : List Car} {f : Car → Car} (h : ∀ d, l[n]? = some d → f d = d) : l.modify n f = l := by
  rw [modify_congr (g := id) (fun d hd => h d hd), List.modify_id]

theorem checkTwist_cars (n : Nat) (s : State) : (checkTwist n s).cars = s.cars.modify n (twistChecked s) := by
  unfold checkTwist
  cases hc : s.cars[n]? with
  | none => exact (modify_of_none fun d hd => by rw [hc] at hd; cases hd).symm
  | some d =>
    have hupd : (s.updCar n fun c => { c with lastTwist := twistOf s d, warnRaised := aboveWarn s.group.params d (twistOf s d) }).cars =
        s.cars.modify n (twistChecked s) := modify_congr fun b hb => by
      rw [hc] at hb
      obtain rfl := Option.some.inj hb
      rfl
    simp only
    rw [← hupd]
    split_ifs
    · exact takeDetection_cars _ _ _
    · exact takeDetection_cars _ _ _
    · rfl
    · rfl

theorem checkCoupling_cars (n : Nat) (s : State) : (checkCoupling n s).cars = s.cars.modify n (stepChecked s s.cars[n + 1]?) := by
  unfold checkCoupling
  rw [carBehind_eq]
  cases hc : s.cars[n]? with
  | none => exact (modify_of_none fun d hd => by rw [hc] at hd; cases hd).symm
  | some d =>
    cases hb : s.cars[n + 1]? with
    | none =>
      refine Eq.trans ?_ (modify_of_none fun d hd => rfl).symm
      simp
    | some b =>
      cases hd : d.coupled with
      | false =>
        refine Eq.trans ?_ (modify_of_none fun a ha => ?_).symm
        · simp [hd]
        · rw [hc] at ha
          obtain rfl := Option.some.inj ha
          simp [stepChecked, hd]
      | true =>
        have hupd : (s.updCar n fun c => { c with lastStep := stepBetween s d b, couplingSet := beyond (stepBetween s d b) d.couplingLimit }).cars =
            s.cars.modify n (stepChecked s (some b)) := modify_congr fun a ha => by
          rw [hc] at ha
          obtain rfl := Option.some.inj ha
          unfold stepChecked
          simp only [hd, if_true]
        simp only [Option.bind_some, hd, if_true]
        rw [← hupd]
        split_ifs
        · exact takeDetection_cars _ _ _
        · rfl

/-- The geometry checks move no station's lift. -/
theorem Keeps.checkTwist (n : Nat) (s : State) : Keeps s (checkTwist n s) := by
  unfold Machine.checkTwist
  split
  · exact .refl s
  · simp only
    have hupd (f : Car → Car) (e : Event) : Keeps s (raise e (s.updCar n f)) := .of_jacks rfl
    have hupd' (f : Car → Car) : Keeps s (s.updCar n f) := .of_jacks rfl
    have hdet (t : State) : Keeps t (takeDetection .twist (.car (n + 1)) t) :=
      .detection _ _ t (fun k hk => by cases hk) (by simp)
    split_ifs
    · exact (hupd _ _).trans (hdet _)
    · exact (hupd' _).trans (hdet _)
    · exact hupd _ _
    · exact hupd' _

theorem Keeps.checkCoupling (n : Nat) (s : State) : Keeps s (checkCoupling n s) := by
  unfold Machine.checkCoupling
  split
  · have hupd' (f : Car → Car) : Keeps s (s.updCar n f) := .of_jacks rfl
    have hdet (t : State) : Keeps t (takeDetection .coupling (.coupling (n + 1)) t) :=
      .detection _ _ t (fun k hk => by cases hk) (by simp)
    simp only
    split_ifs
    · exact (hupd' _).trans (hdet _)
    · exact hupd' _
  · exact .refl s

theorem Keeps.geometryChecks (s : State) : Keeps s (geometryChecks s) :=
  .foldl (fun t i => (Keeps.checkTwist i t).trans (.checkCoupling i _)) _ s

/-- What the checks of a car read of the state. -/
structure SameLifts (s t : State) : Prop where
  params : t.group.params = s.group.params
  cycle : t.group.cycle = s.group.cycle
  lift : ∀ k, (t.jack k).lift = (s.jack k).lift
  tells : Tells s t

theorem SameLifts.trans (h : SameLifts s t) (g : SameLifts t u) : SameLifts s u :=
  ⟨g.params.trans h.params, g.cycle.trans h.cycle, fun k => (g.lift k).trans (h.lift k), h.tells.trans g.tells⟩

theorem SameLifts.of_works (h : Keeps s t) (hw : Works False False s t) : SameLifts s t where
  params := hw.params
  cycle := hw.cycle
  tells := hw.tells
  lift := fun k => by
    unfold Jack.lift Jack.latchedHeight
    rw [h.contact, (hw.jacks k).pos, (hw.jacks k).settings]

theorem SameLifts.checkTwist (n : Nat) (s : State) : SameLifts s (checkTwist n s) := .of_works (.checkTwist n s) (.checkTwist n s)

theorem SameLifts.checkCoupling (n : Nat) (s : State) : SameLifts s (checkCoupling n s) := .of_works (.checkCoupling n s) (.checkCoupling n s)

theorem SameLifts.cornerLift (h : SameLifts s t) (x : Option Sta) : cornerLift t x = Machine.cornerLift s x := by
  unfold Machine.cornerLift
  simp only [h.lift]

theorem SameLifts.twistOf (h : SameLifts s t) (d : Car) : twistOf t d = Machine.twistOf s d := by
  unfold Machine.twistOf
  simp only [h.cornerLift]

theorem SameLifts.twistChecked (h : SameLifts s t) (d : Car) : twistChecked t d = Machine.twistChecked s d := by
  unfold Machine.twistChecked
  rw [h.twistOf, h.params]

theorem SameLifts.stepChecked (h : SameLifts s t) (b : Option Car) (d : Car) : stepChecked t b d = Machine.stepChecked s b d := by
  unfold Machine.stepChecked stepBetween rearLift frontLift
  simp only [h.cornerLift]

/-- TWIST_WARN of a car whose mark becomes RAISED. -/
theorem told_checkTwist {d : Car} (hd : s.cars[n]? = some d) (hw : aboveWarn s.group.params d (twistOf s d) = true)
    (hr : d.warnRaised = false) : Told (.twistWarn (n + 1) ((twistOf s d).getD 0) d.twistLimit) s.group.cycle (checkTwist n s) := by
  unfold checkTwist
  rw [hd]
  simp only [hw, hr, Bool.not_false, Bool.and_self, if_true]
  have h := told_raise (.twistWarn (n + 1) ((twistOf s d).getD 0) d.twistLimit)
    (s.updCar n fun c => { c with lastTwist := twistOf s d, warnRaised := true })
  split_ifs
  · exact (Carries.takeDetection _ _ _).tells _ _ h
  · exact h

/-! ### Every car's checks -/

/-- A car of the list with its twist and the step to the car behind recorded. -/
def carChecked (s : State) (n : Nat) (d : Car) : Car := stepChecked s s.cars[n + 1]? (twistChecked s d)

/-- The first `n` cars have been checked. -/
structure Checked (s : State) (n : Nat) (t : State) : Prop where
  lifts : SameLifts s t
  cars : ∀ m, t.cars[m]? = if m < n then (s.cars[m]?).map (carChecked s m) else s.cars[m]?
  told : ∀ m d, m < n → s.cars[m]? = some d → aboveWarn s.group.params d (twistOf s d) = true → d.warnRaised = false →
    Told (.twistWarn (m + 1) ((twistOf s d).getD 0) d.twistLimit) s.group.cycle t

theorem Checked.next (h : Checked s n t) : Checked s (n + 1) (checkCoupling n (checkTwist n t)) := by
  have h1 := h.lifts.trans (.checkTwist n t)
  refine ⟨h1.trans (.checkCoupling n _), fun m => ?_, fun m d hm hd hw hr => ?_⟩
  · have hbehind : (checkTwist n t).cars[n + 1]? = s.cars[n + 1]? := by
      rw [checkTwist_cars, List.getElem?_modify, h.cars, if_neg (by omega)]
      simp
    rw [checkCoupling_cars, checkTwist_cars, List.getElem?_modify, ← checkTwist_cars, hbehind, checkTwist_cars, List.getElem?_modify, h.cars]
    by_cases hn : n = m
    · subst hn
      rw [if_neg (Nat.lt_irrefl n), if_pos (Nat.lt_succ_self n)]
      cases s.cars[n]? with
      | none => rfl
      | some d =>
        simp only [if_true, Option.map_some, h1.stepChecked, h.lifts.twistChecked]
        rfl
    · by_cases hm : m < n
      · simp [hn, hm, Nat.lt_succ_of_lt hm]
      · simp [hn, hm, show ¬ m < n + 1 by omega]
  · refine (SameLifts.checkCoupling n _).tells _ _ ?_
    by_cases hn : m < n
    · exact (SameLifts.checkTwist n t).tells _ _ (h.told m d hn hd hw hr)
    · obtain rfl : m = n := by omega
      have hc : t.cars[m]? = some d := by rw [h.cars, if_neg hn, hd]
      rw [← h.lifts.twistOf, ← h.lifts.cycle]
      exact told_checkTwist hc (by rw [h.lifts.twistOf, h.lifts.params]; exact hw) hr

theorem checked_geometryChecks (s : State) : Checked s s.cars.length (geometryChecks s) := by
  have key (n : Nat) : Checked s n ((List.range n).foldl (fun t i => checkCoupling i (checkTwist i t)) s) := by
    induction n with
    | zero => exact ⟨⟨rfl, rfl, fun _ => rfl, .refl s⟩, fun m => by simp, fun m d hm => by omega⟩
    | succ n ih =>
      rw [List.range_succ, List.foldl_append]
      exact ih.next
  exact key s.cars.length

end Sys2Proof.Machine

/-! PROOF. What a cycle start records of its checks (O20). -/

namespace Sys2Proof.Machine

-- One theorem after another, as in the tests: a thread each for this many proofs would pass the memory limit.
set_option Elab.async false

variable {s t u w o : State} {k i : Sta} {e : Event} {c : Byte} {n : Nat}

theorem Keeps.measured (o : State) : Keeps (sequenced o) (measured o) := by
  obtain ⟨-, e⟩ | ⟨-, e⟩ := measured_cases o <;> rw [e]
  · exact .geometryChecks _
  · exact .of_jacks rfl

/-- The lifts that the geometry checks see: above the contact heights that the cycle start leaves, at the heights it found. -/
theorem sequenced_lift (hslot : s.group.slot = none) (k : Sta) : ((sequenced (begun s)).jack k).lift =
    ((cycleWork s).jack k).record.contact.map fun c => (s.jack k).liveHeight - c := by
  have hc : ((cycleWork s).jack k).record.contact = ((sequenced (begun s)).jack k).record.contact := by
    rw [cycleWork_contact_measured, openCycle_of_none hslot]
    exact (Keeps.measured _).contact k
  have hw : Works False False (begun s) (sequenced (begun s)) := .sequenced _
  have hheight : ((sequenced (begun s)).jack k).latchedHeight = (s.jack k).liveHeight := by
    unfold Jack.latchedHeight
    rw [(hw.jacks k).pos, (hw.jacks k).settings, begun_openedWith]
    rfl
  unfold Jack.lift
  rw [hc, hheight]

/-- The cars that the checks find, and the parameters they go by. -/
theorem sequenced_begun (s : State) : (sequenced (begun s)).cars = s.cars ∧ (sequenced (begun s)).group.params = s.group.params ∧
    (sequenced (begun s)).group.cycle = s.group.cycle + 1 := by
  have hw : Works False False (begun s) (sequenced (begun s)) := .sequenced _
  refine ⟨?_, ?_, ?_⟩
  · unfold sequenced
    rw [((Acts.sequencerWork (geo := False) (begun s) _).trans (.handOver _)).cars.2 id]
    unfold watchedWork
    rw [linkWork_cars, monitorWork_cars]
    exact begun_cars s
  · rw [hw.params, begun_group]
  · rw [hw.cycle, begun_group]

/-- Where the geometry checks are not made, the warn marks are ARMED and the rest stands (R26). -/
theorem cycleWork_cars_unchecked (hslot : s.group.slot = none) (h : ¬ ChecksGeometry s) :
    (cycleWork s).cars = s.cars.map fun c => { c with warnRaised := false } := by
  rw [cycleWork_cars, openCycle_of_none hslot]
  obtain ⟨hg, -⟩ | ⟨-, e⟩ := measured_cases (begun s)
  · exact absurd ((geometryRuns_begun s).mp hg) h
  · rw [e, armWarnings, (sequenced_begun s).1]

/-- Where they are made, every car's twist and the step behind it are recorded. -/
theorem cycleWork_cars_checked (hslot : s.group.slot = none) (h : ChecksGeometry s) {d : Car} (hd : s.cars[n]? = some d) :
    let g := sequenced (begun s)
    (cycleWork s).cars[n]? = some (stepChecked g s.cars[n + 1]? (twistChecked g d)) ∧
      (aboveWarn s.group.params d (twistOf g d) = true → d.warnRaised = false →
        Reported (.twistWarn (n + 1) ((twistOf g d).getD 0) d.twistLimit) (s.group.cycle + 1) (cycleWork s)) := by
  intro g
  obtain ⟨hcars, hp, hcycle⟩ := sequenced_begun s
  have hg : measured (begun s) = geometryChecks g := by
    obtain ⟨-, e⟩ | ⟨hn, -⟩ := measured_cases (begun s)
    · exact e
    · rw [(geometryRuns_begun s).mpr h] at hn
      cases hn
  have hck := checked_geometryChecks g
  have hlt : n < g.cars.length := by
    rw [hcars]
    exact (List.getElem?_eq_some_iff.mp hd).1
  have hd' : g.cars[n]? = some d := by rw [hcars]; exact hd
  refine ⟨?_, fun hw hr => reported_of_imbalanceWork ?_⟩
  · rw [cycleWork_cars, openCycle_of_none hslot, hg, hck.cars, if_pos hlt, hd', Option.map_some, carChecked, hcars]
  · rw [openCycle_of_none hslot, hg, ← hcycle]
    have htells : Tells (geometryChecks g) (imbalanceWork (geometryChecks g)) :=
      (Works.imbalanceWork _ : Works False False _ _).tells
    exact htells _ _ (hck.told n d hlt hd' (by rw [hp]; exact hw) hr)

/-- The mean of two values, halves away from zero (R29). -/
theorem meanOf_two (x y : Int) : meanOf [none, none] = none ∧ meanOf [some x, none] = some x ∧ meanOf [none, some x] = some x ∧
    ∃ m, meanOf [some x, some y] = some m ∧
      (2 * m = x + y ∨ ((2 * m - (x + y)).natAbs = 1 ∧ (x + y).natAbs < (2 * m).natAbs)) := by
  have hone (x : Int) : roundNearest x 1 = x := by
    unfold roundNearest
    simp only
    split_ifs <;> omega
  have hx : [x].sum = x := by simp
  refine ⟨rfl, ?_, ?_, roundNearest (x + y) 2, ?_, ?_⟩
  · show some (roundNearest [x].sum 1) = some x
    rw [hx, hone]
  · show some (roundNearest [x].sum 1) = some x
    rw [hx, hone]
  · show some (roundNearest [x, y].sum 2) = some (roundNearest (x + y) 2)
    rw [show [x, y].sum = x + y by simp]
  · unfold roundNearest
    simp only
    split_ifs <;> omega

theorem aboveWarn_eq (p : GroupParams) (d : Car) (x : Option Int) :
    aboveWarn p d x = x.any fun v => decide (p.twistWarn * d.twistLimit < v.natAbs * 100) := by
  cases x <;> rfl

/-- Settles O20, stage by stage of a cycle start's work. -/
theorem cycleStartRecordsItsChecks : Obligations.CycleStartRecordsItsChecks := by
  refine ⟨fun s hr => ⟨cycleWork s, exec_cycleStart hr, ?_⟩, meanOf_two⟩
  intro p holders mean lift endLift twist stepTo trimming checked
  obtain ⟨hlen, hmarks, hevents⟩ := imbalanceRecorded s
  refine ⟨hlen, hmarks, hevents, fun hslot => ⟨fun k => ?_, fun k => ?_, fun h => ?_, fun h i d hd => ?_⟩⟩
  · intro j nm slips run opened gated enters
    have hslips (g : SlipGate) : Machine.slips p j g = slips g := rfl
    have hrun (g : SlipGate) : slipRunAfter p j g = run g := slipRunAfter_eq p j g
    have hgate : gateStep p j = gated := by
      unfold gateStep
      simp only [gated]
      cases hm : j.mon.gate with
      | none => rfl
      | some g =>
        simp only [closedGate, hslips, hrun]
        rfl
    refine ⟨?_, fun g hg ho hl hs => ?_⟩
    · rw [← hgate]
      exact cycleWork_mon hslot k
    · rw [← hrun]
      exact slip_reported hslot hg ho hl hs
  · obtain ⟨hs, hl⟩ := cycleWork_link hslot k
    refine ⟨?_, ?_⟩
    · rw [hs, ← watched_iff, Bool.or_eq_true, silentNow, Bool.and_eq_true, decide_eq_true_iff]
    · rw [hl]
      unfold lossAfter Jack.isIn saturateNat
      simp only [Bool.and_eq_true, Bool.or_eq_true, beq_iff_eq, decide_eq_true_iff, and_assoc]
  · exact cycleWork_cars_unchecked hslot h
  · obtain ⟨hcar, hwarn⟩ := cycleWork_cars_checked hslot h hd
    generalize hg : sequenced (begun s) = g at hcar hwarn
    have hcorner (x : Option Sta) : cornerLift g x = x.bind lift := by
      unfold cornerLift
      simp only [← hg, sequenced_lift hslot]
      rfl
    have htwist (d : Car) : twistOf g d = twist d := by
      rw [twistOf_eq]
      simp only [twist, hcorner]
      generalize d.fl.bind lift = fl, d.fr.bind lift = fr, d.rl.bind lift = rl, d.rr.bind lift = rr
      cases fl with
      | none => rfl
      | some fl => cases fr with
        | none => rfl
        | some fr => cases rl with
          | none => rfl
          | some rl => cases rr <;> rfl
    have hstep (d b : Car) : stepBetween g d b = stepTo d b := by
      have hrear : rearLift g d = endLift d.rl d.rr := by
        unfold rearLift
        rw [hcorner, hcorner]
      have hfront : frontLift g b = endLift b.fl b.fr := by
        unfold frontLift
        rw [hcorner, hcorner]
      rw [stepBetween_eq, hrear, hfront]
      simp only [stepTo]
      generalize endLift d.rl d.rr = rear, endLift b.fl b.fr = front
      cases rear with
      | none => rfl
      | some r => cases front <;> rfl
    have hparams : g.group.params = p := by
      rw [← hg]
      exact (sequenced_begun s).2.1
    intro turned
    have hturned : twistChecked g d = turned := by
      unfold twistChecked
      rw [htwist, hparams, aboveWarn_eq]
    rw [htwist, aboveWarn_eq] at hwarn
    refine ⟨fun hw hr x hx => ?_, fun b hcoupled hb => ?_, fun hnone => ?_⟩
    · have h := hwarn hw hr
      rw [show twist d = some x from hx] at h
      exact h
    · rw [hcar, hturned, hb]
      unfold stepChecked
      simp only
      rw [show stepBetween g turned b = stepTo d b from hstep turned b, beyond_eq]
      exact congrArg some (if_pos hcoupled)
    · rw [hcar, hturned]
      refine congrArg some ?_
      unfold stepChecked
      obtain hc | hb := hnone
      · split
        · exact if_neg (by rw [show turned.coupled = d.coupled from rfl, hc]; simp)
        · rfl
      · rw [hb]

end Sys2Proof.Machine

/-! PROOF. A detection taken at a cycle start, and what the cycle start makes of it to its end (O9, O10, O18). -/

namespace Sys2Proof.Machine

-- One theorem after another, as in the tests: a thread each for this many proofs would pass the memory limit.
set_option Elab.async false

variable {s t u w o y z : State} {k i : Sta} {f : FaultKind} {x : Subject} {e : Event} {c : Byte} {n : Nat} {strict early : Prop}

/-! ### A detection on its way through the blocks (R103, R104) -/

/-- Where a detection would have begun a fault stop in `s`, the group stands in `y` in a fault stop or LOCKED_OUT. -/
def Alarmed (s y : State) : Prop := faultStops s = true → y.group.state = .lockedOut ∨
  (y.group.state = .stopping ∧ ∃ f x, y.group.cause = .fault f x)

/-- Where a detection would have begun a fault stop in `s`, it still would in `y`, or the group stands in one or LOCKED_OUT. -/
def Alert (s y : State) : Prop := faultStops s = true → faultStops y = true ∨ y.group.state = .lockedOut ∨
  (y.group.state = .stopping ∧ ∃ f x, y.group.cause = .fault f x)

theorem Alert.of_group (hs : y.group.state = s.group.state) (hc : y.group.cause = s.group.cause) : Alert s y :=
  fun h => .inl ((faultStops_congr hs hc).trans h)

theorem Alert.same (h : Alert s y) (hs : z.group = y.group) : Alert s z := fun hf => by
  rw [hs, faultStops_congr (s := y) (by rw [hs]) (by rw [hs])]
  exact h hf

theorem Alarmed.alert (h : Alarmed s y) : Alert s y := fun hs => .inr (h hs)

theorem Alarmed.trans (h : Alarmed s y) (g : Passes y z) : Alarmed s z := fun hs => by
  obtain hl | ⟨hst, f, x, hc⟩ := h hs
  · exact .inl (g.from_lockedOut hl)
  · obtain ⟨h1, h2, -⟩ | ⟨h1, -⟩ | ⟨-, h2, -⟩ | ⟨-, h2⟩ := g
    · exact .inr ⟨h1.trans hst, f, x, h2.trans hc⟩
    · rw [faultStops_of_fault hst hc] at h1
      cases h1
    · exact .inl h2
    · simp [hst] at h2

theorem Alert.detection (h : Alert s y) (f : FaultKind) (x : Subject) : Alarmed s (takeDetection f x y) := fun hs => by
  have hpass : Passes y (takeDetection f x y) := (Works.takeDetection f x y : Works True True _ _).passes trivial
  obtain hstop | hy := h hs
  · obtain ⟨⟨hn, -⟩, -⟩ | ⟨-, ⟨hst, hc⟩, -⟩ | ⟨i, -, ⟨hst, hc⟩, -⟩ := takeDetection_cases f x y
    · rw [hstop] at hn
      cases hn
    · exact .inr ⟨hst, _, _, hc⟩
    · exact .inl hst
  · exact Alarmed.trans (fun _ => hy) hpass hs

theorem Alert.takeDetections (h : Alert s y) (l : List Detection) : Alert s (takeDetections l y) :=
  takeDetections_keeps (P := fun t => Alert s t) (fun f x _ ht => (ht.detection f x).alert) h l

/-- The detection of `f` for `x` has been taken on the way from `s` to `y`. -/
structure Taken (f : FaultKind) (x : Subject) (s y : State) : Prop where
  works : Works True True s y
  found : Found f x s y
  alarmed : Alarmed s y
  struck : ∀ k, x = .station k → (s.jack k).assigned = true → (y.jack k).record.state = .faulted
  locked : f = .runaway → (∃ k, x = .station k) → y.group.state = .lockedOut

theorem Taken.trans (h : Taken f x s y) (g : Works True True y z) : Taken f x s z where
  works := h.works.trans g
  found := h.found.trans (g.carries trivial)
  alarmed := h.alarmed.trans (g.passes trivial)
  struck := fun k hx ha => ((g.carries trivial).faulted k (h.struck k hx ha)).1
  locked := fun hf hx => (g.passes trivial).from_lockedOut (h.locked hf hx)

theorem taken_takeDetection (h : Works True True s y) (ha : Alert s y) : Taken f x s (takeDetection f x y) where
  works := h.trans (.takeDetection f x y)
  found := found_takeDetection (h.carries trivial)
  alarmed := ha.detection f x
  struck := fun k hx hk => by
    subst hx
    exact takeDetection_faulted ((h.jacks k).assigned.trans hk)
  locked := fun hf ⟨i, hx⟩ => by
    obtain ⟨⟨-, hl⟩, hg, -⟩ | ⟨⟨-, hn⟩, -⟩ | ⟨j, -, ⟨hst, -⟩, -⟩ := takeDetection_cases f x y
    · rw [hg, ← hl hf i hx]
      unfold Group.listing
      split_ifs <;> rfl
    · exact absurd hx (hn hf i)
    · exact hst

theorem taken_takeDetections (h : Works True True s y) (ha : Alert s y) {l : List Detection} {d : Detection} (hd : d ∈ l) :
    Taken d.kind d.subject s (takeDetections l y) := by
  obtain ⟨l, m, rfl⟩ := List.append_of_mem hd
  have happ : takeDetections (l ++ d :: m) y = takeDetections m (takeDetection d.kind d.subject (takeDetections l y)) := by
    unfold takeDetections
    rw [List.foldl_append, List.foldl_cons]
  rw [happ]
  exact (taken_takeDetection (h.trans (.takeDetections l y)) (ha.takeDetections l)).trans (.takeDetections m _)

/-! ### The detections of the tracking monitor and of the load link -/

theorem Works.monitored (o : State) : Works strict early o (monitored o) :=
  .of_jacks (.of_line rfl) rfl rfl rfl (fun k => by rw [monitored_jack]; exact {}) fun _ k => by
    rw [monitored_jack]
    exact .of_eq rfl

theorem Works.slipped (o : State) : Works strict early o (Machine.handOver (Machine.forStations (Machine.slipEvent o) (Machine.monitored o))) :=
  ((Works.monitored o).trans (.forStations (.slipEvent o) _)).trans (.handOver _)

theorem alert_slipped (o : State) : Alert o (handOver (forStations (slipEvent o) (monitored o))) := by
  have h : (forStations (slipEvent o) (monitored o)).group = (monitored o).group := (Calm.forStations (Calm.slipEvent o) _).group
  exact Alert.same (.of_group (y := o) rfl rfl) ((handOver_group _).trans (h.trans (monitored_group o)))

theorem monitorWork_eq (o : State) : monitorWork o (clearRates o) =
    takeDetections (Sta.all.flatMap (monitorDetections o)) (handOver (forStations (slipEvent o) (monitored o))) := rfl

/-- The link's records written, before what they found is taken. -/
def linked (o s : State) : State := s.updAll fun k j => { j with link := { j.link with
  silent := j.link.silent || silentNow o.group.params (o.jack k), lossRun := lossAfter o.group.state (o.jack k) } }

theorem linkWork_eq (o s : State) : linkWork o s = takeDetections (Sta.all.flatMap (linkDetections o)) (linked o s) := rfl

theorem Works.linked (o s : State) : Works strict early s (linked o s) := .updAll (fun _ => {}) fun _ _ => .of_eq rfl

theorem alert_linked (o : State) : Alert o (linked o (monitorWork o (clearRates o))) :=
  Alert.same (by rw [monitorWork_eq]; exact (alert_slipped o).takeDetections _) rfl

/-- What the tracking monitor and the load link hand for a station. -/
def handedFor (o : State) (k : Sta) : List Detection := monitorDetections o k ++ linkDetections o k

theorem taken_watchedWork {d : Detection} (hd : d ∈ handedFor o k) : Taken d.kind d.subject o (watchedWork o) := by
  obtain hd | hd := List.mem_append.mp hd
  · have hmem : d ∈ Sta.all.flatMap (monitorDetections o) := List.mem_flatMap.mpr ⟨k, Sta.mem_all k, hd⟩
    refine Taken.trans (y := monitorWork o (clearRates o)) ?_ (.linkWork o _)
    rw [monitorWork_eq]
    exact taken_takeDetections (.slipped o) (alert_slipped o) hmem
  · have hmem : d ∈ Sta.all.flatMap (linkDetections o) := List.mem_flatMap.mpr ⟨k, Sta.mem_all k, hd⟩
    rw [watchedWork, linkWork_eq]
    exact taken_takeDetections (((Works.clearRates o).trans (.monitorWork o _)).trans (.linked o _)) (alert_linked o) hmem

theorem alert_watchedWork (o : State) : Alert o (watchedWork o) := by
  rw [watchedWork, linkWork_eq]
  exact (alert_linked o).takeDetections _

theorem Works.afterWatched (o : State) : Works strict early (Machine.watchedWork o) (Machine.blockWork o) :=
  (((Works.sequencerWork o _).trans (.handOver _)).trans (.geometryWork o _)).trans (.handOver _)

theorem Works.afterSequenced (o : State) : Works strict early (Machine.sequenced o) (Machine.blockWork o) :=
  (Works.geometryWork o _).trans (.handOver _)

theorem Works.afterMeasured (o : State) : Works strict early (Machine.measured o) (Machine.blockWork o) := by
  rw [blockWork_eq]
  exact (Works.imbalanceWork _).trans (.handOver _)

theorem taken_blockWork {d : Detection} (hd : d ∈ handedFor o k) : Taken d.kind d.subject o (blockWork o) :=
  (taken_watchedWork hd).trans (.afterWatched o)

/-! ### The detections of the geometry checker -/

/-- The sequencer has no work: no station seeks contact, and none releases it. -/
def Idles (o : State) : Prop := o.group.state ≠ .engaging ∧ (o.group.state = .landing → o.sync.descent = true)

theorem sequenced_of_idles (h : Idles o) : sequenced o = handOver (watchedWork o) := by
  have hs (t : State) : sequencerWork o t = t := by
    unfold sequencerWork
    split
    · next he => exact absurd he h.1
    · next hl => exact if_pos (h.2 hl)
    all_goals rfl
  rw [sequenced, hs]

theorem alert_sequenced (h : Idles o) : Alert o (sequenced o) := by
  rw [sequenced_of_idles h]
  exact (alert_watchedWork o).same (handOver_group _)

theorem Alert.checkTwist (h : Alert s y) (n : Nat) : Alert s (checkTwist n y) := by
  unfold Machine.checkTwist
  split
  · exact h
  · next d _ =>
    have hupd (f : Car → Car) : Alert s (y.updCar n f) := h.same rfl
    have hraise (f : Car → Car) (e : Event) : Alert s (raise e (y.updCar n f)) := h.same rfl
    simp only
    split_ifs
    · exact ((hraise _ _).detection _ _).alert
    · exact ((hupd _).detection _ _).alert
    · exact hraise _ _
    · exact hupd _

theorem Alert.checkCoupling (h : Alert s y) (n : Nat) : Alert s (checkCoupling n y) := by
  unfold Machine.checkCoupling
  split
  · have hupd (f : Car → Car) : Alert s (y.updCar n f) := h.same rfl
    simp only
    split_ifs
    · exact ((hupd _).detection _ _).alert
    · exact hupd _
  · exact h

/-- The checks of the first `n` cars. -/
def checkCars (n : Nat) (g : State) : State := (List.range n).foldl (fun t i => checkCoupling i (checkTwist i t)) g

theorem checkCars_succ (n : Nat) (g : State) : checkCars (n + 1) g = checkCoupling n (checkTwist n (checkCars n g)) := by
  unfold checkCars
  rw [List.range_succ, List.foldl_append]
  rfl

theorem Works.checkCars (n : Nat) (g : State) : Works strict early g (checkCars n g) :=
  .foldl (fun t i => (Works.checkTwist i t).trans (.checkCoupling i _)) _ g

theorem Alert.checkCars (h : Alert s y) (n : Nat) : Alert s (checkCars n y) := by
  induction n with
  | zero => exact h
  | succ n ih =>
    rw [checkCars_succ]
    exact (ih.checkTwist n).checkCoupling n

theorem checked_checkCars (n : Nat) (g : State) : Checked g n (checkCars n g) := by
  induction n with
  | zero => exact ⟨⟨rfl, rfl, fun _ => rfl, .refl g⟩, fun m => by simp [checkCars], fun m d hm => by omega⟩
  | succ n ih =>
    rw [checkCars_succ]
    exact ih.next

theorem Works.checkCars_of_le {m : Nat} (h : n ≤ m) (g : State) : Works strict early (Machine.checkCars n g) (Machine.checkCars m g) := by
  induction m with
  | zero => rw [Nat.le_zero.mp h]; exact .refl _
  | succ m ih =>
    obtain rfl | hm := Nat.eq_or_lt_of_le h
    · exact .refl _
    · rw [checkCars_succ]
      exact ((ih (by omega)).trans (.checkTwist m _)).trans (.checkCoupling m _)

theorem geometryChecks_eq (g : State) : geometryChecks g = checkCars g.cars.length g := rfl

/-- A twist beyond its limit is taken. -/
theorem taken_checkTwist {g : State} {d : Car} (hg : Works True True o g) (ha : Alert o g) (hd : g.cars[n]? = some d)
    (hb : beyond (twistOf g d) d.twistLimit = true) : Taken .twist (.car (n + 1)) o (geometryChecks g) := by
  have hlt : n < g.cars.length := (List.getElem?_eq_some_iff.mp hd).1
  have hck := checked_checkCars n g
  have hc : (checkCars n g).cars[n]? = some d := by rw [hck.cars, if_neg (Nat.lt_irrefl n), hd]
  have hw : Works True True o (checkCars n g) := hg.trans (.checkCars n g)
  have hal : Alert o (checkCars n g) := ha.checkCars n
  rw [geometryChecks_eq]
  refine Taken.trans (y := checkTwist n (checkCars n g)) ?_ (.trans ?_ (.checkCars_of_le (n := n + 1) (by omega) g))
  · rw [← hck.lifts.twistOf] at hb
    unfold checkTwist
    rw [hc]
    have hupd (f : Car → Car) : Works True True o ((checkCars n g).updCar n f) ∧ Alert o ((checkCars n g).updCar n f) :=
      ⟨hw.trans (.of_rest rfl rfl rfl rfl rfl), hal.same rfl⟩
    have hraise (f : Car → Car) (e : Event) : Works True True o (raise e ((checkCars n g).updCar n f)) ∧
        Alert o (raise e ((checkCars n g).updCar n f)) :=
      ⟨(hupd f).1.trans (.raise e _), (hupd f).2.same rfl⟩
    simp only
    rw [if_pos hb]
    split_ifs
    · exact taken_takeDetection (hraise _ _).1 (hraise _ _).2
    · exact taken_takeDetection (hupd _).1 (hupd _).2
  · rw [checkCars_succ]
    exact .checkCoupling n _

/-- A step beyond its limit is taken. -/
theorem taken_checkCoupling {g : State} {d b : Car} (hg : Works True True o g) (ha : Alert o g) (hd : g.cars[n]? = some d)
    (hco : d.coupled = true) (hb : g.cars[n + 1]? = some b) (hs : beyond (stepBetween g d b) d.couplingLimit = true) :
    Taken .coupling (.coupling (n + 1)) o (geometryChecks g) := by
  have hlt : n < g.cars.length := (List.getElem?_eq_some_iff.mp hd).1
  have hck := checked_checkCars n g
  have hlifts := hck.lifts.trans (.checkTwist n (checkCars n g))
  have hcars (m : Nat) : (checkTwist n (checkCars n g)).cars[m]? =
      if n = m then ((checkCars n g).cars[m]?).map (twistChecked (checkCars n g)) else (checkCars n g).cars[m]? := by
    rw [checkTwist_cars, List.getElem?_modify]
    split_ifs with h
    · simp
    · simp
  have hc : (checkTwist n (checkCars n g)).cars[n]? = some (twistChecked (checkCars n g) d) := by
    rw [hcars, if_pos rfl, hck.cars, if_neg (Nat.lt_irrefl n), hd, Option.map_some]
  have hbehind : carBehind (checkTwist n (checkCars n g)).cars n = some b := by
    rw [carBehind_eq, hc, Option.bind_some, hcars, if_neg (by omega : ¬ n = n + 1), hck.cars,
      if_neg (by omega : ¬ n + 1 < n), hb]
    exact if_pos hco
  have hw : Works True True o (checkTwist n (checkCars n g)) := (hg.trans (.checkCars n g)).trans (.checkTwist n _)
  have hal : Alert o (checkTwist n (checkCars n g)) := (ha.checkCars n).checkTwist n
  have hstep : stepBetween (checkTwist n (checkCars n g)) (twistChecked (checkCars n g) d) b = stepBetween g d b := by
    unfold stepBetween rearLift frontLift
    simp only [hlifts.cornerLift]
    rfl
  rw [geometryChecks_eq]
  refine Taken.trans (y := checkCars (n + 1) g) ?_ (.checkCars_of_le (by omega) g)
  rw [checkCars_succ]
  generalize checkTwist n (checkCars n g) = v at hc hbehind hw hal hstep
  unfold checkCoupling
  rw [hc, hbehind]
  simp only [hstep]
  have hpast : beyond (stepBetween g d b) (twistChecked (checkCars n g) d).couplingLimit = true := hs
  rw [if_pos hpast]
  refine taken_takeDetection (y := v.updCar n _) (hw.trans (.of_rest rfl rfl rfl rfl rfl)) (hal.same rfl)

end Sys2Proof.Machine

/-! PROOF. From a detection taken to the end of the cycle start: the stop, the lockout, and what is reported (O9, O10, O18). -/

namespace Sys2Proof.Machine

-- One theorem after another, as in the tests: a thread each for this many proofs would pass the memory limit.
set_option Elab.async false

variable {s t u w o y z : State} {k i : Sta} {f : FaultKind} {x : Subject} {e : Event} {c : Byte} {n : Nat} {strict early : Prop}

/-! ### The computation past its trips -/

theorem Works.tripped (z : State) : Works strict early z (tripped z) := (Works.formErrors z).trans (.takeDetections _ _)

theorem tripped_of_none (h : tripDetections (formErrors z) = []) : tripped z = formErrors z := by
  unfold tripped
  rw [h]
  rfl

/-- From the trips to the end of the computation. -/
theorem Works.afterTrips (z : State) : Works strict False (Machine.tripped z) (Machine.computation z) := by
  obtain ⟨-, e⟩ | ⟨-, ht, -, e⟩ | ⟨-, ht, -, e⟩ := computation_cases z <;> rw [e]
  · refine (Works.setWait 0 false _).trans (.trans ?_ (.handOver _))
    exact .trans (.of_rest (t := forceReference (Machine.setWait 0 false (Machine.tripped z))) rfl rfl rfl rfl rfl) (.handStops _)
  · rw [tripped_of_none ht]
    exact ((Works.waitCycle _).trans (.finishComputation _ _ _)).trans (.handOver _)
  · rw [tripped_of_none ht]
    exact ((Works.setWait 0 false _).trans (.finishComputation _ _ _)).trans (.handOver _)

theorem Works.computed (z : State) : Works strict False (Machine.tripped z) (Machine.computeCycle z) := by
  unfold Machine.computeCycle
  simp only
  split_ifs
  · exact (Works.afterTrips z).trans (.releaseAll _)
  · exact .afterTrips z

theorem Carries.stopTest (b : Bool) (s : State) : Carries s (stopTest b s) := by
  obtain ⟨-, h⟩ | ⟨-, h⟩ := stopTest_cases b s <;> rw [h]
  · have hc : Carries s (clearWait s) := (Works.clearWait s : Works True True _ _).carries trivial
    exact (hc.trans (.enterGroup _ _)).trans (.handOver _)
  · exact .refl s

/-! ### What is reported (R103, R104, R109) -/

/-- The state a cycle start without a waiting command leaves, from its computation on. -/
theorem cycleWork_ends (hslot : s.group.slot = none) : cycleWork s = settleBrakes (streamWork
    (stopTest (forcedEarlier (blockWork (begun s))) (computeCycle (blockWork (begun s))))) := by
  rw [cycleWork_eq, openCycle_of_none hslot]
  rfl

/-- What is told by the end of the computation is reported at the end of the cycle start. -/
theorem reported_of_computed (hslot : s.group.slot = none) (h : Told e c (computeCycle (blockWork (begun s)))) :
    Reported e c (cycleWork s) := by
  refine reported_cycleWork hslot ?_
  exact tells_cycleEnd_of_computeCycle (begun s) e c h

/-- The group at the end of the cycle start. -/
theorem cycleWork_group (hslot : s.group.slot = none) : (cycleWork s).group =
    if (computeCycle (blockWork (begun s))).group.state = .stopping ∧ forcedEarlier (blockWork (begun s)) = true ∧
        allAtRest (computeCycle (blockWork (begun s))) = true then
      { (computeCycle (blockWork (begun s))).group with state := .stopped, waitCount := 0 }
    else (computeCycle (blockWork (begun s))).group := by
  rw [cycleWork_ends hslot]
  generalize blockWork (begun s) = z
  rw [(closed_same _).1, stopTest_group]

/-- The stations at the end of the cycle start. -/
theorem cycleWork_jack (hslot : s.group.slot = none) (k : Sta) : ∃ b, (cycleWork s).jack k =
    { (computeCycle (blockWork (begun s))).jack k with gen := { ((computeCycle (blockWork (begun s))).jack k).gen with brake := b } } := by
  rw [cycleWork_ends hslot]
  generalize blockWork (begun s) = z
  obtain ⟨b, hb⟩ := closed_jack (stopTest (forcedEarlier z) (computeCycle z)) k
  refine ⟨b, ?_⟩
  rw [hb, stopTest_jack]

/-- A fault is listed where it has been found, or the list overflowed, and STATION_FAULT is raised where it was new. -/
structure ListedFor (f : FaultKind) (x : Subject) (s t : State) : Prop where
  listed : t.group.faults.any (fun e => e.kind == f && e.subject == x) = true ∨ t.group.overflow = true
  reported : FaultReported f x (s.group.cycle + 1) s t

theorem lists_begun (f : FaultKind) (x : Subject) (s : State) : (begun s).lists f x = s.lists f x := by
  unfold State.lists
  rw [begun_group]

theorem lists_eq_false (h : ∀ e ∈ s.group.faults, ¬ (e.kind = f ∧ e.subject = x)) : s.lists f x = false := by
  unfold State.lists
  rw [List.any_eq_false]
  intro e he
  simpa using h e he

theorem Found.listedFor (hslot : s.group.slot = none) (h : Found f x (begun s) (tripped (blockWork (begun s)))) :
    ListedFor f x s (cycleWork s) := by
  have hw : Works True False (tripped (blockWork (begun s))) (computeCycle (blockWork (begun s))) := .computed _
  obtain ⟨-, hl, ht⟩ := (h.trans (hw.carries trivial)).trans (.stopTest (forcedEarlier (blockWork (begun s))) _)
  have hends : (cycleWork s).group = (stopTest (forcedEarlier (blockWork (begun s))) (computeCycle (blockWork (begun s)))).group := by
    rw [cycleWork_ends hslot]
    exact (closed_same _).1
  refine ⟨?_, fun hnew => ?_⟩
  · rw [hends]
    exact hl.imp id And.left
  · have htold := ht (by rw [lists_begun]; exact lists_eq_false hnew)
    rw [begun_group] at htold
    refine reported_cycleWork hslot ?_
    rw [hends]
    exact htold

/-! ### The group at the end (R104, R106, R109) -/

/-- The group is LOCKED_OUT by a RUNAWAY that this cycle start reported. -/
def LockedAt (s t : State) : Prop := t.group.state = .lockedOut ∧
  ∃ i, t.group.cause = .fault .runaway (.station i) ∧ Reported (.lockout i) (s.group.cycle + 1) t

/-- A stop has come to rest. -/
def ComesToRest (s t : State) : Prop := s.group.state = .stopping ∧ t.group.state = .stopped

/-- The group stands in a fault stop that this cycle start reported, every rate 0. -/
def StopsAt (s t : State) : Prop := (t.group.state = .stopping ∨ ComesToRest s t) ∧
  (∃ f x, t.group.cause = .fault f x ∧ Reported (.groupStop f x) (s.group.cycle + 1) t) ∧
  ∀ i, forcedStation (t.jack i) = true → (t.jack i).rate = 0

theorem faultStops_iff (s : State) : faultStops s = true ↔ s.group.state ∈ [GroupState.engaging, .poised, .moving, .holding, .landing] ∨
    (s.group.state = .stopping ∧ s.group.cause = .command) := by
  unfold faultStops
  cases s.group.state <;> simp

theorem faultStops_begun (s : State) : faultStops (begun s) = faultStops s :=
  faultStops_congr (by rw [begun_group]) (by rw [begun_group])

theorem passes_computed (o : State) : Passes o (computeCycle (blockWork o)) := by
  have h1 : Works True False o (blockWork o) := .blockWork o
  have h2 : Works True False (blockWork o) (computeCycle (blockWork o)) := .computeCycle _
  exact (h1.passes trivial).trans (h2.passes trivial) h2.tells h1.cycle

/-- A lockout of this cycle start. -/
theorem lockedAt_of_computed (hslot : s.group.slot = none) (hs : s.group.state ≠ .lockedOut)
    (h : (computeCycle (blockWork (begun s))).group.state = .lockedOut) : LockedAt s (cycleWork s) := by
  have hend : (cycleWork s).group = (computeCycle (blockWork (begun s))).group := by
    rw [cycleWork_group hslot, if_neg (by rw [h]; simp)]
  have hb : (begun s).group.state = s.group.state ∧ (begun s).group.cycle = s.group.cycle + 1 := by
    rw [begun_group]
    exact ⟨rfl, rfl⟩
  obtain ⟨h1, -⟩ | ⟨-, h2, -⟩ | ⟨-, -, i, hc, ht⟩ | ⟨-, h2⟩ := passes_computed (begun s)
  · exact absurd (hb.1.symm.trans (h1.symm.trans h)) hs
  · rw [h] at h2
    cases h2
  · rw [hb.2] at ht
    unfold LockedAt
    rw [hend]
    exact ⟨h, i, hc, reported_of_computed hslot ht⟩
  · simp [h] at h2

/-- Where a detection begins no fault stop, the group stands as it did but for a lockout and the passage of R106. -/
theorem stands_of_not_halting (hslot : s.group.slot = none) (hs : faultStops s = false) : LockedAt s (cycleWork s) ∨
    ((cycleWork s).group.cause = s.group.cause ∧
      ((cycleWork s).group.state = s.group.state ∨ ComesToRest s (cycleWork s))) := by
  have hb : (begun s).group.state = s.group.state ∧ (begun s).group.cause = s.group.cause := by
    rw [begun_group]
    exact ⟨rfl, rfl⟩
  have hmoves (h : s.group.state ∈ [GroupState.engaging, .landing, .moving]) : False := by
    have : faultStops s = true := (faultStops_iff s).mpr (.inl (by simp at h; rcases h with h | h | h <;> simp [h]))
    rw [hs] at this
    cases this
  have hg := cycleWork_group hslot
  have hlock := lockedAt_of_computed (s := s) hslot
  have hpass := passes_computed (begun s)
  generalize computeCycle (blockWork (begun s)) = v at hg hlock hpass
  obtain ⟨h1, h2, -⟩ | ⟨h1, -⟩ | ⟨h1, h2, -⟩ | ⟨-, h2⟩ := hpass
  · right
    rw [hb.1] at h1
    rw [hb.2] at h2
    unfold ComesToRest
    split_ifs at hg with hc
    · rw [hg]
      exact ⟨h2, .inr ⟨h1.symm.trans hc.1, rfl⟩⟩
    · rw [hg]
      exact ⟨h2, .inl h1⟩
  · rw [faultStops_begun, hs] at h1
    cases h1
  · exact .inl (hlock (by rwa [hb.1] at h1) h2)
  · rw [hb.1] at h2
    exact (hmoves (by rcases h2 with ⟨h, -⟩ | ⟨h, -⟩ | ⟨h, -⟩ <;> simp [h])).elim

/-- A computation is forced where a fault stop is under way. -/
theorem forcedAtStart_of_fault (hs : z.group.state = .stopping) (hc : z.group.cause = .fault f x) : forcedAtStart z = true := by
  simp [forcedAtStart, faultStopUnderWay, hs, hc]

/-- A fault stop that stands once the trips are taken stops the group at the end of the cycle start. -/
theorem stops_of_alarmed (hslot : s.group.slot = none) (hs : faultStops s = true)
    (h : Alarmed (begun s) (tripped (blockWork (begun s)))) : LockedAt s (cycleWork s) ∨ StopsAt s (cycleWork s) := by
  have hb : (begun s).group.state = s.group.state ∧ (begun s).group.cause = s.group.cause ∧ (begun s).group.cycle = s.group.cycle + 1 := by
    rw [begun_group]
    exact ⟨rfl, rfl, rfl⟩
  have hpass := passes_computed (begun s)
  have hz : Works True False (tripped (blockWork (begun s))) (computeCycle (blockWork (begun s))) := .computed _
  have hearly : forcedEarlier (blockWork (begun s)) = true → (begun s).group.state = .stopping := fun hf =>
    ((forcedEarlier_iff _).mp ((Works.blockWork (begun s) : Works True True _ _).forced trivial hf)).1
  have hcg := cycleWork_group hslot
  have hj := cycleWork_jack hslot
  have hrep (e : Event) (c : Byte) (h : Told e c (computeCycle (blockWork (begun s)))) : Reported e c (cycleWork s) :=
    reported_of_computed hslot h
  obtain hl | ⟨hst, f, x, hc⟩ := h (by rw [faultStops_begun]; exact hs)
  · exact .inl (lockedAt_of_computed hslot (faultStops_lockedOut hs) ((hz.passes trivial).from_lockedOut hl))
  · right
    generalize blockWork (begun s) = z at *
    have hforced : forcedAtStart z = true ∨ tripDetections (formErrors z) ≠ [] := by
      by_cases ht : tripDetections (formErrors z) = []
      · rw [tripped_of_none ht, formErrors_group] at hst hc
        exact .inl (forcedAtStart_of_fault hst hc)
      · exact .inr ht
    have hland : z.group.state ≠ .landing := fun hl => by
      have ht : tripDetections (formErrors z) = [] := tripDetections_of_unchecked (by rw [hl]; rfl)
      rw [tripped_of_none ht, formErrors_group, hl] at hst
      cases hst
    obtain ⟨hg, -, -, hjk⟩ := computation_forced_group hforced
    rw [← computeCycle_of_not_landing hland] at hg hjk
    generalize computeCycle z = v at *
    have hvs : v.group.state = .stopping := by rw [hg]; exact hst
    have hvc : v.group.cause = .fault f x := by rw [hg]; exact hc
    have hcause : (cycleWork s).group.cause = .fault f x := by
      rw [hcg]
      split_ifs <;> exact hvc
    refine ⟨?_, ⟨f, x, hcause, ?_⟩, fun i hi => ?_⟩
    · rw [hcg]
      unfold ComesToRest
      rw [hcg]
      split_ifs with hcond
      · exact .inr ⟨hb.1.symm.trans (hearly hcond.2.1), rfl⟩
      · exact .inl hvs
    · obtain ⟨h1, h2, -⟩ | ⟨-, -, ⟨f', x', h3, h4⟩, -⟩ | ⟨-, h2, -⟩ | ⟨-, h2⟩ := hpass
      · have : faultStops s = false := by
          rw [← faultStops_begun]
          exact faultStops_of_fault (h1.symm.trans hvs) (h2.symm.trans hvc)
        rw [hs] at this
        cases this
      · rw [hvc] at h3
        cases h3
        rw [hb.2.2] at h4
        exact hrep _ _ h4
      · rw [hvs] at h2
        cases h2
      · simp [hvs] at h2
    · obtain ⟨b, hbk⟩ := hj i
      rw [hbk] at hi ⊢
      show (v.jack i).rate = 0
      have hi : forcedStation (v.jack i) = true := hi
      rw [hjk] at hi ⊢
      exact Jack.forcedToStop_rate _ hi

/-- What a detection makes of the group by the end of the cycle start. -/
def ActsOnGroup (s t : State) : Prop :=
  (faultStops s = true → LockedAt s t ∨ StopsAt s t) ∧
  (faultStops s = false → LockedAt s t ∨ (t.group.cause = s.group.cause ∧ (t.group.state = s.group.state ∨ ComesToRest s t)))

/-- A detection taken by the end of the trips: the group, the list and the station at the end of the cycle start. -/
theorem Taken.ends (hslot : s.group.slot = none) (h : Taken f x (begun s) (tripped (blockWork (begun s)))) :
    ActsOnGroup s (cycleWork s) ∧ ListedFor f x s (cycleWork s) ∧
    (∀ k, x = .station k → (s.jack k).assigned = true → ((cycleWork s).jack k).record.state = .faulted) ∧
    (f = .runaway → (∃ k, x = .station k) → s.group.state ≠ .lockedOut → LockedAt s (cycleWork s)) := by
  have hz : Works True False (tripped (blockWork (begun s))) (computeCycle (blockWork (begun s))) := .computed _
  refine ⟨⟨fun hs => stops_of_alarmed hslot hs h.alarmed, fun hs => stands_of_not_halting hslot hs⟩, h.found.listedFor hslot,
    fun k hx ha => ?_, fun hf hx hs => ?_⟩
  · have hk := ((hz.carries trivial).faulted k (h.struck k hx (by rw [begun_assigned]; exact ha))).1
    obtain ⟨b, hb⟩ := cycleWork_jack hslot k
    generalize computeCycle (blockWork (begun s)) = v at hk hb
    rw [hb]
    exact hk
  · exact lockedAt_of_computed hslot hs ((hz.passes trivial).from_lockedOut (h.locked hf hx))

end Sys2Proof.Machine

/-! PROOF. What detections leave of contact heights, and of a station that stands ENGAGED (O9). -/

namespace Sys2Proof.Machine

-- One theorem after another, as in the tests: a thread each for this many proofs would pass the memory limit.
set_option Elab.async false

variable {s t u w o y z : State} {k i : Sta} {f : FaultKind} {x : Subject} {e : Event} {c : Byte} {n : Nat} {strict early : Prop}

/-! ### Contact heights through detections -/

/-- A record with a contact height stands in a state that keeps it in FAULTED. -/
def StationRec.Firm (r : StationRec) : Prop := r.contact.isSome = true → priorOf r.state = .engaged ∨ r.state = .faulted

theorem RecordSafe.firm {r : StationRec} (h : RecordSafe r) : r.Firm := fun hc => by
  obtain ⟨-, -, h3⟩ := h
  rw [h3] at hc
  unfold holdsContact at hc
  simp only [Bool.or_eq_true, Bool.and_eq_true, beq_iff_eq] at hc
  obtain ((h | h) | h) | ⟨h, -⟩ := hc
  · exact .inl (by rw [h]; rfl)
  · exact .inl (by rw [h]; rfl)
  · exact .inl (by rw [h]; rfl)
  · exact .inr h

/-- From `r` to `q` the contact height stands, firmly. -/
def StationRec.Holds (r q : StationRec) : Prop := q.contact = r.contact ∧ (r.Firm → q.Firm)

theorem StationRec.Holds.trans {a b d : StationRec} (h : a.Holds b) (g : b.Holds d) : a.Holds d := ⟨g.1.trans h.1, g.2 ∘ h.2⟩

theorem StationRec.Holds.of_state {r q : StationRec} (hc : q.contact = r.contact) (hs : q.state = r.state) : r.Holds q :=
  ⟨hc, fun h => by unfold StationRec.Firm; rw [hc, hs]; exact h⟩

theorem StationRec.moveByStop_holds (r : StationRec) : r.Holds r.moveByStop := by
  refine ⟨r.moveByStop_held.1, fun h hc => ?_⟩
  rw [r.moveByStop_held.1] at hc
  have h := h hc
  unfold StationRec.moveByStop
  split <;> simp_all [priorOf]

theorem StationRec.cut_holds (r : StationRec) : r.Holds r.cut := by
  refine ⟨r.cut_same.2.1, fun h hc => ?_⟩
  rw [r.cut_same.2.1] at hc
  have h := h hc
  unfold StationRec.cut
  split
  · unfold StationRec.endMove
    simp only
    cases hs : r.state <;> simp_all [moveEndState, priorOf]
  · exact h

theorem Jack.trimEnded_record (j : Jack) : ∃ m, j.trimEnded.record = { j.record with move := m } := by
  unfold Jack.trimEnded
  split
  · split_ifs
    · exact j.moveStopped_record
    · exact ⟨_, rfl⟩
  · exact ⟨_, rfl⟩

theorem Jack.faultedBy_holds (f : FaultKind) {j : Jack} (h : j.record.Firm) : j.record.Holds (j.faultedBy f).record := by
  obtain ⟨m, hm⟩ := j.moveStopped_record
  unfold Jack.faultedBy
  split_ifs with hu hf
  · exact .of_state rfl rfl
  · exact .of_state rfl rfl
  · rw [hm]
    exact .of_state rfl rfl
  · simp only [hm]
    refine ⟨?_, fun _ _ => .inr rfl⟩
    show (if priorOf j.record.state = .engaged then j.record.contact else none) = j.record.contact
    split_ifs with hp
    · rfl
    · cases hc : j.record.contact with
      | none => rfl
      | some c => exact absurd (h (by rw [hc]; rfl)) (by simp [hp, hf])

theorem Jack.struck_holds (f : FaultKind) (x : Subject) (k : Sta) {j : Jack} (h : j.record.Firm) : j.record.Holds (j.struck f x k).record := by
  obtain ⟨m, hm⟩ := j.trimEnded_record
  unfold Jack.struck
  split
  · split_ifs
    · exact Jack.faultedBy_holds f h
    · exact .of_state rfl rfl
  · rw [hm]
    exact .of_state rfl rfl
  · rw [hm]
    exact .of_state rfl rfl
  · exact .of_state rfl rfl

/-- Every contact height stands, firmly, from `s` to `t`. -/
def ContactsHeld (s t : State) : Prop := (∀ k, (s.jack k).record.Firm) → ∀ k, (s.jack k).record.Holds (t.jack k).record

theorem ContactsHeld.trans (h : ContactsHeld s t) (g : ContactsHeld t u) : ContactsHeld s u := fun hs k =>
  (h hs k).trans (g (fun i => (h hs i).2 (hs i)) k)

theorem ContactsHeld.of_records (h : ∀ k, (t.jack k).record = (s.jack k).record) : ContactsHeld s t :=
  fun _ k => by rw [h]; exact .of_state rfl rfl

theorem ContactsHeld.detection (f : FaultKind) (x : Subject) (s : State) : ContactsHeld s (takeDetection f x s) := fun hs k => by
  have h := Jack.struck_holds f x k (hs k)
  obtain ⟨-, -, -, hj⟩ | ⟨-, -, -, hj⟩ | ⟨-, -, -, -, -, hj⟩ := takeDetection_cases f x s <;> rw [hj]
  · exact h
  · exact h.trans (StationRec.moveByStop_holds _)
  · exact h.trans ((StationRec.cut_holds _).trans (StationRec.moveByStop_holds _))

theorem ContactsHeld.takeDetections (l : List Detection) (s : State) : ContactsHeld s (takeDetections l s) :=
  takeDetections_keeps (P := fun t => ContactsHeld s t) (fun f x t ht => ht.trans (.detection f x t)) (.of_records fun _ => rfl) l

theorem slipped_record (o : State) (k : Sta) :
    ((handOver (forStations (slipEvent o) (monitored o))).jack k).record = (o.jack k).record := by
  rw [handOver_jack, (Calm.forStations (Calm.slipEvent o) _).record, monitored_jack]

theorem linked_record (o s : State) (k : Sta) : ((linked o s).jack k).record = (s.jack k).record := by
  unfold linked
  rw [updAll_jack]

theorem ContactsHeld.watchedWork (o : State) : ContactsHeld o (watchedWork o) := by
  rw [Machine.watchedWork, linkWork_eq, monitorWork_eq]
  exact (((ContactsHeld.of_records (slipped_record o)).trans (.takeDetections _ _)).trans
    (.of_records (linked_record o _))).trans (.takeDetections _ _)

/-- The lifts that the geometry checks see where the sequencer has no work: those of the contact heights found. -/
theorem sequenced_lift_of_idles (h : StationsSafe s) (hi : Idles (begun s)) (k : Sta) :
    ((sequenced (begun s)).jack k).lift = (s.jack k).liveLift := by
  have hfirm (i : Sta) : ((begun s).jack i).record.Firm := by
    rw [begun_record]
    exact (h i).firm
  have hc := (ContactsHeld.watchedWork (begun s) hfirm k).1
  have hw : Works False False (begun s) (sequenced (begun s)) := .sequenced _
  unfold Jack.lift Jack.latchedHeight
  rw [(hw.jacks k).pos, (hw.jacks k).settings, sequenced_of_idles hi, handOver_jack, hc, begun_openedWith]
  rfl

/-! ### A station that stands ENGAGED -/

/-- Station `k`, ENGAGED in `o`, stands so in `x` with its contact height, or a detection of a kind of `P` has faulted it. -/
def Follows (P : FaultKind → Prop) (k : Sta) (o x : State) : Prop :=
  Works True True o x ∧ (((x.jack k).record.state = .engaged ∧ (x.jack k).record.contact = (o.jack k).record.contact) ∨
    ((x.jack k).record.state = .faulted ∧ ∃ f, P f ∧ (x.jack k).record.faultKind = some f ∧ Found f (.station k) o x))

variable {P Q : FaultKind → Prop}

theorem Follows.mono (h : Follows P k o y) (hp : ∀ f, P f → Q f) : Follows Q k o y :=
  ⟨h.1, h.2.imp id fun ⟨hf, f, hP, h⟩ => ⟨hf, f, hp f hP, h⟩⟩

/-- Work that leaves the station's record leaves it as it stands. -/
theorem Follows.same (h : Follows P k o y) (hw : Works True True y z) (hr : (z.jack k).record = (y.jack k).record) : Follows P k o z := by
  obtain ⟨hw', h⟩ := h
  refine ⟨hw'.trans hw, ?_⟩
  rw [hr]
  exact h.imp id fun ⟨hf, f, hP, hk, hfd⟩ => ⟨hf, f, hP, hk, hfd.trans (hw.carries trivial)⟩

/-- What a detection makes of an ENGAGED record: it faults its subject, and leaves any other as it is. -/
theorem Jack.struck_engaged {j : Jack} (f : FaultKind) (x : Subject) (h : j.record.state = .engaged) :
    if x = .station k then (j.struck f x k).record.state = .faulted ∧ (j.struck f x k).record.faultKind = some f
    else (j.struck f x k).record.state = .engaged ∧ (j.struck f x k).record.contact = j.record.contact := by
  obtain ⟨m, hm⟩ := j.trimEnded_record
  unfold Jack.struck
  cases x with
  | station i =>
    by_cases hk : k = i
    · subst hk
      rw [if_pos rfl]
      simp only [if_true]
      unfold Jack.faultedBy
      rw [if_neg (by simp [h]), if_neg (by simp [h])]
      exact ⟨rfl, rfl⟩
    · rw [if_neg (fun hx => hk (Subject.station.inj hx).symm)]
      simp only [if_neg hk]
      exact ⟨h, trivial⟩
  | car n =>
    rw [if_neg (by simp)]
    simp only [hm]
    exact ⟨h, trivial⟩
  | coupling n =>
    rw [if_neg (by simp)]
    simp only [hm]
    exact ⟨h, trivial⟩
  | none => exact ⟨h, rfl⟩

theorem Follows.detection (h : Follows P k o y) (hx : x = .station k → P f) : Follows P k o (takeDetection f x y) := by
  have hw : Works True True y (takeDetection f x y) := .takeDetection f x y
  obtain ⟨hwy, ⟨he, hc⟩ | ⟨hf, g, hg, hk, hfd⟩⟩ := h
  · refine ⟨hwy.trans hw, ?_⟩
    have hstr := Jack.struck_engaged (k := k) f x he
    have hfound : Found f x o (takeDetection f x y) := found_takeDetection (hwy.carries trivial)
    have hstop (r : StationRec) (hr : r.state = .engaged ∨ r.state = .faulted) : r.moveByStop = r := by
      unfold StationRec.moveByStop
      obtain hr | hr := hr <;> rw [hr]
    have hcut (r : StationRec) (hr : r.state = .engaged ∨ r.state = .faulted) : r.cut.moveByStop.state = r.state ∧
        r.cut.moveByStop.contact = r.contact ∧ r.cut.moveByStop.faultKind = r.faultKind := by
      have h1 : r.cut.state = r.state := by
        unfold StationRec.cut StationRec.endMove
        split
        · obtain hr | hr := hr <;> simp only [hr] <;> rfl
        · rfl
      rw [hstop _ (by rw [h1]; exact hr)]
      refine ⟨h1, r.cut_same.2.1, ?_⟩
      unfold StationRec.cut
      split <;> rfl
    split_ifs at hstr with hs
    · subst hs
      refine .inr ?_
      obtain ⟨-, -, -, hj⟩ | ⟨-, -, -, hj⟩ | ⟨-, -, -, -, -, hj⟩ := takeDetection_cases f (.station k) y <;> rw [hj]
      · exact ⟨hstr.1, f, hx rfl, hstr.2, hfound⟩
      · unfold Jack.stopped
        simp only
        rw [hstop _ (.inr hstr.1)]
        exact ⟨hstr.1, f, hx rfl, hstr.2, hfound⟩
      · obtain ⟨h1, -, h3⟩ := hcut _ (.inr hstr.1)
        exact ⟨h1.trans hstr.1, f, hx rfl, h3.trans hstr.2, hfound⟩
    · refine .inl ?_
      obtain ⟨-, -, -, hj⟩ | ⟨-, -, -, hj⟩ | ⟨-, -, -, -, -, hj⟩ := takeDetection_cases f x y <;> rw [hj]
      · exact ⟨hstr.1, hstr.2.trans hc⟩
      · unfold Jack.stopped
        simp only
        rw [hstop _ (.inl hstr.1)]
        exact ⟨hstr.1, hstr.2.trans hc⟩
      · obtain ⟨h1, h2, -⟩ := hcut _ (.inl hstr.1)
        exact ⟨h1.trans hstr.1, h2.trans (hstr.2.trans hc)⟩
  · obtain ⟨h1, h2, -, -⟩ := (hw.carries trivial).faulted k hf
    exact ⟨hwy.trans hw, .inr ⟨h1, g, hg, h2.trans hk, hfd.trans (hw.carries trivial)⟩⟩

theorem Follows.takeDetections (h : Follows P k o y) {l : List Detection} (hl : ∀ d ∈ l, d.subject = .station k → P d.kind) :
    Follows P k o (takeDetections l y) := by
  induction l generalizing y with
  | nil => exact h
  | cons d l ih =>
    obtain ⟨hd, hl⟩ := List.forall_mem_cons.mp hl
    exact ih (h.detection hd) hl

/-- A kind that the monitor or the load link hands for the station. -/
def HandedKind (o : State) (k : Sta) (f : FaultKind) : Prop := ∃ d ∈ handedFor o k, d.kind = f ∧ d.subject = .station k

theorem monitorDetections_kind {d : Detection} (hd : d ∈ monitorDetections o k) :
    d.subject = .station k ∧ d.kind ∈ [FaultKind.travelLimit, .driveSlip, .runaway] := by
  unfold monitorDetections at hd
  simp only [List.mem_append] at hd
  obtain (hd | hd) | hd := hd
  · split_ifs at hd <;> simp_all
  · split at hd
    · split_ifs at hd <;> simp_all
    · simp at hd
  · split_ifs at hd <;> simp_all

theorem linkDetections_kind {d : Detection} (hd : d ∈ linkDetections o k) :
    d.subject = .station k ∧ d.kind ∈ [FaultKind.loadSilent, .overload, .loadLoss] := by
  unfold linkDetections at hd
  simp only [List.mem_append] at hd
  obtain (hd | hd) | hd := hd <;> split_ifs at hd <;> simp_all

theorem follows_watchedWork (h : (o.jack k).record.state = .engaged) : Follows (HandedKind o k) k o (watchedWork o) := by
  have hmon (d : Detection) (hd : d ∈ Sta.all.flatMap (monitorDetections o)) (hs : d.subject = .station k) : HandedKind o k d.kind := by
    obtain ⟨i, -, hd⟩ := List.mem_flatMap.mp hd
    obtain rfl : i = k := Subject.station.inj ((monitorDetections_kind hd).1.symm.trans hs)
    exact ⟨d, List.mem_append_left _ hd, rfl, hs⟩
  have hlink (d : Detection) (hd : d ∈ Sta.all.flatMap (linkDetections o)) (hs : d.subject = .station k) : HandedKind o k d.kind := by
    obtain ⟨i, -, hd⟩ := List.mem_flatMap.mp hd
    obtain rfl : i = k := Subject.station.inj ((linkDetections_kind hd).1.symm.trans hs)
    exact ⟨d, List.mem_append_right _ hd, rfl, hs⟩
  have h0 : Follows (HandedKind o k) k o (handOver (forStations (slipEvent o) (monitored o))) :=
    ⟨.slipped o, .inl (by rw [slipped_record]; exact ⟨h, rfl⟩)⟩
  rw [watchedWork, linkWork_eq, monitorWork_eq]
  exact ((h0.takeDetections hmon).same (.linked o _) (linked_record o _ k)).takeDetections hlink

end Sys2Proof.Machine

/-! PROOF. What a cycle start's checks find stops the group (O9). -/

namespace Sys2Proof.Machine

-- One theorem after another, as in the tests: a thread each for this many proofs would pass the memory limit.
set_option Elab.async false

variable {s t u w o y z : State} {k i : Sta} {f : FaultKind} {x : Subject} {e : Event} {c : Byte} {n : Nat} {strict early : Prop}
  {P : FaultKind → Prop}

/-! ### An ENGAGED station up to the trips (R135) -/

theorem Follows.checkTwist (h : Follows P k o y) (n : Nat) : Follows P k o (checkTwist n y) := by
  unfold Machine.checkTwist
  split
  · exact h
  · have hupd (f : Car → Car) : Follows P k o (y.updCar n f) := h.same (.of_rest rfl rfl rfl rfl rfl) rfl
    have hraise (f : Car → Car) (e : Event) : Follows P k o (raise e (y.updCar n f)) := (hupd f).same (.raise e _) rfl
    simp only
    split_ifs
    · exact (hraise _ _).detection (fun h => by cases h)
    · exact (hupd _).detection (fun h => by cases h)
    · exact hraise _ _
    · exact hupd _

theorem Follows.checkCoupling (h : Follows P k o y) (n : Nat) : Follows P k o (checkCoupling n y) := by
  unfold Machine.checkCoupling
  split
  · have hupd (f : Car → Car) : Follows P k o (y.updCar n f) := h.same (.of_rest rfl rfl rfl rfl rfl) rfl
    simp only
    split_ifs
    · exact (hupd _).detection (fun h => by cases h)
    · exact hupd _
  · exact h

theorem Follows.checkCars (h : Follows P k o y) (n : Nat) : Follows P k o (checkCars n y) := by
  induction n with
  | zero => exact h
  | succ n ih =>
    rw [checkCars_succ]
    exact (ih.checkTwist n).checkCoupling n

theorem follows_blockWork (hi : Idles o) (h : (o.jack k).record.state = .engaged) : Follows (HandedKind o k) k o (blockWork o) := by
  have hseq : Follows (HandedKind o k) k o (sequenced o) := by
    rw [sequenced_of_idles hi]
    exact (follows_watchedWork h).same (.handOver _) (by rw [handOver_jack])
  have hm : Follows (HandedKind o k) k o (measured o) := by
    obtain ⟨-, e⟩ | ⟨-, e⟩ := measured_cases o <;> rw [e]
    · exact hseq.checkCars _
    · exact hseq.same (.of_rest rfl rfl rfl rfl rfl) rfl
  rw [blockWork_eq]
  obtain ⟨b, hb, -⟩ := imbalanceWork_jack (measured o) k
  exact (hm.same (.imbalanceWork _) (by rw [hb])).same (.handOver _) (by rw [handOver_jack])

/-- Past the checks, the group is as alert as it was, unless it has landed. -/
theorem alert_of_passes (h : Passes o z) (hl : o.group.state ≠ .landing) : Alert o z := fun hs => by
  obtain ⟨h1, h2, -⟩ | ⟨-, h2, ⟨f, x, h3, -⟩, -⟩ | ⟨-, h2, -⟩ | ⟨-, ⟨-, h2⟩ | ⟨h2, -⟩ | ⟨-, h2⟩⟩ := h
  · exact .inl ((faultStops_congr h1 h2).trans hs)
  · exact .inr (.inr ⟨h2, f, x, h3⟩)
  · exact .inr (.inl h2)
  · exact .inl ((faultStops_iff z).mpr (.inl (by simp [h2])))
  · exact absurd h2 hl
  · exact .inl ((faultStops_iff z).mpr (.inl (by simp [h2])))

/-- A station beyond the trip band is FAULTED by SYNC_TRIP, or an earlier check has named it. -/
theorem follows_tripped (hi : Idles o) (h : (o.jack k).record.state = .engaged) :
    Follows (fun f => f = .syncTrip ∨ HandedKind o k f) k o (tripped (blockWork o)) := by
  have hb : Follows (fun f => f = .syncTrip ∨ HandedKind o k f) k o (formErrors (blockWork o)) :=
    ((follows_blockWork hi h).mono fun f hf => .inr hf).same (.formErrors _) (by rw [formErrors_jack])
  refine hb.takeDetections fun d hd _ => ?_
  obtain ⟨-, -, -, rfl⟩ := mem_tripDetections.mp hd
  exact .inl rfl

/-- The trip of an ENGAGED station is taken. -/
theorem taken_trip (hl : o.group.state ≠ .landing) (ht : tripChecked (blockWork o).group.state = true)
    (hk : trips (formErrors (blockWork o)).group.params ((formErrors (blockWork o)).jack k) = true) :
    Taken .syncTrip (.station k) o (tripped (blockWork o)) := by
  have hw : Works True True o (blockWork o) := .blockWork o
  have ha : Alert o (formErrors (blockWork o)) := (alert_of_passes (hw.passes trivial) hl).same (formErrors_group _)
  exact taken_takeDetections (d := { kind := .syncTrip, subject := .station k }) (hw.trans (.formErrors _)) ha
    (mem_tripDetections.mpr ⟨by rw [formErrors_group]; exact ht, k, hk, rfl⟩)

/-- The states in which the trip check is made stay such past the checks, unless the group is locked out. -/
theorem tripChecked_of_passes (h : Passes o z) (ht : tripChecked o.group.state = true) (hz : z.group.state ≠ .lockedOut) :
    tripChecked z.group.state = true := by
  obtain ⟨h1, -⟩ | ⟨-, h2, -⟩ | ⟨-, h2, -⟩ | ⟨-, ⟨-, h2⟩ | ⟨h2, -⟩ | ⟨-, h2⟩⟩ := h
  · rw [h1]
    exact ht
  · rw [h2]
    rfl
  · exact absurd h2 hz
  · rw [h2]
    rfl
  · rw [h2] at ht
    cases ht
  · rw [h2]
    rfl

theorem tripChecked_iff (g : GroupState) : tripChecked g = true ↔ g ∈ [GroupState.poised, .moving, .holding, .stopping] := by
  cases g <;> simp [tripChecked]

/-- The reference lift stands past the checks where the sequencer has no work. -/
theorem blockWork_ref (hi : Idles o) : (blockWork o).sync.ref = o.sync.ref := by
  have hdet (f : FaultKind) (x : Subject) (t : State) : (takeDetection f x t).sync.ref = t.sync.ref := by
    obtain h | h := takeDetection_sync f x t <;> rw [h]
  have hdets (l : List Detection) (t : State) : (takeDetections l t).sync.ref = t.sync.ref :=
    takeDetections_keeps (P := fun u => u.sync.ref = t.sync.ref) (fun f x u hu => (hdet f x u).trans hu) rfl l
  have htwist (n : Nat) (t : State) : (checkTwist n t).sync.ref = t.sync.ref := by
    unfold checkTwist
    split
    · rfl
    · simp only
      split_ifs
      · exact hdet _ _ _
      · exact hdet _ _ _
      · rfl
      · rfl
  have hcoupling (n : Nat) (t : State) : (checkCoupling n t).sync.ref = t.sync.ref := by
    unfold checkCoupling
    split
    · simp only
      split_ifs
      · exact hdet _ _ _
      · rfl
    · rfl
  have hcars (n : Nat) (t : State) : (checkCars n t).sync.ref = t.sync.ref := by
    induction n with
    | zero => rfl
    | succ n ih => rw [checkCars_succ, hcoupling, htwist, ih]
  have hwatched : (watchedWork o).sync.ref = o.sync.ref := by
    rw [watchedWork, linkWork_eq, hdets]
    show (monitorWork o (clearRates o)).sync.ref = _
    rw [monitorWork_eq, hdets, handOver_sync, forStations_slipEvent_sync]
    rfl
  have hm : (measured o).sync.ref = (sequenced o).sync.ref := by
    obtain ⟨-, e⟩ | ⟨-, e⟩ := measured_cases o <;> rw [e]
    · exact hcars _ _
    · rfl
  rw [blockWork_eq, handOver_sync, imbalanceWork_sync, hm, sequenced_of_idles hi, handOver_sync, hwatched]

/-- The error of a station that stands ENGAGED with its contact height past the checks. -/
theorem errorOf_blockWork (hi : Idles (begun s)) (hc : ((blockWork (begun s)).jack k).record.contact = (s.jack k).record.contact) :
    ((formErrors (blockWork (begun s))).jack k).err = errorAt s k := by
  have hw : Works False False (begun s) (blockWork (begun s)) := .blockWork _
  have hb := begun_openedWith s k
  have href : (blockWork (begun s)).sync.ref = s.sync.ref := (blockWork_ref hi).trans (begun_ref s).1
  have hu := hw.jacks k
  rw [hb] at hu
  generalize blockWork (begun s) = z at *
  have hheight : (z.jack k).latchedHeight = (s.jack k).liveHeight := by
    unfold Jack.latchedHeight
    rw [hu.pos, hu.settings]
    rfl
  have hoffset : (z.jack k).record.settings.offset = (s.jack k).offsetAtStart := by
    rw [hu.settings]
    rfl
  rw [formErrors_jack]
  show errorOf z.sync.ref (z.jack k) = _
  unfold errorOf errorAt Jack.liveLift
  rw [hc, hheight, hoffset, href]
  cases (s.jack k).record.contact <;> rfl

end Sys2Proof.Machine

/-! PROOF. What a cycle start's checks find, kind by kind (O9). -/

namespace Sys2Proof.Machine

-- One theorem after another, as in the tests: a thread each for this many proofs would pass the memory limit.
set_option Elab.async false

variable {s t u w o y z : State} {k i : Sta} {f : FaultKind} {x : Subject} {e : Event} {c : Byte} {n : Nat} {d b : Car}

/-! ### The kinds (R60, R64, R70, R83, R85, R86) -/

/-- The detection of `f` is handed for station `k` at the cycle start. -/
def HandedAt (s : State) (f : FaultKind) (k : Sta) : Prop := { kind := f, subject := .station k } ∈ handedFor (begun s) k

theorem handed_travelLimit (ha : (s.jack k).assigned = true) (hd : (s.jack k).record.datumKnown = true)
    (h : (s.jack k).liveHeight < 0 ∨ ((s.jack k).record.settings.hMax : Int) < (s.jack k).liveHeight) : HandedAt s .travelLimit k := by
  refine List.mem_append_left _ (List.mem_append_left _ (List.mem_append_left _ ?_))
  rw [begun_openedWith, if_pos]
  · exact List.mem_singleton_self _
  · show ((s.jack k).assigned && ((s.jack k).record.datumKnown && (decide ((s.jack k).liveHeight < 0) ||
      decide (((s.jack k).record.settings.hMax : Int) < (s.jack k).liveHeight)))) = true
    rw [ha, hd]
    simpa using h

theorem handed_driveSlip {g : SlipGate} (ha : (s.jack k).assigned = true) (ho : (s.jack k).mon.gateOpen = false)
    (hg : (s.jack k).mon.gate = some g) (hl : g.left ≤ 1)
    (hs : slipAllowance s.group.params (s.jack k) < (slipDisagreement (s.jack k) g).natAbs)
    (hn : s.group.params.slipLimit ≤ min 15 ((s.jack k).mon.slipRun + 1)) : HandedAt s .driveSlip k := by
  refine List.mem_append_left _ (List.mem_append_left _ (List.mem_append_right _ ?_))
  rw [begun_openedWith, begun_group]
  generalize (if s.group.state = .lockedOut then ((s.jack k).watchedMonitor s.group.params).runaway else (s.jack k).mon.runaway) = n
  generalize (if s.group.state = .lockedOut then ((s.jack k).watchedMonitor s.group.params).rest else (s.jack k).mon.rest) = q
  have hclose : closingGate ((s.jack k).openedWith n q) = some g := by
    have hgate : ((s.jack k).openedWith n q).mon.gate = some g := hg
    have hopen : ((s.jack k).openedWith n q).mon.gateOpen = false := ho
    unfold closingGate
    rw [hgate, hopen]
    simp [hl]
  have hslip : slips s.group.params (s.jack k) g = true := (slips_iff ha g).mpr hs
  have hdrive : driveSlips s.group.params ((s.jack k).openedWith n q) g = true := by
    show (slips s.group.params (s.jack k) g && decide (s.group.params.slipLimit ≤ slipRunAfter s.group.params (s.jack k) g)) = true
    rw [hslip, slipRunAfter_of_slips hslip]
    simpa using hn
  rw [hclose]
  simp only [hdrive, if_true]
  exact List.mem_singleton_self _

theorem handed_runaway (hs : s.group.state ≠ .lockedOut) (ha : (s.jack k).assigned = true) (hr : (s.jack k).gen.run = .idle)
    (hd : (s.jack k).driftsBeyond s.group.params = true)
    (hn : s.group.params.runawayConfirm ≤ min 15 ((s.jack k).mon.runaway + 1)) : HandedAt s .runaway k := by
  refine List.mem_append_left _ (List.mem_append_right _ ?_)
  rw [begun_openedWith, begun_group, if_neg hs, if_neg hs]
  have hrun : ((s.jack k).openedWith (s.jack k).mon.runaway (s.jack k).mon.rest).pos.latchedRunning = false := by
    show (s.jack k).gen.running = false
    unfold Generator.running
    simp [hr]
  obtain ⟨h1, h2, -⟩ := openedWith_watch s.group.params (s.jack k) (s.jack k).mon.runaway (s.jack k).mon.rest
  have hmon : ((s.jack k).openedWith (s.jack k).mon.runaway (s.jack k).mon.rest).mon.runaway = (s.jack k).mon.runaway := rfl
  have hout : runsAway s.group.state s.group.params ((s.jack k).openedWith (s.jack k).mon.runaway (s.jack k).mon.rest) = true := by
    unfold runsAway runawayAfter saturateNat
    rw [h1, h2, hrun, ha, hd, hmon]
    simpa [hs] using hn
  simp only
  rw [if_pos hout]
  exact List.mem_singleton_self _

/-- What the load link reads of a station is as the cycle start found it. -/
theorem begun_watch (s : State) (k : Sta) : silentNow (begun s).group.params ((begun s).jack k) = silentNow s.group.params (s.jack k) ∧
    overloadNow ((begun s).jack k) = overloadNow (s.jack k) ∧
    lossAfter (begun s).group.state ((begun s).jack k) = lossAfter s.group.state (s.jack k) := by
  rw [begun_openedWith, begun_group]
  exact ⟨rfl, rfl, rfl⟩

theorem handed_loadSilent (hw : (s.jack k).record.state ∈ [StationState.seeking, .confirming, .engaged, .trimming, .releasing])
    (hn : s.group.params.missLimit ≤ (s.jack k).link.miss) : HandedAt s .loadSilent k := by
  refine List.mem_append_right _ (List.mem_append_left _ (List.mem_append_left _ ?_))
  rw [(begun_watch s k).1, if_pos]
  · exact List.mem_singleton_self _
  · unfold silentNow
    rw [(watched_iff _).mpr hw]
    simpa using hn

theorem handed_overload (hw : (s.jack k).record.state ∈ [StationState.seeking, .confirming, .engaged, .trimming, .releasing])
    (hn : (s.jack k).record.settings.overload < (s.jack k).link.held) : HandedAt s .overload k := by
  refine List.mem_append_right _ (List.mem_append_left _ (List.mem_append_right _ ?_))
  rw [(begun_watch s k).2.1, if_pos]
  · exact List.mem_singleton_self _
  · unfold overloadNow
    rw [(watched_iff _).mpr hw]
    simpa using hn

theorem handed_loadLoss (hg : s.group.state = .moving ∨ s.group.state = .holding) (he : (s.jack k).record.state = .engaged)
    (hl : (s.jack k).link.held < (s.jack k).record.settings.loss)
    (hn : s.group.params.lossConfirm ≤ min 60 ((s.jack k).link.lossRun + 1)) : HandedAt s .loadLoss k := by
  refine List.mem_append_right _ (List.mem_append_right _ ?_)
  have hloss : lossAfter s.group.state (s.jack k) = min 60 ((s.jack k).link.lossRun + 1) := by
    unfold lossAfter saturateNat Jack.isIn
    rw [if_pos]
    simp only [Bool.and_eq_true, Bool.or_eq_true, beq_iff_eq, decide_eq_true_eq]
    exact ⟨⟨he, hg⟩, hl⟩
  rw [(begun_watch s k).2.2, hloss, begun_group, if_pos hn]
  exact List.mem_singleton_self _

/-! ### What becomes of them by the end of the cycle start -/

theorem taken_of_handed (h : HandedAt s f k) : Taken f (.station k) (begun s) (tripped (blockWork (begun s))) :=
  (taken_blockWork h).trans (.tripped _)

/-- The checks of the cars find what the heights latched show, where the sequencer has no work. -/
theorem measured_of_checks (h : ChecksGeometry s) : measured (begun s) = geometryChecks (sequenced (begun s)) := by
  obtain ⟨-, e⟩ | ⟨hn, -⟩ := measured_cases (begun s)
  · exact e
  · rw [(geometryRuns_begun s).mpr h] at hn
    cases hn

theorem idles_begun : Idles (begun s) ↔ s.group.state ≠ .engaging ∧ (s.group.state = .landing → s.sync.descent = true) := by
  unfold Idles
  rw [begun_group, (begun_ref s).2]

theorem taken_twist (hsafe : StationsSafe s) (hi : Idles (begun s)) (h : ChecksGeometry s) (hd : s.cars[n]? = some d) {v : Int}
    (htwist : ((d.fl.bind fun k => (s.jack k).liveLift).bind fun fl => (d.fr.bind fun k => (s.jack k).liveLift).bind fun fr =>
      (d.rl.bind fun k => (s.jack k).liveLift).bind fun rl => (d.rr.bind fun k => (s.jack k).liveLift).map fun rr =>
        (fl + rr) - (fr + rl)) = some v)
    (hv : d.twistLimit < v.natAbs) : Taken .twist (.car (n + 1)) (begun s) (tripped (blockWork (begun s))) := by
  refine Taken.trans (y := measured (begun s)) ?_ (.trans (.afterMeasured _) (.tripped _))
  rw [measured_of_checks h]
  refine taken_checkTwist (d := d) (.sequenced _) (alert_sequenced hi) (by rw [(sequenced_begun s).1]; exact hd) ?_
  rw [beyond_eq, twistOf_eq]
  unfold cornerLift
  simp only [sequenced_lift_of_idles hsafe hi, htwist]
  exact decide_eq_true hv

theorem taken_coupling (hsafe : StationsSafe s) (hi : Idles (begun s)) (h : ChecksGeometry s) (hd : s.cars[n]? = some d)
    (hco : d.coupled = true) (hb : s.cars[n + 1]? = some b) {r g : Int}
    (hr : meanOf [d.rl.bind fun k => (s.jack k).liveLift, d.rr.bind fun k => (s.jack k).liveLift] = some r)
    (hg : meanOf [b.fl.bind fun k => (s.jack k).liveLift, b.fr.bind fun k => (s.jack k).liveLift] = some g)
    (hv : d.couplingLimit < (r - g).natAbs) : Taken .coupling (.coupling (n + 1)) (begun s) (tripped (blockWork (begun s))) := by
  refine Taken.trans (y := measured (begun s)) ?_ (.trans (.afterMeasured _) (.tripped _))
  rw [measured_of_checks h]
  refine taken_checkCoupling (d := d) (b := b) (.sequenced _) (alert_sequenced hi) (by rw [(sequenced_begun s).1]; exact hd) hco
    (by rw [(sequenced_begun s).1]; exact hb) ?_
  rw [beyond_eq, stepBetween_eq]
  unfold rearLift frontLift cornerLift
  simp only [sequenced_lift_of_idles hsafe hi, hr, hg, Option.bind_some, Option.map_some]
  exact decide_eq_true hv

/-- A station ENGAGED at the start of a computation that checks the trip band, and beyond it: SYNC_TRIP or an earlier check has faulted it. -/
theorem trip_ends (hslot : s.group.slot = none) (ht : tripChecked s.group.state = true) (he : (s.jack k).record.state = .engaged)
    (herr : 100 * s.group.params.tripBand < (errorAt s k).natAbs) :
    (ActsOnGroup s (cycleWork s)) ∧ ((cycleWork s).group.state ≠ .lockedOut → ∃ f, (f = .syncTrip ∨ HandedAt s f k) ∧
      ((cycleWork s).jack k).record.state = .faulted ∧ ((cycleWork s).jack k).record.faultKind = some f ∧
      ListedFor f (.station k) s (cycleWork s)) := by
  have hbs : (begun s).group.state = s.group.state := by rw [begun_group]
  have hi : Idles (begun s) := idles_begun.mpr
    ⟨fun h => (by rw [h] at ht; cases ht), fun h => (by rw [h] at ht; cases ht)⟩
  have hl : (begun s).group.state ≠ .landing := fun h => by rw [← hbs, h] at ht; cases ht
  have hlock : s.group.state ≠ .lockedOut := fun h => by rw [h] at ht; cases ht
  have hbe : ((begun s).jack k).record.state = .engaged := by rw [begun_record]; exact he
  have hassigned : (s.jack k).assigned = true := by
    unfold Jack.assigned
    rw [he]
    rfl
  have hw : Works True True (begun s) (blockWork (begun s)) := .blockWork _
  have hpass : Passes (begun s) (blockWork (begun s)) := hw.passes trivial
  have hpassc : Passes (blockWork (begun s)) (computeCycle (blockWork (begun s))) :=
    (Works.computeCycle _ : Works True False _ _).passes trivial
  by_cases hz : (blockWork (begun s)).group.state = .lockedOut
  · have hend : LockedAt s (cycleWork s) := lockedAt_of_computed hslot hlock (hpassc.from_lockedOut hz)
    exact ⟨⟨fun _ => .inl hend, fun _ => .inl hend⟩, fun h => absurd hend.1 h⟩
  · have hzt : tripChecked (blockWork (begun s)).group.state = true := tripChecked_of_passes hpass (by rw [hbs]; exact ht) hz
    have hparams : (formErrors (blockWork (begun s))).group.params = s.group.params := by
      rw [formErrors_group, hw.params, begun_group]
    obtain ⟨-, hfollow⟩ := follows_tripped hi hbe
    have htaken : Taken .syncTrip (.station k) (begun s) (tripped (blockWork (begun s))) ∨
        ∃ f, HandedAt s f k ∧ Taken f (.station k) (begun s) (tripped (blockWork (begun s))) := by
      obtain ⟨-, ⟨hbe', hcont⟩ | ⟨-, f, ⟨d, hd, rfl, hs⟩, -⟩⟩ := follows_blockWork hi hbe
      · rw [begun_record] at hcont
        refine .inl (taken_trip hl hzt ?_)
        unfold trips Jack.isIn
        rw [hparams, errorOf_blockWork hi hcont, Bool.and_eq_true, formErrors_jack]
        exact ⟨by simpa using hbe', by simpa using herr⟩
      · have hh : HandedAt s d.kind k := by
          unfold HandedAt
          rw [← hs]
          exact hd
        exact .inr ⟨d.kind, hh, taken_of_handed hh⟩
    have hacts : ActsOnGroup s (cycleWork s) := htaken.elim (fun h => (h.ends hslot).1) fun ⟨_, _, h⟩ => (h.ends hslot).1
    have hyf : ((tripped (blockWork (begun s))).jack k).record.state = .faulted :=
      htaken.elim (fun h => h.struck k rfl (by rw [begun_assigned]; exact hassigned))
        fun ⟨_, _, h⟩ => h.struck k rfl (by rw [begun_assigned]; exact hassigned)
    refine ⟨hacts, fun _ => ?_⟩
    obtain ⟨h, -⟩ | ⟨-, f, hf, hk, hfd⟩ := hfollow
    · rw [hyf] at h
      cases h
    · have hc : Works True False (tripped (blockWork (begun s))) (computeCycle (blockWork (begun s))) := .computed _
      obtain ⟨h1, h2, -⟩ := (hc.carries trivial).faulted k hyf
      obtain ⟨b, hb⟩ := cycleWork_jack hslot k
      have hkind : f = .syncTrip ∨ HandedAt s f k := hf.imp id fun ⟨d, hd, hdf, hs⟩ => by
        unfold HandedAt
        rw [← hdf, ← hs]
        exact hd
      refine ⟨f, hkind, ?_, ?_, hfd.listedFor hslot⟩
      · generalize computeCycle (blockWork (begun s)) = v at hb h1
        rw [hb]
        exact h1
      · generalize computeCycle (blockWork (begun s)) = v at hb h2
        rw [hb]
        exact h2.trans hk

end Sys2Proof.Machine

/-! PROOF. What a cycle start's checks find stops the group (O9): the statement. -/

namespace Sys2Proof.Machine

-- One theorem after another, as in the tests: a thread each for this many proofs would pass the memory limit.
set_option Elab.async false

variable {s : State}

/-- Settles O9, kind by kind: each detection is handed and taken, and what is taken stands to the end of the cycle start. -/
theorem detectionsStopTheGroup : Obligations.DetectionsStopTheGroup := by
  intro s hr hslot hsafe
  refine ⟨cycleWork s, exec_cycleStart hr, ?_⟩
  intro halts tested checked rested cycle locked stopped stands acted isListed found watchedIn lift endLift
  have hacted (h : ActsOnGroup s (cycleWork s)) : acted :=
    ⟨fun hh => h.1 ((faultStops_iff s).mpr hh), fun hh => h.2 (by
      rw [← Bool.not_eq_true]
      exact mt (faultStops_iff s).mp hh)⟩
  have hlisted {f : FaultKind} {x : Subject} (h : ListedFor f x s (cycleWork s)) : isListed f x := ⟨h.listed, h.reported⟩
  have hfound {f : FaultKind} {k : Sta} (ha : (s.jack k).assigned = true) (h : HandedAt s f k) : found f k := by
    obtain ⟨h1, h2, h3, -⟩ := (taken_of_handed h).ends hslot
    exact ⟨hacted h1, hlisted h2, h3 k rfl ha⟩
  have hwatched {k : Sta} (h : (s.jack k).record.state ∈ watchedIn) : (s.jack k).assigned = true := by
    unfold Jack.assigned
    generalize (s.jack k).record.state = st at h
    cases st <;> simp_all [watchedIn]
  have hidles (h : checked) : Idles (begun s) := idles_begun.mpr h.2
  refine ⟨fun k ha hd h => hfound ha (handed_travelLimit ha hd h), fun k g ha ho hg hl hs hn => hfound ha (handed_driveSlip ha ho hg hl hs hn),
    fun k hw hn => hfound (hwatched hw) (handed_loadSilent hw hn), fun k hw hn => hfound (hwatched hw) (handed_overload hw hn),
    fun k hg he hl hn => hfound (hwatched (by simp [watchedIn, he])) (handed_loadLoss hg he hl hn),
    fun i c fl fr rl rr hck hc hfl hfr hrl hrr hv => ?_, fun i c d rear front hck hc hco hd hrear hfront hv => ?_,
    fun k y ht he hy => ?_, fun k hs ha hrun hdrift hn => ?_⟩
  · have h := taken_twist hsafe (hidles hck) hck.1 hc (v := (fl + rr) - (fr + rl)) (by
      have hfl : (c.fl.bind fun k => (s.jack k).liveLift) = some fl := hfl
      have hfr : (c.fr.bind fun k => (s.jack k).liveLift) = some fr := hfr
      have hrl : (c.rl.bind fun k => (s.jack k).liveLift) = some rl := hrl
      have hrr : (c.rr.bind fun k => (s.jack k).liveLift) = some rr := hrr
      simp only [hfl, hfr, hrl, hrr, Option.bind_some, Option.map_some]) hv
    obtain ⟨h1, h2, -⟩ := h.ends hslot
    exact ⟨hacted h1, hlisted h2⟩
  · obtain ⟨h1, h2, -⟩ := (taken_coupling hsafe (hidles hck) hck.1 hc hco hd hrear hfront hv).ends hslot
    exact ⟨hacted h1, hlisted h2⟩
  · intro offset hv
    have herr : errorAt s k = s.sync.ref + 100 * (offset - y) := by
      unfold errorAt
      rw [show (s.jack k).liveLift = some y from hy]
      rfl
    obtain ⟨h1, h2⟩ := trip_ends hslot ((tripChecked_iff _).mpr ht) he (by rw [herr]; exact hv)
    refine ⟨hacted h1, fun hl => ?_⟩
    obtain ⟨f, hf, hfs, hfk, hli⟩ := h2 hl
    refine ⟨f, hfs, hfk, hlisted hli, ?_, fun htrack hload => hf.resolve_right fun hh => ?_⟩
    · have hs : s.group.state ≠ .lockedOut := fun e => by
        have : s.group.state ∈ [GroupState.poised, .moving, .holding, .stopping] := ht
        rw [e] at this
        simp at this
      obtain rfl | hh := hf
      · simp
      · obtain ⟨-, -, -, h4⟩ := (taken_of_handed hh).ends hslot
        have hrun : f ≠ .runaway := fun e => hl (h4 e ⟨k, rfl⟩ hs).1
        obtain hm | hm := List.mem_append.mp hh
        · have := (monitorDetections_kind hm).2
          simp only [List.mem_cons, List.not_mem_nil, or_false] at this
          obtain h | h | h := this
          · simp [h]
          · simp [h]
          · exact absurd h hrun
        · have := (linkDetections_kind hm).2
          simp only [List.mem_cons, List.not_mem_nil, or_false] at this
          obtain h | h | h := this <;> simp [h]
    · have hs : s.group.state ≠ .lockedOut := fun e => by
        have : s.group.state ∈ [GroupState.poised, .moving, .holding, .stopping] := ht
        rw [e] at this
        simp at this
      unfold HandedAt handedFor at hh
      rw [monitorDetections_begun hs htrack, linkDetections_begun hs hload] at hh
      simp at hh
  · have hh : HandedAt s .runaway k := handed_runaway hs ha hrun (decide_eq_true hdrift) hn
    obtain ⟨-, h2, h3, h4⟩ := (taken_of_handed hh).ends hslot
    have hl : LockedAt s (cycleWork s) := h4 rfl ⟨k, rfl⟩ hs
    obtain ⟨hv, hgen⟩ := (watches_cycleWork s).halted hl.1 fun e => by
      rw [openCycle_of_none hslot, monitored_group, begun_group] at e
      exact absurd e hs
    exact ⟨hl, hlisted h2, h3 k rfl ha, hv, hgen⟩

end Sys2Proof.Machine

/-! PROOF. What the work of a cycle start makes of a station's record but for the sequencer's own judgement (O10, O18). -/

namespace Sys2Proof.Machine

-- One theorem after another, as in the tests: a thread each for this many proofs would pass the memory limit.
set_option Elab.async false

variable {s t u w o y z b : State} {k i : Sta} {f : FaultKind} {x : Subject} {e : Event} {c : Byte} {n : Nat}

/-! ### Records moved by detections alone -/

/-- A property of records that every detection keeps: the stop, the end of a counted move, and the entry to FAULTED. -/
def StationRec.Stable (P : StationRec → Prop) : Prop := ∀ r : StationRec, P r → P r.moveByStop ∧ P r.cut ∧
  (∀ m, P { r with move := m }) ∧ (r.state ≠ .faulted → ∀ f m, P (({ r with move := m } : StationRec).toFaulted f))

/-- A property of records that a detection of kind `f` keeps. -/
def StationRec.StableFor (f : FaultKind) (P : StationRec → Prop) : Prop := ∀ r : StationRec, P r → P r.moveByStop ∧ P r.cut ∧
  (∀ m, P { r with move := m }) ∧ (r.state ≠ .faulted → ∀ m, P (({ r with move := m } : StationRec).toFaulted f))

theorem StationRec.Stable.for {P : StationRec → Prop} (h : Stable P) (f : FaultKind) : StableFor f P := fun r hr =>
  ⟨(h r hr).1, (h r hr).2.1, (h r hr).2.2.1, fun hn => (h r hr).2.2.2 hn f⟩

/-- The record of station `k` in `t` is that of `s` moved by detections alone. -/
def Drifts (k : Sta) (s t : State) : Prop := ∀ P : StationRec → Prop, StationRec.Stable P → P (s.jack k).record → P (t.jack k).record

theorem Drifts.trans (h : Drifts k s t) (g : Drifts k t u) : Drifts k s u := fun P hP hs => g P hP (h P hP hs)

theorem Drifts.of_record (h : (t.jack k).record = (s.jack k).record) : Drifts k s t := fun P _ hs => by
  rw [h]
  exact hs

theorem Drifts.refl (s : State) : Drifts k s s := .of_record rfl

/-- A detection keeps what is stable for its kind of any record. -/
theorem record_takeDetection {P : StationRec → Prop} (hP : StationRec.StableFor f P) (hs : P (s.jack k).record) :
    P ((takeDetection f x s).jack k).record := by
  obtain ⟨-, -, hmove, hfault⟩ := hP _ hs
  have hstopped : P (s.jack k).moveStopped.record := by
    obtain ⟨m, hm⟩ := (s.jack k).moveStopped_record
    rw [hm]
    exact hmove m
  have hstr : P ((s.jack k).struck f x k).record := by
    unfold Jack.struck
    split
    · split_ifs
      · unfold Jack.faultedBy
        split_ifs with hu hf
        · exact hs
        · exact hs
        · exact hstopped
        · obtain ⟨m, hm⟩ := (s.jack k).moveStopped_record
          simp only [hm]
          exact hfault hf m
      · exact hs
    · obtain ⟨m, hm⟩ := (s.jack k).trimEnded_record
      rw [hm]
      exact hmove m
    · obtain ⟨m, hm⟩ := (s.jack k).trimEnded_record
      rw [hm]
      exact hmove m
    · exact hs
  obtain ⟨-, -, -, hj⟩ | ⟨-, -, -, hj⟩ | ⟨-, -, -, -, -, hj⟩ := takeDetection_cases f x s <;> rw [hj]
  · exact hstr
  · exact (hP _ hstr).1
  · exact (hP _ (hP _ hstr).2.1).1

theorem Drifts.detection (f : FaultKind) (x : Subject) (s : State) : Drifts k s (takeDetection f x s) := fun _ hP hs =>
  record_takeDetection (hP.for f) hs

theorem Drifts.takeDetections (l : List Detection) (s : State) : Drifts k s (takeDetections l s) :=
  takeDetections_keeps (P := fun t => Drifts k s t) (fun f x t ht => ht.trans (.detection f x t)) (.refl s) l

theorem Drifts.watchedWork (o : State) : Drifts k o (watchedWork o) := by
  rw [Machine.watchedWork, linkWork_eq, monitorWork_eq]
  exact (((Drifts.of_record (slipped_record o k)).trans (.takeDetections _ _)).trans
    (.of_record (linked_record o _ k))).trans (.takeDetections _ _)

theorem Drifts.checkTwist (n : Nat) (s : State) : Drifts k s (checkTwist n s) := by
  unfold Machine.checkTwist
  split
  · exact .refl s
  · have hupd (f : Car → Car) : Drifts k s (s.updCar n f) := .of_record rfl
    have hraise (f : Car → Car) (e : Event) : Drifts k s (raise e (s.updCar n f)) := .of_record rfl
    simp only
    split_ifs
    · exact (hraise _ _).trans (.detection _ _ _)
    · exact (hupd _).trans (.detection _ _ _)
    · exact hraise _ _
    · exact hupd _

theorem Drifts.checkCoupling (n : Nat) (s : State) : Drifts k s (checkCoupling n s) := by
  unfold Machine.checkCoupling
  split
  · have hupd (f : Car → Car) : Drifts k s (s.updCar n f) := .of_record rfl
    simp only
    split_ifs
    · exact (hupd _).trans (.detection _ _ _)
    · exact hupd _
  · exact .refl s

theorem Drifts.checkCars (n : Nat) (s : State) : Drifts k s (checkCars n s) := by
  induction n with
  | zero => exact .refl s
  | succ n ih =>
    rw [checkCars_succ]
    exact (ih.trans (.checkTwist n _)).trans (.checkCoupling n _)

/-- Past the sequencer, the blocks' work moves records by detections alone. -/
theorem Drifts.afterSequenced (o : State) : Drifts k (sequenced o) (blockWork o) := by
  have hm : Drifts k (sequenced o) (measured o) := by
    obtain ⟨-, e⟩ | ⟨-, e⟩ := measured_cases o <;> rw [e]
    · exact .checkCars _ _
    · exact .of_record rfl
  obtain ⟨v, hv, -⟩ := imbalanceWork_jack (measured o) k
  rw [blockWork_eq]
  exact hm.trans ((Drifts.of_record (by rw [hv])).trans (.of_record (by rw [handOver_jack])))

theorem Drifts.handStops (s : State) : Drifts k s (handStops s) := .of_record (by rw [handStops_jack, Jack.forcedToStop_record])

theorem Drifts.handRates (v : Nat) (s : State) : Drifts k s (handRates v s) := .of_record (by
  rw [handRates_jack]
  split_ifs
  · exact Jack.handed_record _ _ _
  · rfl)

theorem Drifts.waitCycle (s : State) : Drifts k s (waitCycle s) := by
  have h : Drifts k s (Machine.setWait (s.group.waitCount + 1) true (freezeReference s)) := .of_record rfl
  unfold Machine.waitCycle
  simp only
  split_ifs
  · exact h.trans (.detection _ _ _)
  · exact h

theorem Drifts.formErrors (s : State) : Drifts k s (formErrors s) := .of_record (by rw [formErrors_jack])

theorem Drifts.tripped (z : State) : Drifts k z (tripped z) := (Drifts.formErrors z).trans (.takeDetections _ _)

theorem Drifts.handOver (s : State) : Drifts k s (handOver s) := .of_record (by rw [handOver_jack])

theorem Drifts.finishComputation (a w : Bool) (s : State) : Drifts k s (finishComputation a w s) := by
  unfold Machine.finishComputation
  split_ifs
  · exact .trans (t := forceReference s) (.of_record rfl) (.handStops _)
  · exact .handRates 0 s
  · have hj : (referenceStage s).state.jack k = s.jack k := congrArg (fun p => p.get k) (referenceStage_jacks _)
    exact .trans (t := (referenceStage s).state) (.of_record (by rw [hj])) (.handRates _ _)

/-- The computation moves records by detections alone. -/
theorem Drifts.afterTrips (z : State) : Drifts k (Machine.tripped z) (Machine.computation z) := by
  have hset (y : State) : Drifts k y (Machine.setWait 0 false y) := .of_record rfl
  obtain ⟨-, e⟩ | ⟨-, ht, -, e⟩ | ⟨-, ht, -, e⟩ := computation_cases z <;> rw [e]
  · exact .trans (t := forceReference (Machine.setWait 0 false (Machine.tripped z))) (.of_record rfl)
      ((Drifts.handStops _).trans (.handOver _))
  · rw [tripped_of_none ht]
    exact ((Drifts.waitCycle _).trans (.finishComputation _ _ _)).trans (.handOver _)
  · rw [tripped_of_none ht]
    exact ((hset _).trans (.finishComputation _ _ _)).trans (.handOver _)

/-- From the trips to the end of the cycle start, where the release phase does not begin. -/
theorem Drifts.computed (hl : z.group.state ≠ .landing ∨ z.sync.descent = false) : Drifts k (Machine.tripped z) (computeCycle z) := by
  have h : computeCycle z = Machine.computation z := by
    unfold computeCycle
    refine if_neg fun h => ?_
    obtain ⟨h1, h2, -⟩ := h
    obtain hl | hl := hl
    · exact hl h1
    · rw [h2] at hl
      cases hl
  rw [h]
  exact .afterTrips z

/-- From the sequencer's work to the end of the cycle start. -/
theorem drifts_cycleWork (hslot : s.group.slot = none)
    (hl : (blockWork (begun s)).group.state ≠ .landing ∨ (blockWork (begun s)).sync.descent = false) :
    Drifts k (sequenced (begun s)) (cycleWork s) := by
  refine (Drifts.afterSequenced (begun s)).trans ((Drifts.tripped _).trans ((Drifts.computed hl).trans (.of_record ?_)))
  obtain ⟨v, hv⟩ := cycleWork_jack hslot k
  generalize computeCycle (blockWork (begun s)) = w at hv
  rw [hv]

end Sys2Proof.Machine

/-! PROOF. The judgement of one station in ENGAGING (R143 to R146), and the order of the judgements (O10). -/

namespace Sys2Proof.Machine

-- One theorem after another, as in the tests: a thread each for this many proofs would pass the memory limit.
set_option Elab.async false

variable {s t u w o y z b : State} {k i : Sta} {f : FaultKind} {x : Subject} {e : Event} {c : Byte} {n : Nat} {p : GroupParams} {j q : Jack}

/-! ### Stations in ascending order (R141) -/

/-- The stations below `k`, in ascending order. -/
def stationsBelow (k : Sta) : List Sta := Sta.all.filter (· < k)

/-- The stations above `k`, in ascending order. -/
def stationsAbove (k : Sta) : List Sta := Sta.all.filter (k < ·)

theorem Sta.all_split (k : Sta) : Sta.all = stationsBelow k ++ k :: stationsAbove k := by
  revert k
  decide

theorem mem_stationsBelow : i ∈ stationsBelow k ↔ i < k := by simp [stationsBelow]

theorem mem_stationsAbove : i ∈ stationsAbove k ↔ k < i := by simp [stationsAbove]

theorem nodup_stationsBelow (k : Sta) : (stationsBelow k).Nodup := (List.nodup_finRange 32).filter _

theorem nodup_stationsAbove (k : Sta) : (stationsAbove k).Nodup := (List.nodup_finRange 32).filter _

/-- Work carried out for the stations of a list, one after another. -/
def forList (l : List Sta) (f : Sta → State → State) (s : State) : State := l.foldl (fun t i => f i t) s

theorem forStations_split (f : Sta → State → State) (k : Sta) (s : State) :
    forStations f s = forList (stationsAbove k) f (f k (forList (stationsBelow k) f s)) := by
  unfold forStations forList
  conv_lhs => rw [Sta.all_split k]
  rw [List.foldl_append, List.foldl_cons]

theorem forList_keeps {P : State → Prop} {f : Sta → State → State} {l : List Sta} (h : ∀ i ∈ l, ∀ t, P t → P (f i t)) (hs : P s) :
    P (forList l f s) := by
  unfold forList
  induction l generalizing s with
  | nil => exact hs
  | cons i l ih => exact ih (fun m hm => h m (List.mem_cons_of_mem _ hm)) (h i List.mem_cons_self s hs)

/-- Work that changes the jack of its own station alone, carried out for the stations of a list. -/
theorem forList_jack {P : State → Prop} {f : Sta → State → State} {g : Sta → Jack → Jack} {l : List Sta} (hl : l.Nodup)
    (h : ∀ k ∈ l, ∀ t, P t → P (f k t) ∧ ∀ i, (f k t).jack i = if i = k then g k (t.jack i) else t.jack i) (hs : P s) (i : Sta) :
    (forList l f s).jack i = if i ∈ l then g i (s.jack i) else s.jack i := by
  induction l generalizing s with
  | nil => rfl
  | cons k l ih =>
    obtain ⟨hk, hl⟩ := List.nodup_cons.mp hl
    obtain ⟨hp, hj⟩ := h k List.mem_cons_self s hs
    have hr := ih hl (fun m hm => h m (List.mem_cons_of_mem _ hm)) hp
    have hstep : forList (k :: l) f s = forList l f (f k s) := rfl
    rw [hstep, hr, hj i]
    by_cases hik : i = k
    · subst hik
      simp [hk]
    · simp [hik]

/-! ### One judgement (R143 to R146) -/

/-- The detection that the judgement of a station found as `j` gives. -/
def engagingFault (p : GroupParams) (j : Jack) : Option FaultKind :=
  match j.record.state with
  | .seeking => if contactSample j = false ∧ riseBeyond p j = true then some .noContact else none
  | .confirming => if contactSample j = false ∧ dropoutSample j = true ∧ p.attemptLimit ≤ j.record.attempts + 1 then
      some .contactUnstable else none
  | _ => none

/-- The record that the judgement of a station found as `j` makes of the record of `q`. -/
def engagingRecord (p : GroupParams) (j q : Jack) : StationRec :=
  match j.record.state with
  | .seeking => if contactSample j then
      (if p.confirmTarget ≤ 1 then q.record.toEngaged q.latchedHeight else { q.record with state := .confirming, confirm := 1 })
    else q.record
  | .confirming => if contactSample j then
      (if p.confirmTarget ≤ q.record.confirm + 1 then q.record.toEngaged q.latchedHeight
        else { q.record with confirm := q.record.confirm + 1 })
    else if dropoutSample j then { q.record with state := .seeking, confirm := 0, attempts := q.record.attempts + 1 } else q.record
  | _ => q.record

/-- The rate that the judgement of a station found as `j` hands. -/
def engagingRate (p : GroupParams) (j : Jack) : Int :=
  if (j.record.state = .seeking ∧ contactSample j = false) ∨ (j.record.state = .confirming ∧ contactSample j = false ∧
    dropoutSample j = true) then (seekRate p j : Int) else 0

/-- A station as its judgement leaves it, where it gives no detection: judged where it still stands as found. -/
def engagingJack (held : Bool) (p : GroupParams) (j q : Jack) : Jack :=
  if j.record.state ∈ [StationState.seeking, .confirming, .engaged] ∧ q.record.state = j.record.state then
    ({ q with record := engagingRecord p j q } : Jack).handed held (engagingRate p j)
  else q

/-- What one judgement without a detection leaves alone. -/
structure JudgedAlone (k : Sta) (g : Jack → Jack) (s t : State) : Prop where
  jack : ∀ i, t.jack i = if i = k then g (s.jack i) else s.jack i
  group : t.group = s.group
  sync : t.sync = s.sync
  plan : t.plan = s.plan

theorem JudgedAlone.refl {g : Jack → Jack} (h : g (s.jack k) = s.jack k) : JudgedAlone k g s s := by
  refine ⟨fun i => ?_, rfl, rfl, rfl⟩
  split_ifs with hi
  · rw [hi, h]
  · rfl

theorem judgedAlone_handRate {g : Jack → Jack} {r : StationRec → StationRec} {v : Int}
    (h : g (s.jack k) = ({ s.jack k with record := r (s.jack k).record } : Jack).handed (generatorsHeld s) v) :
    JudgedAlone k g s (handRate k v (s.updRec k r)) := by
  refine ⟨fun i => ?_, rfl, rfl, rfl⟩
  rw [handRate_jack]
  by_cases hi : i = k
  · subst hi
    rw [if_pos rfl, if_pos rfl, updRec_jack_self, h]
    rfl
  · rw [if_neg hi, if_neg hi, updRec_jack_ne _ _ hi]

theorem judgedAlone_rate {g : Jack → Jack} {v : Int} (h : g (s.jack k) = (s.jack k).handed (generatorsHeld s) v) :
    JudgedAlone k g s (handRate k v s) := by
  refine ⟨fun i => ?_, rfl, rfl, rfl⟩
  rw [handRate_jack]
  split_ifs with hi
  · rw [hi, h]
  · rfl

theorem judgedAlone_raise {g : Jack → Jack} (h : JudgedAlone k g s t) (e : Event) : JudgedAlone k g s (raise e t) :=
  ⟨h.jack, h.group, h.sync, h.plan⟩

theorem judgedAlone_whileFound {g : Jack → Jack} {st : StationState} {f : State → State}
    (h : (s.jack k).record.state = st → JudgedAlone k g s (f s)) (hn : (s.jack k).record.state ≠ st → g (s.jack k) = s.jack k) :
    JudgedAlone k g s (whileFound k st f s) := by
  unfold whileFound
  split_ifs with hs
  · exact h (Jack.isIn_eq_true.mp hs)
  · exact .refl (hn (mt Jack.isIn_eq_true.mpr hs))

theorem judgeEngaging_fault (h : engagingFault b.group.params (b.jack k) = some f) (t : State) :
    judgeEngaging b k t = takeDetection f (.station k) t := by
  unfold engagingFault at h
  unfold judgeEngaging
  split at h
  · next hs =>
    split_ifs at h with hc
    obtain ⟨h1, h2⟩ := hc
    cases h
    rw [hs]
    unfold judgeSeeking
    simp only [h1, h2, Bool.false_eq_true, if_false, if_true]
    rfl
  · next hs =>
    split_ifs at h with hc
    obtain ⟨h1, h2, h3⟩ := hc
    cases h
    rw [hs]
    unfold judgeConfirming
    simp only [h1, h2, h3, Bool.false_eq_true, if_false, if_true]
    rfl
  · cases h

theorem engagingJack_of {held : Bool} (hs : j.record.state ∈ [StationState.seeking, .confirming, .engaged])
    (hq : q.record.state = j.record.state) :
    engagingJack held p j q = ({ q with record := engagingRecord p j q } : Jack).handed held (engagingRate p j) := if_pos ⟨hs, hq⟩

theorem engagingJack_of_moved {held : Bool} (hq : q.record.state ≠ j.record.state) : engagingJack held p j q = q :=
  if_neg fun h => hq h.2

/-- A station that makes contact on this sample. -/
theorem judgedAlone_engageStation (t : State) : JudgedAlone k (fun q => ({ q with record := q.record.toEngaged q.latchedHeight } : Jack).handed
    (generatorsHeld t) 0) t (engageStation k t) :=
  judgedAlone_raise (judgedAlone_handRate rfl) _

theorem JudgedAlone.congr {g h : Jack → Jack} (hj : JudgedAlone k g s t) (hg : h (s.jack k) = g (s.jack k)) : JudgedAlone k h s t := by
  refine ⟨fun i => ?_, hj.group, hj.sync, hj.plan⟩
  rw [hj.jack]
  split_ifs with hi
  · rw [hi, hg]
  · rfl

/-- The record after a first sample of contact (R143, R145). -/
def StationRec.firstContact (p : GroupParams) (height : Int) (r : StationRec) : StationRec :=
  if p.confirmTarget ≤ 1 then r.toEngaged height else { r with state := .confirming, confirm := 1 }

/-- The record after a further sample of contact (R144, R145). -/
def StationRec.furtherContact (p : GroupParams) (height : Int) (r : StationRec) : StationRec :=
  if p.confirmTarget ≤ r.confirm + 1 then r.toEngaged height else { r with confirm := r.confirm + 1 }

/-- The record after a dropout with attempts left (R146). -/
def StationRec.seeksAgain (r : StationRec) : StationRec := { r with state := .seeking, confirm := 0, attempts := r.attempts + 1 }

theorem judgedAlone_beginConfirm (t : State) : JudgedAlone k (fun q =>
    ({ q with record := q.record.firstContact t.group.params q.latchedHeight } : Jack).handed (generatorsHeld t) 0) t (beginConfirm k t) := by
  unfold beginConfirm StationRec.firstContact
  split_ifs
  · exact judgedAlone_engageStation t
  · exact judgedAlone_handRate rfl

theorem judgedAlone_countContact (t : State) : JudgedAlone k (fun q =>
    ({ q with record := q.record.furtherContact t.group.params q.latchedHeight } : Jack).handed (generatorsHeld t) 0) t
      (countContact k t) := by
  unfold countContact StationRec.furtherContact
  simp only
  split_ifs with h
  · exact (judgedAlone_engageStation t).congr (by simp only [if_pos h])
  · exact judgedAlone_handRate (r := fun r => { r with confirm := (t.jack k).record.confirm + 1 }) (by simp only [if_neg h])

theorem engagingRecord_eq (p : GroupParams) (j q : Jack) : engagingRecord p j q = match j.record.state with
    | .seeking => if contactSample j then q.record.firstContact p q.latchedHeight else q.record
    | .confirming => if contactSample j then q.record.furtherContact p q.latchedHeight
      else if dropoutSample j then q.record.seeksAgain else q.record
    | _ => q.record := by
  unfold engagingRecord StationRec.firstContact StationRec.furtherContact StationRec.seeksAgain
  cases j.record.state <;> rfl

theorem judgeSeeking_quiet {t : State} (hs : (b.jack k).record.state = .seeking) (h : engagingFault b.group.params (b.jack k) = none)
    (hp : t.group.params = b.group.params) :
    JudgedAlone k (engagingJack (generatorsHeld t) b.group.params (b.jack k)) t (judgeSeeking b k t) := by
  have hn (hq : (t.jack k).record.state ≠ .seeking) :
      engagingJack (generatorsHeld t) b.group.params (b.jack k) (t.jack k) = t.jack k := engagingJack_of_moved (by rw [hs]; exact hq)
  have hq (hq : (t.jack k).record.state = .seeking) := engagingJack_of (held := generatorsHeld t) (p := b.group.params)
    (j := b.jack k) (q := t.jack k) (by rw [hs]; simp) (hq.trans hs.symm)
  unfold engagingFault at h
  rw [engagingRecord_eq, engagingRate, hs] at hq
  rw [hs] at h
  unfold judgeSeeking
  cases hc : contactSample (b.jack k) with
  | true =>
    simp [hc] at hq
    simp only [hc, if_true]
    rw [← hp] at hq ⊢
    exact judgedAlone_whileFound (fun hst => (judgedAlone_beginConfirm t).congr (hq hst)) (by rw [hp]; exact hn)
  | false =>
    have hr : riseBeyond b.group.params (b.jack k) = false := by simpa [hc] using h
    simp [hc] at hq
    simp only [hc, hr, Bool.false_eq_true, if_false]
    exact judgedAlone_whileFound (fun hst => judgedAlone_rate (hq hst)) hn

theorem judgeConfirming_quiet {t : State} (hs : (b.jack k).record.state = .confirming)
    (h : engagingFault b.group.params (b.jack k) = none) (hp : t.group.params = b.group.params) :
    JudgedAlone k (engagingJack (generatorsHeld t) b.group.params (b.jack k)) t (judgeConfirming b k t) := by
  have hn (hq : (t.jack k).record.state ≠ .confirming) :
      engagingJack (generatorsHeld t) b.group.params (b.jack k) (t.jack k) = t.jack k := engagingJack_of_moved (by rw [hs]; exact hq)
  have hq (hq : (t.jack k).record.state = .confirming) := engagingJack_of (held := generatorsHeld t) (p := b.group.params)
    (j := b.jack k) (q := t.jack k) (by rw [hs]; simp) (hq.trans hs.symm)
  unfold engagingFault at h
  rw [engagingRecord_eq, engagingRate, hs] at hq
  rw [hs] at h
  unfold judgeConfirming
  cases hc : contactSample (b.jack k) with
  | true =>
    simp [hc] at hq
    simp only [hc, if_true]
    rw [← hp] at hq ⊢
    exact judgedAlone_whileFound (fun hst => (judgedAlone_countContact t).congr (hq hst)) (by rw [hp]; exact hn)
  | false =>
    cases hd : dropoutSample (b.jack k) with
    | true =>
      have hl : ¬ b.group.params.attemptLimit ≤ (b.jack k).record.attempts + 1 := by simpa [hc, hd] using h
      simp [hc, hd] at hq
      simp only [hc, hd, hl, Bool.false_eq_true, if_false, if_true]
      exact judgedAlone_whileFound (fun hst => judgedAlone_handRate (r := StationRec.seeksAgain) (hq hst)) hn
    | false =>
      simp [hc, hd] at hq
      simp only [hc, hd, Bool.false_eq_true, if_false]
      exact judgedAlone_whileFound (fun hst => judgedAlone_rate (hq hst)) hn

theorem judgeEngaging_quiet {t : State} (h : engagingFault b.group.params (b.jack k) = none) (hp : t.group.params = b.group.params) :
    JudgedAlone k (engagingJack (generatorsHeld t) b.group.params (b.jack k)) t (judgeEngaging b k t) := by
  have hrest (hs : (b.jack k).record.state ∉ [StationState.seeking, .confirming, .engaged]) :
      JudgedAlone k (engagingJack (generatorsHeld t) b.group.params (b.jack k)) t t := .refl (if_neg fun h => hs h.1)
  unfold judgeEngaging
  split
  · next hs => exact judgeSeeking_quiet hs h hp
  · next hs => exact judgeConfirming_quiet hs h hp
  · next hs =>
    refine judgedAlone_whileFound (fun hq => judgedAlone_rate ?_) fun hq => engagingJack_of_moved (by rw [hs]; exact hq)
    have hg := engagingJack_of (held := generatorsHeld t) (p := b.group.params) (j := b.jack k) (q := t.jack k) (by rw [hs]; simp)
      (hq.trans hs.symm)
    unfold engagingRecord engagingRate at hg
    rw [hs] at hg
    simpa using hg
  all_goals
    next hs => exact hrest (by rw [hs]; simp)

end Sys2Proof.Machine

/-! PROOF. A station that becomes ENGAGED at a cycle start of ENGAGING (O10), and what its judgement finds. -/

namespace Sys2Proof.Machine

-- One theorem after another, as in the tests: a thread each for this many proofs would pass the memory limit.
set_option Elab.async false

variable {s t u w o y z b : State} {k i : Sta} {f : FaultKind} {x : Subject} {e : Event} {c : Byte} {n : Nat} {p : GroupParams} {j q : Jack}
  {strict early : Prop}

/-! ### The judgements of the other stations -/

theorem Works.forList {l : List Sta} {f : Sta → State → State} (h : ∀ i t, Works strict early t (f i t)) (s : State) :
    Works strict early s (forList l f s) :=
  forList_keeps (P := fun t => Works strict early s t) (fun i _ t ht => ht.trans (h i t)) (.refl s)

/-- The judgement of another station moves a record by its detection alone. -/
theorem Drifts.judgeEngaging (hi : i ≠ k) (hp : t.group.params = b.group.params) : Drifts k t (judgeEngaging b i t) := by
  cases h : engagingFault b.group.params (b.jack i) with
  | some f =>
    rw [judgeEngaging_fault h]
    exact .detection _ _ t
  | none => exact .of_record (by rw [(judgeEngaging_quiet h hp).jack, if_neg hi.symm])

theorem Drifts.judgeList {l : List Sta} (hl : k ∉ l) (hp : t.group.params = b.group.params) :
    Drifts k t (forList l (Machine.judgeEngaging b) t) := by
  refine (forList_keeps (P := fun u => Drifts k t u ∧ u.group.params = b.group.params) (fun i hi u hu => ?_) ⟨.refl t, hp⟩).1
  have hw : Works False False u (Machine.judgeEngaging b i u) := .judgeEngaging b i u
  exact ⟨hu.1.trans (.judgeEngaging (fun h => hl (h ▸ hi)) hu.2), hw.params.trans hu.2⟩

/-- The state in which the judgement of station `k` is made. -/
def beforeJudging (b : State) (k : Sta) : State := forList (stationsBelow k) (judgeEngaging b) (watchedWork b)

/-- The state that the judgement of station `k` leaves. -/
def afterJudging (b : State) (k : Sta) : State := judgeEngaging b k (beforeJudging b k)

theorem Works.beforeJudging (b : State) (k : Sta) : Works strict early b (beforeJudging b k) :=
  (Works.watchedWork b).trans (.forList (fun i t => .judgeEngaging b i t) _)

theorem Works.afterJudging (b : State) (k : Sta) : Works strict early b (afterJudging b k) :=
  (Works.beforeJudging b k).trans (.judgeEngaging b k _)

theorem judging_split (b : State) (k : Sta) : forStations (judgeEngaging b) (watchedWork b) =
    forList (stationsAbove k) (judgeEngaging b) (afterJudging b k) := forStations_split _ k _

theorem Drifts.beforeJudging (b : State) (k : Sta) : Drifts k b (beforeJudging b k) :=
  (Drifts.watchedWork b).trans (.judgeList (by rw [mem_stationsBelow]; exact lt_irrefl k)
    (Works.watchedWork b : Works False False _ _).params)

theorem sequenced_engaging (h : b.group.state = .engaging) : sequenced b =
    handOver (poisedTest (forStations (judgeEngaging b) (watchedWork b))) := by
  unfold sequenced sequencerWork
  rw [h]

theorem Works.judgedOn (h : b.group.state = .engaging) (k : Sta) : Works strict early (Machine.afterJudging b k) (Machine.sequenced b) := by
  rw [sequenced_engaging h, judging_split b k]
  exact ((Works.forList (fun i t => .judgeEngaging b i t) _).trans (.poisedTest _)).trans (.handOver _)

theorem poisedTest_jack (s : State) (k : Sta) : (poisedTest s).jack k = s.jack k := by
  unfold poisedTest
  split_ifs
  · rw [enterGroup_jack]
    rfl
  · rfl

theorem Drifts.judgedOn (h : b.group.state = .engaging) (k : Sta) : Drifts k (Machine.afterJudging b k) (Machine.sequenced b) := by
  rw [sequenced_engaging h, judging_split b k]
  refine (Drifts.judgeList (by rw [mem_stationsAbove]; exact lt_irrefl k)
    (Works.afterJudging b k : Works False False _ _).params).trans (.of_record ?_)
  rw [handOver_jack, poisedTest_jack]

/-- A cycle start of ENGAGING does not come to LANDING. -/
theorem blockWork_not_landing (h : b.group.state = .engaging) : (blockWork b).group.state ≠ .landing := by
  obtain ⟨h1, -⟩ | ⟨-, h2, -⟩ | ⟨-, h2, -⟩ | ⟨-, h2⟩ := ((Works.blockWork b : Works True True _ _).passes trivial)
  · rw [h1, h]
    simp
  · rw [h2]
    simp
  · rw [h2]
    simp
  · rw [h] at h2
    simp at h2
    rw [h2]
    simp

/-- From the judgement of station `k` on, its record is moved by detections alone. -/
theorem drifts_judged (hslot : s.group.slot = none) (h : s.group.state = .engaging) (k : Sta) :
    Drifts k (afterJudging (begun s) k) (cycleWork s) := by
  have hb : (begun s).group.state = .engaging := by rw [begun_group]; exact h
  exact (Drifts.judgedOn hb k).trans (drifts_cycleWork hslot (.inl (blockWork_not_landing hb)))

/-! ### A station that does not stand ENGAGED -/

/-- A record that stands off the lift, its search for contact as in `r`. -/
def StationRec.StandsOff (r q : StationRec) : Prop :=
  q.state ∉ [StationState.engaged, .trimming, .releasing] ∧
    (q.state = .seeking ∨ q.state = .confirming → q.state = r.state ∧ q.confirm = r.confirm ∧ q.attempts = r.attempts)

theorem StationRec.stable_seeks (r : StationRec) : Stable r.StandsOff := by
  rintro q ⟨hs, hq⟩
  have hend (st : StationState) (h : st ∉ [StationState.engaged, .trimming, .releasing]) :
      moveEndState st ∉ [StationState.engaged, .trimming, .releasing] ∧
        (moveEndState st = .seeking ∨ moveEndState st = .confirming → moveEndState st = st) := by
    cases st <;> simp_all [moveEndState]
  refine ⟨?_, ?_, fun m => ⟨hs, hq⟩, fun _ f m => ?_⟩
  · unfold StationRec.moveByStop
    split
    · exact ⟨by simp, fun h => by simp at h⟩
    · exact ⟨by simp, fun h => by simp at h⟩
    · next h => exact absurd (by rw [h]; simp) hs
    all_goals exact ⟨hs, hq⟩
  · unfold StationRec.cut
    split_ifs
    · obtain ⟨h1, h2⟩ := hend _ hs
      refine ⟨h1, fun h => ?_⟩
      have he : moveEndState q.state = q.state := h2 h
      obtain ⟨h3, h4⟩ := hq (he ▸ h)
      exact ⟨he.trans h3, h4⟩
    · exact ⟨hs, hq⟩
  · exact ⟨by simp [StationRec.toFaulted], fun h => by simp [StationRec.toFaulted] at h⟩

/-- A record that stands ENGAGED with its contact height, or FAULTED since. -/
def StationRec.EngagedAt (h : Int) (q : StationRec) : Prop :=
  q.state = .faulted ∨ (q.state = .engaged ∧ q.contact = some h ∧ q.start = none)

theorem StationRec.stable_engagedAt (h : Int) : Stable (EngagedAt h) := by
  rintro q hq
  refine ⟨?_, ?_, fun m => hq, fun _ f m => .inl rfl⟩
  · have hm : q.moveByStop = q := by
      unfold StationRec.moveByStop
      obtain h | ⟨h, -⟩ := hq <;> rw [h]
    rw [hm]
    exact hq
  · unfold StationRec.cut StationRec.endMove StationRec.EngagedAt
    split_ifs
    · obtain h | ⟨h, hc⟩ := hq
      · exact .inl (by simp [h, moveEndState])
      · exact .inr ⟨by simp [h, moveEndState], hc⟩
    · exact hq

/-! ### The judgement that makes contact (R143 to R145) -/

/-- A sample of contact reaches the confirm target for a station found as `j`. -/
def reachesTarget (p : GroupParams) (j : Jack) : Prop := contactSample j = true ∧
  ((j.record.state = .seeking ∧ p.confirmTarget ≤ 1) ∨ (j.record.state = .confirming ∧ p.confirmTarget ≤ j.record.confirm + 1))

/-- A judgement without a detection leaves a station that is not ENGAGED so, or the sample reaches the target. -/
theorem engagingRecord_cases (hj : j.record.state = .seeking ∨ j.record.state = .confirming) (hq : q.record.confirm = j.record.confirm)
    (hs : q.record.state = j.record.state) :
    (engagingRecord p j q).state ∈ [StationState.seeking, .confirming] ∨
      (reachesTarget p j ∧ engagingRecord p j q = q.record.toEngaged q.latchedHeight) := by
  unfold reachesTarget
  obtain hj | hj := hj
  · rw [engagingRecord_eq, hj]
    simp only
    split_ifs with hc
    · unfold StationRec.firstContact
      split_ifs with hp
      · exact .inr ⟨⟨hc, .inl ⟨trivial, hp⟩⟩, rfl⟩
      · exact .inl (by simp)
    · exact .inl (by simp [hs, hj])
  · rw [engagingRecord_eq, hj]
    simp only
    split_ifs with hc hd
    · unfold StationRec.furtherContact
      split_ifs with hp
      · exact .inr ⟨⟨hc, .inr ⟨trivial, by rw [← hq]; exact hp⟩⟩, rfl⟩
      · exact .inl (by simp [hs, hj])
    · exact .inl (by simp [StationRec.seeksAgain])
    · exact .inl (by simp [hs, hj])

/-- The judgement that reaches the target engages the station. -/
theorem judgeEngaging_engages {t : State} (h : reachesTarget b.group.params (b.jack k)) (hp : t.group.params = b.group.params)
    (hs : (t.jack k).record.state = (b.jack k).record.state) (hc : (t.jack k).record.confirm = (b.jack k).record.confirm) :
    judgeEngaging b k t = engageStation k t := by
  obtain ⟨hsample, ⟨hst, hn⟩ | ⟨hst, hn⟩⟩ := h
  · have hin : (t.jack k).isIn .seeking = true := Jack.isIn_eq_true.mpr (hs.trans hst)
    unfold judgeEngaging
    rw [hst]
    unfold judgeSeeking whileFound beginConfirm
    simp only [hsample, hin, hp, hn, if_true]
  · have hin : (t.jack k).isIn .confirming = true := Jack.isIn_eq_true.mpr (hs.trans hst)
    unfold judgeEngaging
    rw [hst]
    unfold judgeConfirming whileFound countContact
    simp only [hsample, hin, hp, hc, hn, if_true]

theorem told_engageStation (t : State) :
    Told (.contact k (t.jack k).latchedHeight (t.jack k).record.attempts) t.group.cycle (engageStation k t) := told_raise _ _

/-- A station that a cycle start of ENGAGING leaves ENGAGED, and did not find so. -/
theorem contact_confirmed (hslot : s.group.slot = none) (h : s.group.state = .engaging)
    (hk : (s.jack k).record.state = .seeking ∨ (s.jack k).record.state = .confirming)
    (ht : ((cycleWork s).jack k).record.state = .engaged) :
    reachesTarget s.group.params (s.jack k) ∧ ((cycleWork s).jack k).record.contact = some (s.jack k).liveHeight ∧
      ((cycleWork s).jack k).record.start = none ∧
      Reported (.contact k (s.jack k).liveHeight (s.jack k).record.attempts) (s.group.cycle + 1) (cycleWork s) := by
  have hb : (begun s).group.state = .engaging := by rw [begun_group]; exact h
  have hbp : (begun s).group.params = s.group.params := by rw [begun_group]
  have hrec : ((begun s).jack k).record = (s.jack k).recordAtStart := begun_record s k
  have hw : Works False False (begun s) (beforeJudging (begun s) k) := .beforeJudging _ _
  have hp : (beforeJudging (begun s) k).group.params = (begun s).group.params := hw.params
  have hdr := drifts_judged hslot h k
  have hoff (hy : ((s.jack k).record.StandsOff ((afterJudging (begun s) k).jack k).record)) : False := by
    have := (hdr _ (StationRec.stable_seeks _) hy).1
    rw [ht] at this
    simp at this
  have hx : (s.jack k).record.StandsOff ((beforeJudging (begun s) k).jack k).record := by
    refine Drifts.beforeJudging (begun s) k _ (StationRec.stable_seeks _) ?_
    rw [hrec]
    refine ⟨?_, fun _ => ⟨rfl, rfl, rfl⟩⟩
    show (s.jack k).record.state ∉ _
    obtain hk | hk := hk <;> rw [hk] <;> simp
  have hbj : ((begun s).jack k).record.state = (s.jack k).record.state ∧ ((begun s).jack k).record.confirm = (s.jack k).record.confirm := by
    rw [hrec]
    exact ⟨rfl, rfl⟩
  cases hf : engagingFault (begun s).group.params ((begun s).jack k) with
  | some f =>
    refine (hoff ?_).elim
    unfold afterJudging
    rw [judgeEngaging_fault hf]
    exact Drifts.detection f _ _ _ (StationRec.stable_seeks _) hx
  | none =>
    have hj := (judgeEngaging_quiet hf hp).jack k
    rw [if_pos rfl] at hj
    by_cases hs : ((beforeJudging (begun s) k).jack k).record.state = ((begun s).jack k).record.state
    · obtain ⟨-, hconf, hatt⟩ := hx.2 (by rw [hs, hbj.1]; exact hk)
      have hcases := engagingRecord_cases (p := (begun s).group.params) (by rw [hbj.1]; exact hk) (hconf.trans hbj.2.symm) hs
      rw [engagingJack_of (by rw [hbj.1]; obtain hk | hk := hk <;> simp [hk]) hs] at hj
      have hrecj : ((afterJudging (begun s) k).jack k).record = engagingRecord (begun s).group.params ((begun s).jack k)
          ((beforeJudging (begun s) k).jack k) := congrArg Jack.record hj
      obtain hns | ⟨hreach, he⟩ := hcases
      · exfalso
        have hstable : StationRec.Stable fun r => r.state ∉ [StationState.engaged, .trimming, .releasing] := fun r hr => by
          obtain ⟨h1, h2, h3, h4⟩ := StationRec.stable_seeks r r ⟨hr, fun _ => ⟨rfl, rfl, rfl⟩⟩
          exact ⟨h1.1, h2.1, fun m => (h3 m).1, fun hn f m => (h4 hn f m).1⟩
        have := hdr _ hstable (by
          rw [hrecj]
          simp only [List.mem_cons, List.not_mem_nil, or_false] at hns ⊢
          obtain hns | hns := hns <;> rw [hns] <;> simp)
        rw [ht] at this
        simp at this
      · have hheight : ((beforeJudging (begun s) k).jack k).latchedHeight = (s.jack k).liveHeight := by
          unfold Jack.latchedHeight
          rw [(hw.jacks k).pos, (hw.jacks k).settings, begun_openedWith]
          rfl
        have hat : StationRec.EngagedAt (s.jack k).liveHeight ((cycleWork s).jack k).record := by
          refine hdr _ (StationRec.stable_engagedAt _) (.inr ?_)
          rw [hrecj, he, hheight]
          exact ⟨rfl, rfl, rfl⟩
        have htold : Told (.contact k (s.jack k).liveHeight (s.jack k).record.attempts) (s.group.cycle + 1)
            (afterJudging (begun s) k) := by
          have hst := told_engageStation (k := k) (beforeJudging (begun s) k)
          rw [hheight, hatt, hw.cycle, begun_group] at hst
          unfold afterJudging
          rw [judgeEngaging_engages hreach hp hs (hconf.trans hbj.2.symm)]
          exact hst
        have hreach' : reachesTarget s.group.params (s.jack k) := by
          rw [hbp] at hreach
          have hcs : contactSample ((begun s).jack k) = contactSample (s.jack k) := by
            rw [begun_openedWith]
            rfl
          unfold reachesTarget at hreach ⊢
          rw [hcs, hbj.1, hbj.2] at hreach
          exact hreach
        obtain hfa | ⟨-, hcont, hstart⟩ := hat
        · rw [ht] at hfa
          cases hfa
        · refine ⟨hreach', hcont, hstart, ?_⟩
          have hon : Works False False (afterJudging (begun s) k) (sequenced (begun s)) := .judgedOn hb k
          have hseq : Works False False (sequenced (begun s)) (blockWork (begun s)) := .afterSequenced _
          have hcomp : Works False False (blockWork (begun s)) (computeCycle (blockWork (begun s))) := .computeCycle _
          exact reported_of_computed hslot (((hon.trans hseq).trans hcomp).tells _ _ htold)
    · refine (hoff ?_).elim
      rw [engagingJack_of_moved hs] at hj
      have hrecj : ((afterJudging (begun s) k).jack k).record = ((beforeJudging (begun s) k).jack k).record := congrArg Jack.record hj
      rw [hrecj]
      exact hx

end Sys2Proof.Machine

/-! PROOF. A rise beyond the window, or a dropout without an attempt left, at a cycle start (O10). -/

namespace Sys2Proof.Machine

-- One theorem after another, as in the tests: a thread each for this many proofs would pass the memory limit.
set_option Elab.async false

variable {s t u w o y z b : State} {k i : Sta} {f : FaultKind} {x : Subject} {e : Event} {c : Byte} {n : Nat} {p : GroupParams} {j q : Jack}
  {strict early : Prop}

/-! ### What the judgement finds (R143, R146) -/

/-- The rise from the start height is beyond the window, without contact (R143). -/
def Jack.tooFar (p : GroupParams) (j : Jack) : Prop := j.record.state = .seeking ∧ contactSample j = false ∧
  ∃ h ∈ j.record.start, (p.window : Int) < j.liveHeight - h

/-- A dropout without an attempt left (R146). -/
def Jack.unstable (p : GroupParams) (j : Jack) : Prop := j.record.state = .confirming ∧ dropoutSample j = true ∧
  p.attemptLimit ≤ j.record.attempts + 1

theorem contactSample_of_dropout (h : dropoutSample j = true) : contactSample j = false := by
  unfold dropoutSample at h
  unfold contactSample
  rw [Bool.and_eq_true, decide_eq_true_eq] at h
  simp [h.1, h.2]

/-- The judgement of a station as a cycle start opens it. -/
theorem engagingFault_begun (s : State) (k : Sta) : engagingFault (begun s).group.params ((begun s).jack k) = some f ↔
    (f = .noContact ∧ (s.jack k).tooFar s.group.params) ∨ (f = .contactUnstable ∧ (s.jack k).unstable s.group.params) := by
  have hrise : riseBeyond s.group.params ((begun s).jack k) = true ↔
      ∃ h ∈ (s.jack k).record.start, (s.group.params.window : Int) < (s.jack k).liveHeight - h := by
    rw [begun_openedWith]
    show decide ((s.group.params.window : Int) < (s.jack k).liveHeight - (s.jack k).record.start.getD (s.jack k).liveHeight) = true ↔ _
    rw [decide_eq_true_eq]
    cases (s.jack k).record.start with
    | none =>
      simp only [Option.getD_none, Int.sub_self, Option.mem_def, reduceCtorEq, false_and, exists_false, iff_false, not_lt]
      exact Int.natCast_nonneg _
    | some h => simp
  have hsame : ((begun s).jack k).record.state = (s.jack k).record.state ∧ contactSample ((begun s).jack k) = contactSample (s.jack k) ∧
      dropoutSample ((begun s).jack k) = dropoutSample (s.jack k) ∧
      ((begun s).jack k).record.attempts = (s.jack k).record.attempts := by
    rw [begun_openedWith]
    exact ⟨rfl, rfl, rfl, rfl⟩
  obtain ⟨h1, h2, h3, h4⟩ := hsame
  unfold engagingFault Jack.tooFar Jack.unstable
  rw [begun_group, h1, h2, h3, h4]
  simp only [hrise]
  cases hs : (s.jack k).record.state
  case seeking =>
    simp only [Option.ite_none_right_eq_some, Option.some.injEq, true_and, false_and, and_false, or_false, reduceCtorEq]
    exact ⟨fun ⟨hc, hf⟩ => ⟨hf.symm, hc⟩, fun ⟨hf, hc⟩ => ⟨hc, hf.symm⟩⟩
  case confirming =>
    simp only [Option.ite_none_right_eq_some, Option.some.injEq, true_and, false_and, and_false, false_or, reduceCtorEq]
    exact ⟨fun ⟨hc, hf⟩ => ⟨hf.symm, hc.2⟩, fun ⟨hf, hc⟩ => ⟨⟨contactSample_of_dropout hc.1, hc⟩, hf.symm⟩⟩
  all_goals simp

theorem Jack.tooFar_or_unstable_state (h : j.tooFar p ∨ j.unstable p) : j.record.state = .seeking ∨ j.record.state = .confirming :=
  h.imp (·.1) (·.1)

/-! ### A station whose search ends in a fault -/

/-- A record that stands off the lift with the prior state IDLE. -/
def StationRec.EndsIdle (q : StationRec) : Prop := q.state = .seeking ∨ q.state = .confirming ∨ q.state = .idle ∨
  (q.state = .faulted ∧ q.prior = some .idle ∧ q.contact = none)

theorem StationRec.stable_endsIdle : Stable EndsIdle := by
  rintro q hq
  have hprior (hf : q.state ≠ .faulted) : priorOf q.state = .idle := by
    obtain h | h | h | ⟨h, -⟩ := hq
    · rw [h]; rfl
    · rw [h]; rfl
    · rw [h]; rfl
    · exact absurd h hf
  refine ⟨?_, ?_, fun m => hq, fun hf f m => .inr (.inr (.inr ⟨rfl, ?_, ?_⟩))⟩
  · unfold StationRec.moveByStop
    split
    · exact .inr (.inr (.inl rfl))
    · exact .inr (.inr (.inl rfl))
    · next h => simp [StationRec.EndsIdle, h] at hq
    all_goals exact hq
  · unfold StationRec.cut
    split_ifs
    · unfold StationRec.endMove StationRec.EndsIdle
      obtain h | h | h | ⟨h, hc⟩ := hq
      · exact .inl (by simp [h, moveEndState])
      · exact .inr (.inl (by simp [h, moveEndState]))
      · exact .inr (.inr (.inl (by simp [h, moveEndState])))
      · exact .inr (.inr (.inr ⟨by simp [h, moveEndState], hc⟩))
    · exact hq
  · show some (priorOf q.state) = _
    rw [hprior hf]
  · show (if priorOf q.state = .engaged then q.contact else none) = none
    rw [hprior hf]
    rfl

/-! ### The commanded rate of a station that is handed nothing -/

theorem takeDetection_rate (f : FaultKind) (x : Subject) (s : State) (k : Sta) : ((takeDetection f x s).jack k).rate = (s.jack k).rate := by
  obtain ⟨-, -, -, -, -, -, -, -, h⟩ := takeDetection_sameStation f x s k
  exact h.symm

theorem takeDetections_rate (l : List Detection) (s : State) (k : Sta) : ((takeDetections l s).jack k).rate = (s.jack k).rate :=
  takeDetections_keeps (P := fun t => (t.jack k).rate = (s.jack k).rate) (fun f x t ht => (takeDetection_rate f x t k).trans ht) rfl l

theorem watchedWork_rate (o : State) (k : Sta) : ((watchedWork o).jack k).rate = 0 := by
  have hl (s : State) : ((linked o s).jack k).rate = (s.jack k).rate := by
    unfold linked
    rw [updAll_jack]
  rw [watchedWork, linkWork_eq, takeDetections_rate, hl, monitorWork_eq, takeDetections_rate, handOver_jack,
    (Calm.forStations (Calm.slipEvent o) _).rate, monitored_jack]

theorem checkCars_rate (n : Nat) (s : State) (k : Sta) : ((checkCars n s).jack k).rate = (s.jack k).rate := by
  have htwist (n : Nat) (t : State) : ((checkTwist n t).jack k).rate = (t.jack k).rate := by
    unfold checkTwist
    split
    · rfl
    · simp only
      split_ifs
      · exact takeDetection_rate _ _ _ k
      · exact takeDetection_rate _ _ _ k
      · rfl
      · rfl
  have hcoupling (n : Nat) (t : State) : ((checkCoupling n t).jack k).rate = (t.jack k).rate := by
    unfold checkCoupling
    split
    · simp only
      split_ifs
      · exact takeDetection_rate _ _ _ k
      · rfl
    · rfl
  induction n with
  | zero => rfl
  | succ n ih => rw [checkCars_succ, hcoupling, htwist, ih]

theorem afterSequenced_rate (o : State) (k : Sta) : ((blockWork o).jack k).rate = ((sequenced o).jack k).rate := by
  obtain ⟨v, hv, -⟩ := imbalanceWork_jack (measured o) k
  rw [blockWork_eq, handOver_jack, hv]
  show ((measured o).jack k).rate = _
  obtain ⟨-, e⟩ | ⟨-, e⟩ := measured_cases o <;> rw [e]
  · exact checkCars_rate _ _ k
  · rfl

/-- In LOCKED_OUT the computation hands nothing. -/
theorem computation_rate_of_lockedOut (h : z.group.state = .lockedOut) (k : Sta) : ((computation z).jack k).rate = (z.jack k).rate := by
  have ht : tripDetections (formErrors z) = [] := tripDetections_of_unchecked (by rw [h]; rfl)
  have hforced : forcedAtStart z = false := by simp [forcedAtStart, faultStopUnderWay, h]
  have hfg : (formErrors z).group.state = .lockedOut := by rw [formErrors_group]; exact h
  have hform : ((formErrors z).jack k).rate = (z.jack k).rate := by rw [formErrors_jack]
  have hwait : isWaitCycle (formErrors z) = false := by
    generalize formErrors z = v at hfg
    unfold isWaitCycle waitApplies
    rw [hfg]
    rfl
  rw [computation_unforced hforced ht hwait, handOver_jack, ← hform]
  generalize formErrors z = v at hfg
  have hstage : referenceStage (setWait 0 false v) = { state := setWait 0 false v, moved := 0 } := by
    have hs : (setWait 0 false v).group.state = .lockedOut := hfg
    unfold referenceStage
    rw [hs]
  rw [hstage, handRates_jack, if_neg]
  · rfl
  · rintro ⟨hc, -⟩
    have hs : (setWait 0 false v).group.state = .lockedOut := hfg
    unfold syncCommands at hc
    simp only at hc
    rw [hs] at hc
    cases hc

/-! ### The fault to the end of the cycle start -/

/-- The judgements of other stations hand station `k` nothing. -/
theorem judgeList_rate {l : List Sta} (hl : k ∉ l) (hp : t.group.params = b.group.params) :
    ((forList l (judgeEngaging b) t).jack k).rate = (t.jack k).rate := by
  refine (forList_keeps (P := fun u => (u.jack k).rate = (t.jack k).rate ∧ u.group.params = b.group.params) (fun i hi u hu => ?_)
    ⟨rfl, hp⟩).1
  have hw : Works False False u (Machine.judgeEngaging b i u) := .judgeEngaging b i u
  have hne : k ≠ i := fun h => hl (h ▸ hi)
  refine ⟨?_, hw.params.trans hu.2⟩
  cases h : engagingFault b.group.params (b.jack i) with
  | some f =>
    rw [judgeEngaging_fault h, takeDetection_rate]
    exact hu.1
  | none =>
    rw [(judgeEngaging_quiet h hu.2).jack, if_neg hne]
    exact hu.1

theorem Alert.beforeJudging (h : b.group.state = .engaging) (k : Sta) : Alert b (beforeJudging b k) :=
  alert_of_passes ((Works.beforeJudging b k : Works True True _ _).passes trivial) (by rw [h]; simp)

theorem taken_judged (h : b.group.state = .engaging) (hf : engagingFault b.group.params (b.jack k) = some f) :
    Taken f (.station k) b (afterJudging b k) := by
  unfold afterJudging
  rw [judgeEngaging_fault hf]
  exact taken_takeDetection (.beforeJudging b k) (.beforeJudging h k)

/-- A fault stop that the checks leave stands to the end of the cycle start, every rate 0; in LOCKED_OUT nothing is handed. -/
theorem rate_of_taken (hslot : s.group.slot = none) (hs : faultStops s = true) (hrate : ((blockWork (begun s)).jack k).rate = 0)
    (h : Taken f x (begun s) (blockWork (begun s))) (hk : forcedStation ((cycleWork s).jack k) = true) : ((cycleWork s).jack k).rate = 0 := by
  obtain ⟨hacts, -⟩ := (h.trans (Works.tripped _)).ends hslot
  obtain hl | ⟨hst, g, x', hc⟩ := h.alarmed (by rw [faultStops_begun]; exact hs)
  · have hcomp : computeCycle (blockWork (begun s)) = computation (blockWork (begun s)) := computeCycle_of_not_landing (by rw [hl]; simp)
    obtain ⟨v, hv⟩ := cycleWork_jack hslot k
    have hr := computation_rate_of_lockedOut hl k
    rw [hcomp] at hv
    generalize computation (blockWork (begun s)) = v at *
    rw [hv]
    exact hr.trans hrate
  · obtain hlock | ⟨-, -, hrates⟩ := hacts.1 hs
    · have hcomp := computation_stopping hst
      rw [← computeCycle_of_not_landing (by rw [hst]; simp)] at hcomp
      have hg := cycleWork_group hslot
      have hgs := hlock.1
      rw [hg] at hgs
      generalize computeCycle (blockWork (begun s)) = v at *
      split_ifs at hgs
      rw [hcomp] at hgs
      cases hgs
    · exact hrates k hk

/-- A station whose search ends in a fault: the group, the list, and the station at the end of the cycle start. -/
theorem search_fails (hslot : s.group.slot = none) (h : s.group.state = .engaging)
    (hf : (f = .noContact ∧ (s.jack k).tooFar s.group.params) ∨ (f = .contactUnstable ∧ (s.jack k).unstable s.group.params)) :
    ((cycleWork s).group.state = .stopping ∨ (cycleWork s).group.state = .lockedOut) ∧ ListedFor f (.station k) s (cycleWork s) ∧
    ((cycleWork s).jack k).record.state = .faulted ∧ ((cycleWork s).jack k).record.prior = some .idle ∧
    ((cycleWork s).jack k).record.contact = none ∧ ((cycleWork s).jack k).rate = 0 := by
  have hb : (begun s).group.state = .engaging := by rw [begun_group]; exact h
  have hst : (s.jack k).record.state = .seeking ∨ (s.jack k).record.state = .confirming :=
    Jack.tooFar_or_unstable_state (hf.imp (·.2) (·.2))
  have hassigned : (s.jack k).assigned = true := by
    unfold Jack.assigned
    obtain hst | hst := hst <;> rw [hst] <;> rfl
  have hfault := (engagingFault_begun s k).mpr hf
  have hstops : faultStops s = true := (faultStops_iff s).mpr (.inl (by rw [h]; simp))
  have htaken : Taken f (.station k) (begun s) (blockWork (begun s)) :=
    ((taken_judged hb hfault).trans (.judgedOn hb k)).trans (.afterSequenced _)
  obtain ⟨hacts, hlisted, hfaulted, -⟩ := (htaken.trans (Works.tripped _)).ends hslot
  have hfk : ((cycleWork s).jack k).record.state = .faulted := hfaulted k rfl hassigned
  have hdr : Drifts k (begun s) (afterJudging (begun s) k) := by
    refine (Drifts.beforeJudging _ k).trans ?_
    unfold afterJudging
    rw [judgeEngaging_fault hfault]
    exact .detection _ _ _
  have hends : StationRec.EndsIdle ((cycleWork s).jack k).record := by
    refine (hdr.trans (drifts_judged hslot h k)) _ StationRec.stable_endsIdle ?_
    rw [begun_record]
    exact hst.elim .inl fun h => .inr (.inl h)
  have hrate : ((blockWork (begun s)).jack k).rate = 0 := by
    have hp : (watchedWork (begun s)).group.params = (begun s).group.params := (Works.watchedWork _ : Works False False _ _).params
    have hpa : (afterJudging (begun s) k).group.params = (begun s).group.params := (Works.afterJudging _ k : Works False False _ _).params
    have hbefore : ((beforeJudging (begun s) k).jack k).rate = 0 :=
      (judgeList_rate (by rw [mem_stationsBelow]; exact lt_irrefl k) hp).trans (watchedWork_rate _ k)
    have hafter : ((afterJudging (begun s) k).jack k).rate = 0 := by
      unfold afterJudging
      rw [judgeEngaging_fault hfault, takeDetection_rate]
      exact hbefore
    rw [afterSequenced_rate, sequenced_engaging hb, judging_split (begun s) k, handOver_jack, poisedTest_jack,
      judgeList_rate (by rw [mem_stationsAbove]; exact lt_irrefl k) hpa]
    exact hafter
  refine ⟨?_, hlisted, hfk, ?_, ?_, rate_of_taken hslot hstops hrate htaken ?_⟩
  · obtain hl | ⟨hstop | ⟨hs, -⟩, -⟩ := hacts.1 hstops
    · exact .inr hl.1
    · exact .inl hstop
    · rw [h] at hs
      cases hs
  · obtain he | he | he | ⟨-, he, -⟩ := hends
    · rw [hfk] at he; cases he
    · rw [hfk] at he; cases he
    · rw [hfk] at he; cases he
    · exact he
  · obtain he | he | he | ⟨-, -, he⟩ := hends
    · rw [hfk] at he; cases he
    · rw [hfk] at he; cases he
    · rw [hfk] at he; cases he
    · exact he
  · unfold forcedStation Jack.assigned Jack.isIn
    rw [hfk]
    rfl

end Sys2Proof.Machine

/-! PROOF. From the sequencer's judgements to the end of a cycle start that finds nothing (O10, O18). -/

namespace Sys2Proof.Machine

-- One theorem after another, as in the tests: a thread each for this many proofs would pass the memory limit.
set_option Elab.async false

variable {s t u w o y z b : State} {k i : Sta} {f : FaultKind} {x : Subject} {e : Event} {c : Byte} {n : Nat} {p : GroupParams} {j q : Jack}
  {strict early : Prop} {r : Sta → StationRec} {v : Sta → Int} {g : Sta → Generator}

/-! ### What the judgements leave of every station -/

/-- Every station with the record, the commanded rate and the generator named, its height the one latched at the cycle start on `s`. -/
structure Judged (s : State) (r : Sta → StationRec) (v : Sta → Int) (g : Sta → Generator) (y : State) : Prop where
  record : ∀ k, (y.jack k).record = r k
  rate : ∀ k, (y.jack k).rate = v k
  gen : ∀ k, (y.jack k).gen = g k
  height : ∀ k, (y.jack k).latchedHeight = (s.jack k).liveHeight

theorem Judged.calm (h : Judged s r v g y) (hc : Calm y z) : Judged s r v g z where
  record := fun k => (hc.record k).trans (h.record k)
  rate := fun k => (hc.rate k).trans (h.rate k)
  gen := fun k => (hc.gen k).trans (h.gen k)
  height := fun k => by
    unfold Jack.latchedHeight
    rw [hc.record, hc.pos]
    exact h.height k

/-- The error formed against `ref` for a station with the record `r` and the live height `height` (R120). -/
def errorFor (ref height : Int) (r : StationRec) : Int :=
  match r.contact with
  | some c => ref + 100 * (r.settings.offset - (height - c))
  | none => 0

theorem Judged.err (h : Judged s r v g y) (ref : Int) (k : Sta) :
    errorOf ref (y.jack k) = errorFor ref (s.jack k).liveHeight (r k) := by
  unfold errorOf errorFor
  rw [h.record]
  cases (r k).contact with
  | none => rfl
  | some c => rw [h.height]

/-- The generator of a station found as `j` that is handed the rate `v` at a cycle start (R40 to R44). -/
def Jack.generatorOn (j : Jack) (v : Int) : Generator :=
  ({ ({ j.gen with ceiling := false } : Generator) with ceiling := heldAtCeiling v j.record.settings.kStep } : Generator).hand
    (convertRate v j.record.settings.kStep)

theorem Jack.generatorOn_handed (j : Jack) (v : Int) : Generator.Handed v j.record.settings.kStep j.gen (j.generatorOn v) :=
  Generator.hand_handed_of_mark _ _ _ false

/-- A further value handed in the same cycle start takes the place of the stop value handed before. -/
theorem Generator.hand_after_stop (c d : Bool) (value : PendingValue) (g : Generator) :
    ({ ({ g with ceiling := c } : Generator).hand .stop with ceiling := d } : Generator).hand value =
      ({ g with ceiling := d } : Generator).hand value := by
  obtain ⟨run, divisor, dir, pending, remaining, ceiling, brake, stepHigh, dirHigh⟩ := g
  cases run with
  | idle => rfl
  | counted => rfl
  | rate => rcases pending with - | (_ | _ | _) <;> cases value <;> rfl

theorem Jack.generatorOn_again (j : Jack) (v : Int) : Generator.Handed v j.record.settings.kStep j.gen
    (({ j.generatorOn 0 with ceiling := heldAtCeiling v j.record.settings.kStep } : Generator).hand
      (convertRate v j.record.settings.kStep)) := by
  have hstop : convertRate 0 j.record.settings.kStep = .stop := if_pos rfl
  unfold Jack.generatorOn
  rw [hstop, Generator.hand_after_stop]
  exact Generator.hand_handed _ _ _

/-! ### The geometry and the imbalance marks where nothing is found -/

theorem Calm.afterSequenced (h : geometryRuns o = true → GeometryFree (sequenced o)) : Calm (sequenced o) (Machine.blockWork o) :=
  (Calm.geometryWork h).trans (.handOver _)

theorem Calm.afterSequenced_of_unchecked (h : ¬ ChecksGeometry s) : Calm (sequenced (begun s)) (Machine.blockWork (begun s)) :=
  .afterSequenced fun hr => absurd ((geometryRuns_begun s).mp hr) h

/-! ### The computation where the reference rests (R119, R136) -/

/-- The computation hands no rate and moves no reference. -/
def Rests (z : State) : Prop :=
  z.group.state = .engaging ∨ z.group.state = .prepared ∨ (z.group.state = .landing ∧ z.sync.descent = false)

theorem forcedAtStart_eq_false (h : z.group.state ≠ .stopping) : forcedAtStart z = false := by
  simp [forcedAtStart, faultStopUnderWay, h]

theorem isWaitCycle_eq_false (h : z.group.state ≠ .moving ∧ z.group.state ≠ .stopping) : isWaitCycle z = false := by
  have : waitApplies z = false := by
    unfold waitApplies
    split
    · next hs => exact absurd hs h.1
    · next hs => exact absurd hs h.2
    · rfl
  rw [isWaitCycle, this, Bool.false_and]

theorem forcedEarlier_eq_false (h : z.group.state ≠ .stopping) : forcedEarlier z = false := by
  unfold forcedEarlier
  simp [h]

/-- The computation of a state whose reference rests, its trips none. -/
theorem cycleWork_of_stage (hslot : s.group.slot = none) (hz : blockWork (begun s) = z)
    (hs : z.group.state ≠ .moving ∧ z.group.state ≠ .stopping) (hl : z.group.state = .landing → z.sync.descent = false)
    (ht : tripDetections (formErrors z) = [])
    (hr : referenceStage (setWait 0 false (formErrors z)) = { state := setWait 0 false (formErrors z), moved := 0 }) :
    (cycleWork s).group = { z.group with waitCount := 0 } ∧ (cycleWork s).sync = { z.sync with waiting := false } ∧
      (cycleWork s).plan = z.plan ∧ ∀ k, ∃ a, (cycleWork s).jack k =
        { (handRates 0 (setWait 0 false (formErrors z))).jack k with
          gen := { ((handRates 0 (setWait 0 false (formErrors z))).jack k).gen with brake := a } } := by
  have hw : isWaitCycle (formErrors z) = false := isWaitCycle_eq_false (by rw [formErrors_group]; exact hs)
  have hcomp := computation_unforced (forcedAtStart_eq_false hs.2) ht hw
  rw [hr, ← hz] at hcomp
  obtain ⟨h1, h2, h3, h4⟩ := cycleWork_unforced hslot hcomp (fun h h' => by
    rw [hz] at h h'
    rw [hl h] at h'
    cases h') fun h => by
      rw [hz] at h ⊢
      exact forcedEarlier_eq_false hs.2
  rw [hz] at h1 h2 h3 h4
  exact ⟨h1, h2, h3, h4⟩

theorem cycleWork_rests (hslot : s.group.slot = none) (hz : blockWork (begun s) = z) (h : Rests z) :
    (cycleWork s).group = { z.group with waitCount := 0 } ∧ (cycleWork s).sync = { z.sync with waiting := false } ∧
      (cycleWork s).plan = z.plan ∧ ∀ k, ∃ a, (cycleWork s).jack k =
        { z.jack k with err := errorOf z.sync.ref (z.jack k), gen := { (z.jack k).gen with brake := a } } := by
  have hgroup : (setWait 0 false (formErrors z)).group.state = z.group.state := rfl
  have hdesc : (setWait 0 false (formErrors z)).sync.descent = z.sync.descent := rfl
  have hjack (k : Sta) : (setWait 0 false (formErrors z)).jack k = { z.jack k with err := errorOf z.sync.ref (z.jack k) } :=
    formErrors_jack z k
  have hunchecked : tripChecked (formErrors z).group.state = false := by
    rw [formErrors_group]
    obtain h | h | ⟨h, -⟩ := h <;> rw [h] <;> rfl
  have hend := cycleWork_of_stage hslot hz (z := z) (by obtain h | h | ⟨h, -⟩ := h <;> rw [h] <;> simp)
    (fun hl => by obtain h | h | ⟨-, h⟩ := h <;> simp_all) (tripDetections_of_unchecked hunchecked)
  generalize setWait 0 false (formErrors z) = x at *
  have hstage : referenceStage x = { state := x, moved := 0 } := by
    unfold referenceStage
    rw [hgroup, hdesc]
    obtain h | h | ⟨h, hd⟩ := h
    · rw [h]
    · rw [h]
    · rw [h, hd]
      rfl
  have hhand : handRates 0 x = x := by
    unfold handRates syncCommands
    rw [hgroup, hdesc]
    obtain h | h | ⟨h, hd⟩ := h
    · rw [h]
      rfl
    · rw [h]
      rfl
    · rw [h, hd]
      rfl
  obtain ⟨h1, h2, h3, h4⟩ := hend hstage
  refine ⟨h1, h2, h3, fun k => ?_⟩
  obtain ⟨a, ha⟩ := h4 k
  rw [hhand, hjack] at ha
  exact ⟨a, ha⟩

/-- The computation in POISED, with no station beyond the trip band. -/
theorem cycleWork_poised (hslot : s.group.slot = none) (hz : blockWork (begun s) = z) (h : z.group.state = .poised)
    (ht : tripDetections (formErrors z) = []) :
    (cycleWork s).group = { z.group with waitCount := 0 } ∧ (cycleWork s).sync = { z.sync with waiting := false } ∧
      (cycleWork s).plan = z.plan ∧ ∀ k, ∃ a, (cycleWork s).jack k =
        (if (z.jack k).record.state = .engaged then
          (let j : Jack := ({ z.jack k with err := errorOf z.sync.ref (z.jack k) } : Jack).handed (generatorsHeld z)
            (rateOf z.group.params z.sync.dir 0 { z.jack k with err := errorOf z.sync.ref (z.jack k) })
          { j with gen := { j.gen with brake := a } })
        else { z.jack k with err := errorOf z.sync.ref (z.jack k), gen := { (z.jack k).gen with brake := a } }) := by
  have hgroup : (setWait 0 false (formErrors z)).group = { z.group with waitCount := 0 } := rfl
  have hsync : (setWait 0 false (formErrors z)).sync = { z.sync with waiting := false } := rfl
  have hjack (k : Sta) : (setWait 0 false (formErrors z)).jack k = { z.jack k with err := errorOf z.sync.ref (z.jack k) } :=
    formErrors_jack z k
  have hend := cycleWork_of_stage hslot hz (by rw [h]; simp) (fun hl => by rw [h] at hl; cases hl) ht
  generalize setWait 0 false (formErrors z) = x at *
  have hstate : x.group.state = .poised := by rw [hgroup]; exact h
  obtain ⟨h1, h2, h3, h4⟩ := hend (by unfold referenceStage; rw [hstate])
  refine ⟨h1, h2, h3, fun k => ?_⟩
  obtain ⟨a, ha⟩ := h4 k
  refine ⟨a, ?_⟩
  have hc : syncCommands x = true := by
    unfold syncCommands
    rw [hstate]
  have hheld : generatorsHeld x = generatorsHeld z := by
    unfold generatorsHeld
    rw [hgroup]
  rw [handRates_jack, hjack, hheld, hgroup, hsync] at ha
  simp only [hc, true_and] at ha
  split_ifs at ha ⊢
  · exact ha
  · exact ha

end Sys2Proof.Machine

/-! PROOF. A cycle start of ENGAGING that finds nothing: every station judged from its state (O10). -/

namespace Sys2Proof.Machine

-- One theorem after another, as in the tests: a thread each for this many proofs would pass the memory limit.
set_option Elab.async false

variable {s t u w o y z b : State} {k i : Sta} {f : FaultKind} {x : Subject} {e : Event} {c : Byte} {n : Nat} {p : GroupParams} {j q : Jack}
  {strict early : Prop} {r : Sta → StationRec} {v : Sta → Int} {g : Sta → Generator}

/-! ### What a cycle start leaves of a station before the sequencer's work -/

/-- A station with its pending offset taken and its count latched, its generator's mark cleared, and no rate. -/
structure Jack.Watched (j q : Jack) : Prop where
  record : q.record = j.recordAtStart
  latched : q.pos.latched = j.pos.count
  gen : q.gen = { j.gen with ceiling := false }
  rate : q.rate = 0

theorem Calm.watchedJack (hl : s.group.state ≠ .lockedOut) (h : Calm (cleared s) w) (k : Sta) : (s.jack k).Watched (w.jack k) where
  record := by
    rw [h.record, cleared_jack, begun_record]
  latched := by
    rw [h.pos, cleared_jack, begun_latch]
  gen := by
    rw [h.gen, cleared_jack, begun_eq_opened hl, opened_jack]
  rate := by
    rw [h.rate, cleared_jack]

theorem Jack.Watched.height (h : j.Watched q) : q.latchedHeight = j.liveHeight := by
  unfold Jack.latchedHeight
  rw [h.record, h.latched]
  rfl

/-- A calm watch of a cycle start. -/
theorem calm_watchedWork (hund : Undetected s) (hl : s.group.state ≠ .lockedOut) : Calm (cleared s) (watchedWork (begun s)) :=
  Calm.watched hl hund.1 hund.2.1

/-! ### The judgement of a station as the cycle start finds it (R143 to R146) -/

/-- The record that a cycle start of ENGAGING makes of a station found as `j`, where it finds nothing. -/
def Jack.judgedEngaging (p : GroupParams) (j : Jack) : StationRec :=
  engagingRecord p j { j with record := j.recordAtStart, pos := { j.pos with latched := j.pos.count } }

/-- The station is judged in ENGAGING. -/
@[reducible] def Jack.searches (j : Jack) : Prop := j.record.state ∈ [StationState.seeking, .confirming, .engaged]

theorem engagingRecord_settings (p : GroupParams) (j q : Jack) : (engagingRecord p j q).settings = q.record.settings := by
  unfold engagingRecord
  split
  · split_ifs <;> rfl
  · split_ifs <;> rfl
  · rfl

/-- The judgement reads of the station as it stands its record and its latched height, of the station as found its state and its sample. -/
theorem engagingRecord_begun (h : (s.jack k).Watched q) :
    engagingRecord p ((begun s).jack k) q = (s.jack k).judgedEngaging p ∧
      engagingRate p ((begun s).jack k) = engagingRate p (s.jack k) := by
  have hh := h.height
  obtain ⟨h1, -, -, -⟩ := h
  have hb := begun_openedWith s k
  unfold Jack.judgedEngaging engagingRate engagingRecord
  rw [hb, hh, h1]
  exact ⟨rfl, rfl⟩

theorem Jack.judgedEngaging_of_unsearched (h : ¬ j.searches) : j.judgedEngaging p = j.recordAtStart := by
  unfold Jack.searches at h
  unfold judgedEngaging engagingRecord
  split
  · next hs => exact absurd (by rw [hs]; simp) h
  · next hs => exact absurd (by rw [hs]; simp) h
  · rfl

/-- What a cycle start of ENGAGING that finds nothing makes of every station: its record, the rate it is handed and its generator. -/
def JudgedEngaging (s y : State) : Prop :=
  Judged s (fun k => (s.jack k).judgedEngaging s.group.params)
    (fun k => if (s.jack k).searches then engagingRate s.group.params (s.jack k) else 0)
    (fun k => if (s.jack k).searches then (s.jack k).generatorOn (engagingRate s.group.params (s.jack k))
      else { (s.jack k).gen with ceiling := false }) y

/-- Every station judged, one after another. -/
theorem judgedEngaging_of_quiet (hp : s.group.permit = true) (he : s.group.state = .engaging) (hund : Undetected s)
    (hq : ∀ k, engagingFault (begun s).group.params ((begun s).jack k) = none) :
    (forStations (judgeEngaging (begun s)) (watchedWork (begun s))).group = (begun s).group ∧
      (forStations (judgeEngaging (begun s)) (watchedWork (begun s))).sync = (begun s).sync ∧
      (forStations (judgeEngaging (begun s)) (watchedWork (begun s))).plan = (begun s).plan ∧
      JudgedEngaging s (forStations (judgeEngaging (begun s)) (watchedWork (begun s))) := by
  have hl : s.group.state ≠ .lockedOut := by
    rw [he]
    simp
  have hw := calm_watchedWork hund hl
  have hwj := hw.watchedJack hl
  have hbp : (begun s).group.params = s.group.params := by rw [begun_group]
  have hheld (t : State) (ht : t.group = (begun s).group) : generatorsHeld t = false := by
    unfold generatorsHeld
    rw [ht, begun_group]
    show (!s.group.permit || s.group.state == .lockedOut) = false
    rw [hp, he]
    rfl
  have hsame (t : State) (h : t.group = (begun s).group ∧ t.sync = (begun s).sync ∧ t.plan = (begun s).plan) (k : Sta) :
      JudgedAlone k (engagingJack false s.group.params ((begun s).jack k)) t (judgeEngaging (begun s) k t) := by
    have := judgeEngaging_quiet (t := t) (hq k) (by rw [h.1])
    rwa [hheld t h.1, hbp] at this
  have hstart : (watchedWork (begun s)).group = (begun s).group ∧ (watchedWork (begun s)).sync = (begun s).sync ∧
      (watchedWork (begun s)).plan = (begun s).plan := ⟨hw.group, hw.sync, hw.plan⟩
  generalize watchedWork (begun s) = w at *
  have hkeep := forStations_keeps (P := fun t => t.group = (begun s).group ∧ t.sync = (begun s).sync ∧ t.plan = (begun s).plan)
    (f := judgeEngaging (begun s)) (fun k t ht => by
      obtain ⟨-, h1, h2, h3⟩ := hsame t ht k
      exact ⟨h1.trans ht.1, h2.trans ht.2.1, h3.trans ht.2.2⟩) hstart
  have hjack (k : Sta) : (forStations (judgeEngaging (begun s)) w).jack k =
      engagingJack false s.group.params ((begun s).jack k) (w.jack k) :=
    forStations_jack_of (P := fun t => t.group = (begun s).group ∧ t.sync = (begun s).sync ∧ t.plan = (begun s).plan)
      (g := fun k => engagingJack false s.group.params ((begun s).jack k)) (fun k t ht => by
        obtain ⟨h0, h1, h2, h3⟩ := hsame t ht k
        exact ⟨⟨h1.trans ht.1, h2.trans ht.2.1, h3.trans ht.2.2⟩, h0⟩) hstart k
  generalize forStations (judgeEngaging (begun s)) w = y at *
  refine ⟨hkeep.1, hkeep.2.1, hkeep.2.2, ?_⟩
  have hone (k : Sta) : ((s.jack k).searches → y.jack k =
      ({ w.jack k with record := (s.jack k).judgedEngaging s.group.params } : Jack).handed false
        (engagingRate s.group.params (s.jack k))) ∧ (¬ (s.jack k).searches → y.jack k = w.jack k) := by
    obtain ⟨h1, h2⟩ := engagingRecord_begun (p := s.group.params) (hwj k)
    have hbs : ((begun s).jack k).record.state = (s.jack k).record.state := by rw [begun_record]; rfl
    have hws : (w.jack k).record.state = ((begun s).jack k).record.state := by
      rw [(hwj k).record, hbs]
      rfl
    refine ⟨fun h => ?_, fun h => ?_⟩
    · rw [hjack, engagingJack_of (by rw [hbs]; exact h) hws, h1, h2]
    · rw [hjack]
      exact if_neg fun hn => h (by have := hn.1; rwa [hbs] at this)
  have hset (k : Sta) : ((s.jack k).judgedEngaging s.group.params).settings = (s.jack k).recordAtStart.settings :=
    engagingRecord_settings _ _ _
  refine ⟨fun k => ?_, fun k => ?_, fun k => ?_, fun k => ?_⟩
  · by_cases h : (s.jack k).searches
    · rw [(hone k).1 h]
      rfl
    · rw [(hone k).2 h, (hwj k).record, Jack.judgedEngaging_of_unsearched h]
  · by_cases h : (s.jack k).searches
    · rw [(hone k).1 h, if_pos h]
      rfl
    · rw [(hone k).2 h, (hwj k).rate, if_neg h]
  · by_cases h : (s.jack k).searches
    · rw [(hone k).1 h, if_pos h]
      unfold Jack.handed Jack.generatorOn
      simp only [Bool.false_eq_true, if_false]
      rw [hset, (hwj k).gen]
      rfl
    · rw [(hone k).2 h, (hwj k).gen, if_neg h]
  · by_cases h : (s.jack k).searches
    · rw [(hone k).1 h]
      unfold Jack.latchedHeight
      show _ = (s.jack k).liveHeight
      rw [← (hwj k).height]
      unfold Jack.handed Jack.latchedHeight
      rw [(hwj k).record]
      simp only [hset]
    · rw [(hone k).2 h, (hwj k).height]

end Sys2Proof.Machine

/-! PROOF. A cycle start of ENGAGING that finds nothing: the group goes on, is POISED, or trips (O10). -/

namespace Sys2Proof.Machine

-- One theorem after another, as in the tests: a thread each for this many proofs would pass the memory limit.
set_option Elab.async false

variable {s t u w o y z b : State} {k i : Sta} {f : FaultKind} {x : Subject} {e : Event} {c : Byte} {n : Nat} {p : GroupParams} {j q : Jack}
  {strict early : Prop} {r : Sta → StationRec} {v : Sta → Int} {g : Sta → Generator}

/-! ### The end of the search (R147) -/

/-- Every assigned station stands ENGAGED once judged. -/
def AllEngaged (s : State) : Prop :=
  ∀ k, (s.jack k).assigned = true → ((s.jack k).judgedEngaging s.group.params).state = .engaged

theorem Jack.judgedEngaging_unassigned : (j.judgedEngaging p).state = .unassigned ↔ j.record.state = .unassigned := by
  by_cases h : j.searches
  · have hj : j.record.state ≠ .unassigned := fun hs => by
      unfold Jack.searches at h
      rw [hs] at h
      simp at h
    refine ⟨fun hu => ?_, fun hs => absurd hs hj⟩
    unfold judgedEngaging engagingRecord at hu
    exfalso
    split at hu
    · split_ifs at hu
      · cases hu
      · exact hj hu
    · split_ifs at hu
      · cases hu
      · exact hj hu
      · exact hj hu
    · exact hj hu
  · rw [Jack.judgedEngaging_of_unsearched h]
    rfl

theorem Jack.judgedEngaging_settings : (j.judgedEngaging p).settings = j.recordAtStart.settings := engagingRecord_settings _ _ _

/-- A station that stands ENGAGED once judged has been handed the stop value. -/
theorem Jack.judgedEngaging_engaged (h : (j.judgedEngaging p).state = .engaged) : j.searches ∧ engagingRate p j = 0 := by
  unfold judgedEngaging engagingRecord at h
  unfold searches engagingRate
  split at h
  · next hs =>
    have hs : j.record.state = .seeking := hs
    split_ifs at h with hc
    · simp [hs, hc]
    · have h : j.record.state = .engaged := h
      rw [hs] at h
      cases h
  · next hs =>
    have hs : j.record.state = .confirming := hs
    split_ifs at h with hc
    · simp [hs, hc]
    · have h : j.record.state = .engaged := h
      rw [hs] at h
      cases h
    · have h : j.record.state = .engaged := h
      rw [hs] at h
      cases h
  · have h : j.record.state = .engaged := h
    simp [h]

theorem JudgedEngaging.allAssigned_iff (h : JudgedEngaging s y) : allAssigned y (fun j => j.isIn .engaged) = true ↔ AllEngaged s := by
  rw [Machine.allAssigned_iff]
  unfold AllEngaged
  refine forall_congr' fun k => ?_
  rw [Jack.isIn_eq_true, h.record]
  refine imp_congr ?_ Iff.rfl
  rw [Ne, Jack.judgedEngaging_unassigned]
  simp [Jack.assigned]

/-- What the judgements of a cycle start of ENGAGING leave, where they find nothing. -/
structure Searched (s u : State) (y : State) : Prop where
  group : y.group = { s.group with cycle := s.group.cycle + 1 }
  sync : y.sync = u.sync
  plan : y.plan = u.plan
  judged : JudgedEngaging s y
  sequenced : sequenced (begun s) = handOver (poisedTest y)

theorem searched_of_quiet (hr : s.pins.resetAsserted = false) (hu : exec .take s = .next u) (hp : s.group.permit = true)
    (he : s.group.state = .engaging) (hund : Undetected s)
    (hq : ∀ k, ¬ (s.jack k).tooFar s.group.params ∧ ¬ (s.jack k).unstable s.group.params) :
    Searched s u (forStations (judgeEngaging (begun s)) (watchedWork (begun s))) := by
  obtain ⟨hsync, hplan⟩ := begun_sync_plan hr hu
  obtain ⟨h1, h2, h3, h4⟩ := judgedEngaging_of_quiet hp he hund fun k => by
    cases hf : engagingFault (begun s).group.params ((begun s).jack k) with
    | none => rfl
    | some f =>
      exfalso
      obtain ⟨-, h⟩ | ⟨-, h⟩ := (engagingFault_begun s k).mp hf
      · exact (hq k).1 h
      · exact (hq k).2 h
  exact ⟨h1.trans (begun_group s), h2.trans hsync, h3.trans hplan, h4, sequenced_engaging (by rw [begun_group]; exact he)⟩

theorem poisedTest_of_not (h : allAssigned y (fun j => j.isIn .engaged) = false) : poisedTest y = y := by
  unfold poisedTest
  rw [if_neg]
  rw [h]
  simp

/-! ### Where a station still searches -/

/-- A cycle start of ENGAGING that finds nothing, at whose end a station is not ENGAGED. -/
theorem search_goes_on (hslot : s.group.slot = none) (he : s.group.state = .engaging) (hg : ¬ ChecksGeometry s) (hy : Searched s u y)
    (hn : ¬ AllEngaged s) :
    (cycleWork s).group = { s.group with cycle := s.group.cycle + 1, waitCount := 0 } ∧
      (cycleWork s).sync = { u.sync with waiting := false } ∧ (cycleWork s).plan = u.plan ∧
      ∀ k, ∃ w : Jack, (w.record = (s.jack k).judgedEngaging s.group.params ∧
          w.rate = (if (s.jack k).searches then engagingRate s.group.params (s.jack k) else 0) ∧
          w.gen = if (s.jack k).searches then (s.jack k).generatorOn (engagingRate s.group.params (s.jack k))
            else { (s.jack k).gen with ceiling := false }) ∧
        ∃ a, (cycleWork s).jack k = { w with
          err := errorFor u.sync.ref (s.jack k).liveHeight ((s.jack k).judgedEngaging s.group.params)
          gen := { w.gen with brake := a } } := by
  have hall : allAssigned y (fun j => j.isIn .engaged) = false := by
    rw [Bool.eq_false_iff]
    exact fun h => hn (hy.judged.allAssigned_iff.mp h)
  have hcalm : Calm y (blockWork (begun s)) := by
    have hseq := Calm.afterSequenced_of_unchecked hg
    rw [hy.sequenced, poisedTest_of_not hall] at hseq
    exact (Calm.handOver y).trans hseq
  have hj := hy.judged.calm hcalm
  have hzg : (blockWork (begun s)).group = { s.group with cycle := s.group.cycle + 1 } := hcalm.group.trans hy.group
  have hzy : (blockWork (begun s)).sync = u.sync := hcalm.sync.trans hy.sync
  obtain ⟨h1, h2, h3, h4⟩ := cycleWork_rests hslot rfl (.inl (by rw [hzg]; exact he))
  generalize blockWork (begun s) = z at *
  refine ⟨by rw [h1, hzg], by rw [h2, hzy], h3.trans (hcalm.plan.trans hy.plan), fun k => ?_⟩
  obtain ⟨a, ha⟩ := h4 k
  refine ⟨z.jack k, ⟨hj.record k, hj.rate k, hj.gen k⟩, a, ?_⟩
  rw [ha, hj.err, hzy]

/-! ### Where every station stands ENGAGED -/

/-- The checks of such a cycle start leave the group POISED with its reference 0. -/
structure Poised (s u : State) (z : State) : Prop where
  group : z.group = { s.group with cycle := s.group.cycle + 1, state := .poised }
  sync : z.sync = { u.sync with ref := 0, speed := 0, dir := .none }
  plan : z.plan = u.plan
  judged : JudgedEngaging s z

theorem poised_of_allEngaged (he : s.group.state = .engaging) (hg : ¬ ChecksGeometry s) (hy : Searched s u y) (h : AllEngaged s) :
    Poised s u (blockWork (begun s)) ∧ Told (.state .engaging .poised) (s.group.cycle + 1) (blockWork (begun s)) := by
  have hseq := Calm.afterSequenced_of_unchecked hg
  have hw : Works False False (sequenced (begun s)) (blockWork (begun s)) := .afterSequenced _
  have hstate : y.group.state = .engaging := by
    rw [hy.group]
    exact he
  have hpoised : poisedTest y = enterGroup .poised (clearReference y) := by
    unfold poisedTest
    rw [if_pos ⟨hstate, hy.judged.allAssigned_iff.mpr h⟩]
  rw [hy.sequenced, hpoised] at hseq hw
  have hcalm := (Calm.handOver _).trans hseq
  have htold := told_enterGroup .poised (clearReference y)
  have htells : Tells (enterGroup .poised (clearReference y)) (blockWork (begun s)) := (Tells.handOver _).trans hw.tells
  have hj : JudgedEngaging s (enterGroup .poised (clearReference y)) := by
    have hy := hy.judged
    refine ⟨fun k => ?_, fun k => ?_, fun k => ?_, fun k => ?_⟩ <;> rw [enterGroup_jack]
    · exact hy.record k
    · exact hy.rate k
    · exact hy.gen k
    · exact hy.height k
  refine ⟨⟨?_, ?_, hcalm.plan.trans ?_, Judged.calm hj hcalm⟩, htells _ _ ?_⟩
  · rw [hcalm.group, enterGroup_group]
    show { y.group with state := .poised } = _
    rw [hy.group]
  · rw [hcalm.sync, enterGroup_sync]
    show { y.sync with ref := 0, speed := 0, dir := .none } = _
    rw [hy.sync]
  · rw [enterGroup_plan]
    exact hy.plan
  · have hs : (clearReference y).group.state = .engaging := hstate
    have hc : (clearReference y).group.cycle = s.group.cycle + 1 := by
      show y.group.cycle = _
      rw [hy.group]
    rw [hs, hc] at htold
    exact htold

theorem Poised.tripDetections (h : Poised s u z) : tripDetections (formErrors z) =
    (Sta.all.filter (fun k => ((s.jack k).judgedEngaging s.group.params).state = .engaged ∧
      100 * s.group.params.tripBand <
        (errorFor 0 (s.jack k).liveHeight ((s.jack k).judgedEngaging s.group.params)).natAbs)).map (fun k =>
      { kind := .syncTrip, subject := .station k }) := by
  have hparams : z.group.params = s.group.params := by rw [h.group]
  have href : z.sync.ref = 0 := by rw [h.sync]
  have hstate : z.group.state = .poised := by rw [h.group]
  unfold Machine.tripDetections
  rw [formErrors_group, hstate, if_pos (show tripChecked .poised = true from rfl)]
  refine congrArg _ (List.filter_congr fun k _ => ?_)
  unfold trips Jack.isIn
  rw [formErrors_jack]
  show ((z.jack k).record.state == .engaged && decide (100 * z.group.params.tripBand < (errorOf z.sync.ref (z.jack k)).natAbs)) = _
  rw [h.judged.err, hparams, href, h.judged.record, Bool.decide_and]
  rfl

/-- A cycle start that leaves the group POISED, every station within the trip band. -/
theorem search_ends (hslot : s.group.slot = none) (hp : s.group.permit = true) (h : Poised s u (blockWork (begun s)))
    (hband : ∀ k, ((s.jack k).judgedEngaging s.group.params).state = .engaged →
      (errorFor 0 (s.jack k).liveHeight ((s.jack k).judgedEngaging s.group.params)).natAbs ≤ 100 * s.group.params.tripBand) :
    (cycleWork s).group = { s.group with cycle := s.group.cycle + 1, waitCount := 0, state := .poised } ∧
      (cycleWork s).sync = { u.sync with ref := 0, speed := 0, dir := .none, waiting := false } ∧ (cycleWork s).plan = u.plan ∧
      ∀ k, ((cycleWork s).jack k).record = (s.jack k).judgedEngaging s.group.params ∧
        ((cycleWork s).jack k).err = errorFor 0 (s.jack k).liveHeight ((s.jack k).judgedEngaging s.group.params) ∧
        if ((s.jack k).judgedEngaging s.group.params).state = .engaged then
          Receives s (cycleWork s) k (rateOf s.group.params .none 0 { s.jack k with
            err := errorFor 0 (s.jack k).liveHeight ((s.jack k).judgedEngaging s.group.params) })
        else ((cycleWork s).jack k).rate = (if (s.jack k).searches then engagingRate s.group.params (s.jack k) else 0) ∧
          ∃ a, ((cycleWork s).jack k).gen = { (if (s.jack k).searches then
            (s.jack k).generatorOn (engagingRate s.group.params (s.jack k)) else { (s.jack k).gen with ceiling := false }) with
              brake := a } := by
  have htrips : tripDetections (formErrors (blockWork (begun s))) = [] := by
    rw [h.tripDetections, List.map_eq_nil_iff, List.filter_eq_nil_iff]
    intro k _
    have := hband k
    simpa using this
  have hstate : (blockWork (begun s)).group.state = .poised := by rw [h.group]
  obtain ⟨h1, h2, h3, h4⟩ := cycleWork_poised hslot rfl hstate htrips
  generalize blockWork (begun s) = z at *
  have hheld : generatorsHeld z = false := by
    unfold generatorsHeld
    rw [h.group]
    show (!s.group.permit || _) = false
    rw [hp]
    rfl
  have href : z.sync.ref = 0 := by rw [h.sync]
  have hdir : z.sync.dir = .none := by rw [h.sync]
  have hparams : z.group.params = s.group.params := by rw [h.group]
  refine ⟨by rw [h1, h.group], by rw [h2, h.sync], h3.trans h.plan, fun k => ?_⟩
  obtain ⟨a, ha⟩ := h4 k
  have hset : (z.jack k).record.settings = (s.jack k).recordAtStart.settings := by
    rw [h.judged.record]
    exact Jack.judgedEngaging_settings
  rw [h.judged.err, href, hheld, hdir, hparams] at ha
  have hrec := h.judged.record k
  have hgen := h.judged.gen k
  have hrate := h.judged.rate k
  unfold Receives
  generalize (cycleWork s).jack k = w at *
  generalize z.jack k = q at *
  by_cases hk : q.record.state = .engaged
  · rw [if_pos hk] at ha
    rw [hrec] at hk
    obtain ⟨hsearch, hzero⟩ := Jack.judgedEngaging_engaged hk
    rw [if_pos hsearch, hzero] at hgen
    rw [if_pos hk, ha]
    have hr (e : Int) : rateOf s.group.params .none 0 { q with err := e } = rateOf s.group.params .none 0 { s.jack k with err := e } :=
      rateOf_congr _ _ _ rfl (by show q.record.settings.rMax = _; rw [hset]; rfl)
    refine ⟨hrec, rfl, hr _, ?_⟩
    · have hk : q.record.settings.kStep = (s.jack k).record.settings.kStep := by rw [hset]; rfl
      unfold Jack.handed
      simp only [Bool.false_eq_true, if_false]
      rw [hr, hgen, hk]
      exact ((s.jack k).generatorOn_again _).brake a
  · rw [if_neg hk] at ha
    rw [hrec] at hk
    rw [if_neg hk, ha]
    exact ⟨hrec, rfl, hrate, a, by show { q.gen with brake := a } = _; rw [hgen]⟩

end Sys2Proof.Machine

/-! PROOF. Stations that trip at the cycle start that leaves every one of them ENGAGED (O10). -/

namespace Sys2Proof.Machine

-- One theorem after another, as in the tests: a thread each for this many proofs would pass the memory limit.
set_option Elab.async false

variable {s t u w o y z b : State} {k i : Sta} {f : FaultKind} {x : Subject} {e : Event} {c : Byte} {n : Nat} {p : GroupParams} {j q : Jack}
  {strict early : Prop} {r a : StationRec}

/-! ### Trips taken one after another (R135) -/

/-- The group stands in a fault stop by a SYNC_TRIP. -/
def TripStops (t : State) : Prop := t.group.state = .stopping ∧ ∃ i, t.group.cause = .fault .syncTrip (.station i)

theorem tripStops_takeDetection (h : faultStops t = true ∨ TripStops t) (i : Sta) : TripStops (takeDetection .syncTrip (.station i) t) := by
  obtain ⟨⟨hs, -⟩, hg, -⟩ | ⟨-, ⟨h1, h2⟩, -⟩ | ⟨_, ⟨hf, -⟩, -⟩ := takeDetection_cases .syncTrip (.station i) t
  · obtain h | ⟨hst, i', hc⟩ := h
    · rw [hs] at h
      cases h
    · unfold TripStops
      rw [hg]
      unfold Group.listing
      split_ifs <;> exact ⟨hst, i', hc⟩
  · exact ⟨h1, i, h2⟩
  · cases hf

theorem tripStops_takeDetections {l : List Detection} (hl : ∀ d ∈ l, d.kind = .syncTrip ∧ ∃ i, d.subject = .station i)
    (h : TripStops t ∨ (faultStops t = true ∧ l ≠ [])) : TripStops (takeDetections l t) := by
  induction l generalizing t with
  | nil =>
    obtain h | ⟨-, h⟩ := h
    · exact h
    · exact absurd rfl h
  | cons d l ih =>
    obtain ⟨hk, i, hs⟩ := hl d List.mem_cons_self
    have hstep : takeDetections (d :: l) t = takeDetections l (takeDetection d.kind d.subject t) := rfl
    rw [hstep]
    refine ih (fun d hd => hl d (List.mem_cons_of_mem _ hd)) (.inl ?_)
    rw [hk, hs]
    exact tripStops_takeDetection (h.elim .inr fun h => .inl h.1) i

theorem tripDetections_kind {d : Detection} (hd : d ∈ tripDetections z) : d.kind = .syncTrip ∧ ∃ i, d.subject = .station i := by
  obtain ⟨-, i, -, rfl⟩ := mem_tripDetections.mp hd
  exact ⟨rfl, i, rfl⟩

/-! ### The record of a station that trips (R16) -/

/-- The record is the one FAULTED from `r` by `f`, but for its move. -/
def StationRec.FaultedFrom (r : StationRec) (f : FaultKind) (q : StationRec) : Prop := q = { r.toFaulted f with move := q.move }

theorem StationRec.FaultedFrom.state (h : r.FaultedFrom f a) : a.state = .faulted := by
  rw [h]
  rfl

theorem StationRec.stable_faultedFrom (r : StationRec) (f : FaultKind) : Stable (r.FaultedFrom f) := by
  intro a ha
  have hs := ha.state
  have hstop : a.moveByStop = a := by
    unfold StationRec.moveByStop
    rw [hs]
  have hmove (m : Option Move) : r.FaultedFrom f { a with move := m } := by
    unfold StationRec.FaultedFrom at *
    rw [ha]
  have hcut : r.FaultedFrom f a.cut := by
    unfold StationRec.cut
    split_ifs
    · have he : a.endMove = { a with move := none } := by
        unfold StationRec.endMove
        rw [hs]
        show ({ a with state := .faulted, move := none } : StationRec) = _
        rw [← hs]
      rw [he]
      exact hmove none
    · exact ha
  rw [hstop]
  exact ⟨ha, hcut, hmove, fun hn => absurd hs hn⟩

/-- The record of an ENGAGED station, or of one FAULTED by `f` from there. -/
def StationRec.EngagedOr (r : StationRec) (f : FaultKind) (q : StationRec) : Prop :=
  q = { r with move := q.move } ∨ r.FaultedFrom f q

theorem StationRec.stableFor_engagedOr (h : r.state = .engaged) (f : FaultKind) : StableFor f (r.EngagedOr f) := by
  rintro a (ha | ha)
  · have hs : a.state = .engaged := by
      rw [ha]
      exact h
    have hstop : a.moveByStop = a := by
      unfold StationRec.moveByStop
      rw [hs]
    have hmove (m : Option Move) : ({ a with move := m } : StationRec) = { r with move := m } := by
      rw [ha]
    have hcut : r.EngagedOr f a.cut := by
      unfold StationRec.cut
      split_ifs
      · have he : a.endMove = { a with move := none } := by
          unfold StationRec.endMove
          rw [hs]
          show ({ a with state := .engaged, move := none } : StationRec) = _
          rw [← hs]
        rw [he]
        exact .inl (hmove none)
      · exact .inl ha
    rw [hstop]
    refine ⟨.inl ha, hcut, fun m => .inl (hmove m), fun _ m => .inr ?_⟩
    rw [hmove]
    rfl
  · obtain ⟨h1, h2, h3, h4⟩ := (stable_faultedFrom r f).for f a ha
    exact ⟨.inr h1, .inr h2, fun m => .inr (h3 m), fun hn m => .inr (h4 hn m)⟩

theorem tripped_plan (z : State) : (tripped z).plan = z.plan := (takeDetections_plan _ _).trans (formErrors_plan z)

/-- The trips of a computation leave an ENGAGED station so, or FAULTED by SYNC_TRIP. -/
theorem tripped_engagedOr (h : r.state = .engaged) (hz : (z.jack k).record = r) : r.EngagedOr .syncTrip ((tripped z).jack k).record := by
  have hform : ((formErrors z).jack k).record = r := by
    rw [formErrors_jack]
    exact hz
  have hl : ∀ d ∈ tripDetections (formErrors z), d.kind = .syncTrip := fun d hd => (tripDetections_kind hd).1
  unfold tripped
  generalize tripDetections (formErrors z) = l at hl
  have hfirst : r.EngagedOr .syncTrip ((formErrors z).jack k).record := .inl (by rw [hform])
  generalize formErrors z = v at hfirst
  clear hform
  induction l generalizing v with
  | nil => exact hfirst
  | cons d l ih =>
    have hstep : takeDetections (d :: l) v = takeDetections l (takeDetection d.kind d.subject v) := rfl
    rw [hstep, hl d List.mem_cons_self]
    exact ih (fun d hd => hl d (List.mem_cons_of_mem _ hd)) _ <| record_takeDetection (StationRec.stableFor_engagedOr h .syncTrip) hfirst

/-! ### The end of a cycle start whose computation is forced (R119, R128) -/

/-- The computation forced, and no passage to STOPPED. -/
theorem cycleWork_forced (hslot : s.group.slot = none) (hz : blockWork (begun s) = z)
    (hf : forcedAtStart z = true ∨ tripDetections (formErrors z) ≠ []) (hl : z.group.state ≠ .landing) (he : forcedEarlier z = false) :
    (cycleWork s).group = { (tripped z).group with waitCount := 0, ratesForced := true } ∧
      (cycleWork s).sync = { (tripped z).sync with speed := 0, dir := .none, waiting := false } ∧
      (cycleWork s).plan = z.plan ∧ ∀ k, ((cycleWork s).jack k).record = ((tripped z).jack k).record := by
  obtain ⟨h1, h2, h3, h4⟩ := computation_forced_group hf
  rw [← computeCycle_of_not_landing hl] at h1 h2 h3 h4
  have hg := cycleWork_group hslot
  have hends := cycleWork_ends hslot
  have hj := cycleWork_jack hslot
  rw [hz] at hg hends hj
  rw [he, if_neg (by simp)] at hg
  obtain ⟨-, hy, hp, -⟩ := closed_same (stopTest (forcedEarlier z) (computeCycle z))
  rw [← hends, he] at hy hp
  have htest : stopTest false (computeCycle z) = computeCycle z := by
    obtain ⟨⟨-, h, -⟩, -⟩ | ⟨-, e⟩ := stopTest_cases false (computeCycle z)
    · cases h
    · exact e
  rw [htest] at hy hp
  refine ⟨hg.trans h1, hy.trans h2, hp.trans (h3.trans (tripped_plan z)), fun k => ?_⟩
  obtain ⟨b, hb⟩ := hj k
  have hk := h4 k
  generalize computeCycle z = m at hb hk
  rw [hb]
  show (m.jack k).record = _
  rw [hk, Jack.forcedToStop_record]

/-! ### The end of such a cycle start -/

/-- A cycle start that leaves every station ENGAGED, and one of them beyond the trip band. -/
theorem search_trips (hslot : s.group.slot = none) (he : s.group.state = .engaging) (h : Poised s u (blockWork (begun s)))
    (hk : ((s.jack k).judgedEngaging s.group.params).state = .engaged)
    (hband : 100 * s.group.params.tripBand <
      (errorFor 0 (s.jack k).liveHeight ((s.jack k).judgedEngaging s.group.params)).natAbs) :
    (cycleWork s).plan = u.plan ∧ (cycleWork s).group.state = .stopping ∧ ListedFor .syncTrip (.station k) s (cycleWork s) ∧
      (∃ i, (cycleWork s).group.cause = .fault .syncTrip (.station i) ∧
        Reported (.groupStop .syncTrip (.station i)) (s.group.cycle + 1) (cycleWork s)) ∧
      ((s.jack k).judgedEngaging s.group.params).FaultedFrom .syncTrip ((cycleWork s).jack k).record := by
  have hmem : { kind := .syncTrip, subject := .station k } ∈ tripDetections (formErrors (blockWork (begun s))) := by
    rw [h.tripDetections]
    exact List.mem_map.mpr ⟨k, List.mem_filter.mpr ⟨Sta.mem_all k, by simp [hk, hband]⟩, rfl⟩
  have hassigned : (s.jack k).assigned = true := by
    have : (s.jack k).record.state ≠ .unassigned := fun hu => by
      rw [Jack.judgedEngaging_unassigned.mpr hu] at hk
      cases hk
    simpa [Jack.assigned] using this
  have hstate : (blockWork (begun s)).group.state = .poised := by rw [h.group]
  have hbl : (begun s).group.state ≠ .landing := by
    rw [begun_group]
    show s.group.state ≠ .landing
    rw [he]
    simp
  obtain ⟨htc, i, htr, hi⟩ := mem_tripDetections.mp hmem
  cases hi
  obtain ⟨hacts, hlisted, -⟩ := (taken_trip hbl (by rw [hstate]; rfl) htr).ends hslot
  have hstruck := (taken_trip hbl (by rw [hstate]; rfl) htr).struck k rfl (by rw [begun_assigned]; exact hassigned)
  have hstops : faultStops s = true := (faultStops_iff s).mpr (.inl (by rw [he]; simp))
  have htrip : TripStops (tripped (blockWork (begun s))) := by
    refine tripStops_takeDetections (fun d hd => tripDetections_kind hd) (.inr ⟨?_, List.ne_nil_of_mem hmem⟩)
    rw [faultStops_iff, formErrors_group, hstate]
    exact .inl (by simp)
  have hor := tripped_engagedOr hk (h.judged.record k)
  have hend := cycleWork_forced hslot rfl (.inr (List.ne_nil_of_mem hmem)) (by rw [hstate]; simp)
    (forcedEarlier_eq_false (by rw [hstate]; simp))
  have hplan := h.plan
  generalize blockWork (begun s) = z at hstruck htrip hor hend hplan
  obtain ⟨hg, -, hp, hr⟩ := hend
  obtain ⟨hgs, i, hgc⟩ : TripStops (cycleWork s) := by
    unfold TripStops
    rw [hg]
    exact htrip
  refine ⟨hp.trans hplan, hgs, hlisted, ⟨i, hgc, ?_⟩, ?_⟩
  · obtain ⟨hl, -⟩ | ⟨-, ⟨f, x, h1, h2⟩, -⟩ := hacts.1 hstops
    · rw [hgs] at hl
      cases hl
    · rw [hgc] at h1
      cases h1
      exact h2
  · rw [hr]
    obtain h | h := hor
    · have hs : ((tripped z).jack k).record.state = ((s.jack k).judgedEngaging s.group.params).state := by
        rw [h]
      rw [hstruck, hk] at hs
      cases hs
    · exact h

end Sys2Proof.Machine

/-! PROOF. The judgements of a cycle start of which the lowest to find a fault stops the group (O10, O18). -/

namespace Sys2Proof.Machine

-- One theorem after another, as in the tests: a thread each for this many proofs would pass the memory limit.
set_option Elab.async false

variable {s t u w o y z b : State} {k i : Sta} {f : FaultKind} {x : Subject} {e : Event} {c : Byte} {n : Nat} {p : GroupParams} {j q : Jack}
  {strict early : Prop} {r a : StationRec} {J : Sta → State → State} {fault : Sta → Option FaultKind} {G : Bool → Sta → Jack → Jack}

/-! ### Judgements one after another (R141, log 37) -/

/-- The judgements of a contact sequencer: a station's fault is taken as a detection, and any other judgement acts on its own station
alone, while the group does not land. -/
structure Judges (J : Sta → State → State) (fault : Sta → Option FaultKind) (G : Bool → Sta → Jack → Jack) (p : GroupParams) (k : Sta) :
    Prop where
  kind : ∀ i f, fault i = some f → f ≠ .runaway
  finds : ∀ i t f, fault i = some f → J i t = takeDetection f (.station i) t
  quiet : ∀ i t, fault i = none → t.group.params = p →
    (t.group.state = .landing → (t.jack k).record.state = .releasing ∧ i ≠ k) → JudgedAlone i (G (generatorsHeld t) i) t (J i t)

/-- The group stands in the fault stop that station `k` began. -/
structure StoppedBy (f : FaultKind) (k : Sta) (p : GroupParams) (o t : State) : Prop where
  state : t.group.state = .stopping
  cause : t.group.cause = .fault f (.station k)
  params : t.group.params = p
  sync : t.sync = { o.sync with speed := 0, descent := false }
  plan : t.plan = o.plan

theorem StoppedBy.detection (h : StoppedBy f k p o t) {g : FaultKind} (hg : g ≠ .runaway) (i : Sta) :
    (StoppedBy f k p o (takeDetection g (.station i) t) ∧
      generatorsHeld (takeDetection g (.station i) t) = generatorsHeld t) ∧
      ∀ m, (takeDetection g (.station i) t).jack m = if m = i then (t.jack m).faultedBy g else t.jack m := by
  have hw : Works False False t (takeDetection g (.station i) t) := .takeDetection _ _ _
  obtain ⟨-, hgr, hy, hj⟩ | ⟨⟨hs, -⟩, -⟩ | ⟨_, ⟨hf, -⟩, -⟩ := takeDetection_cases g (.station i) t
  · have hlist : (t.group.listing g (.station i)).state = t.group.state ∧ (t.group.listing g (.station i)).cause = t.group.cause ∧
        (t.group.listing g (.station i)).permit = t.group.permit := by
      unfold Group.listing
      split_ifs <;> exact ⟨rfl, rfl, rfl⟩
    obtain ⟨h1, h2, h3⟩ := hlist
    refine ⟨⟨⟨?_, ?_, hw.params.trans h.params, hy.trans h.sync, (takeDetection_plan _ _ _).trans h.plan⟩, ?_⟩, fun m => hj m⟩
    · rw [hgr, h1, h.state]
    · rw [hgr, h2, h.cause]
    · unfold generatorsHeld
      rw [hgr, h1, h3]
  · rw [faultStops_of_fault h.state h.cause] at hs
    cases hs
  · exact absurd hf hg

/-- The stations below the first that finds a fault, judged without one. -/
theorem Judges.below (h : Judges J fault G p k) (hq : ∀ i, i < k → fault i = none) (hp : w.group.params = p)
    (hl : w.group.state = .landing → (w.jack k).record.state = .releasing) :
    (forList (stationsBelow k) J w).group = w.group ∧ (forList (stationsBelow k) J w).sync = w.sync ∧
      (forList (stationsBelow k) J w).plan = w.plan ∧
      ∀ i, (forList (stationsBelow k) J w).jack i = if i < k then G (generatorsHeld w) i (w.jack i) else w.jack i := by
  have hone (i : Sta) (hi : i ∈ stationsBelow k) (t : State)
      (ht : (t.group = w.group ∧ t.sync = w.sync ∧ t.plan = w.plan) ∧ t.jack k = w.jack k) :
      JudgedAlone i (G (generatorsHeld w) i) t (J i t) := by
    have hlt : i < k := mem_stationsBelow.mp hi
    rw [← generatorsHeld_congr ht.1.1]
    refine h.quiet i t (hq i hlt) (by rw [ht.1.1, hp]) fun hs => ⟨?_, ne_of_lt hlt⟩
    rw [ht.2]
    exact hl (by rwa [ht.1.1] at hs)
  have hkeep (i : Sta) (hi : i ∈ stationsBelow k) (t : State)
      (ht : (t.group = w.group ∧ t.sync = w.sync ∧ t.plan = w.plan) ∧ t.jack k = w.jack k) :
      ((J i t).group = w.group ∧ (J i t).sync = w.sync ∧ (J i t).plan = w.plan) ∧ (J i t).jack k = w.jack k := by
    obtain ⟨hj, h1, h2, h3⟩ := hone i hi t ht
    refine ⟨⟨h1.trans ht.1.1, h2.trans ht.1.2.1, h3.trans ht.1.2.2⟩, ?_⟩
    rw [hj, if_neg (ne_of_gt (mem_stationsBelow.mp hi)), ht.2]
  have hend := forList_keeps (P := fun t => (t.group = w.group ∧ t.sync = w.sync ∧ t.plan = w.plan) ∧ t.jack k = w.jack k)
    (l := stationsBelow k) (f := J) hkeep ⟨⟨rfl, rfl, rfl⟩, rfl⟩
  have hj := forList_jack (P := fun t => (t.group = w.group ∧ t.sync = w.sync ∧ t.plan = w.plan) ∧ t.jack k = w.jack k)
    (f := J) (g := G (generatorsHeld w)) (nodup_stationsBelow k) (fun i hi t ht => ⟨hkeep i hi t ht, (hone i hi t ht).jack⟩)
    ⟨⟨rfl, rfl, rfl⟩, rfl⟩
  refine ⟨hend.1.1, hend.1.2.1, hend.1.2.2, fun i => ?_⟩
  rw [hj]
  simp only [mem_stationsBelow]

/-- What the judgement of a station above makes of it, the fault stop under way. -/
def judgedInStop (fault : Sta → Option FaultKind) (G : Bool → Sta → Jack → Jack) (held : Bool) (i : Sta) (j : Jack) : Jack :=
  match fault i with
  | some f => j.faultedBy f
  | none => G held i j

theorem judgedInStop_of_none {held : Bool} (h : fault i = none) : judgedInStop fault G held i j = G held i j := by
  unfold judgedInStop
  rw [h]

theorem judgedInStop_of_some {held : Bool} (h : fault i = some f) : judgedInStop fault G held i j = j.faultedBy f := by
  unfold judgedInStop
  rw [h]

/-- The stations above it, judged in the fault stop. -/
theorem Judges.above (h : Judges J fault G p k) (hs : StoppedBy f k p o t) :
    StoppedBy f k p o (forList (stationsAbove k) J t) ∧ ∀ i, (forList (stationsAbove k) J t).jack i =
      if k < i then judgedInStop fault G (generatorsHeld t) i (t.jack i) else t.jack i := by
  have hone (i : Sta) (hi : i ∈ stationsAbove k) (y : State) (hy : StoppedBy f k p o y ∧ generatorsHeld y = generatorsHeld t) :
      (StoppedBy f k p o (J i y) ∧ generatorsHeld (J i y) = generatorsHeld t) ∧
        ∀ m, (J i y).jack m = if m = i then judgedInStop fault G (generatorsHeld t) i (y.jack m) else y.jack m := by
    unfold judgedInStop
    cases hf : fault i with
    | some g =>
      rw [h.finds i y g hf]
      obtain ⟨⟨h1, h2⟩, h3⟩ := hy.1.detection (h.kind i g hf) i
      exact ⟨⟨h1, h2.trans hy.2⟩, h3⟩
    | none =>
      have hq := h.quiet i y hf hy.1.params fun hl => by
        rw [hy.1.state] at hl
        cases hl
      rw [hy.2] at hq
      obtain ⟨hj, h1, h2, h3⟩ := hq
      refine ⟨⟨⟨by rw [h1, hy.1.state], by rw [h1, hy.1.cause], by rw [h1, hy.1.params], h2.trans hy.1.sync, h3.trans hy.1.plan⟩, ?_⟩, hj⟩
      rw [generatorsHeld_congr h1, hy.2]
  have hend := forList_keeps (P := fun y => StoppedBy f k p o y ∧ generatorsHeld y = generatorsHeld t) (l := stationsAbove k) (f := J)
    (fun i hi y hy => (hone i hi y hy).1) ⟨hs, rfl⟩
  have hj := forList_jack (P := fun y => StoppedBy f k p o y ∧ generatorsHeld y = generatorsHeld t) (f := J)
    (g := judgedInStop fault G (generatorsHeld t)) (nodup_stationsAbove k) hone ⟨hs, rfl⟩
  refine ⟨hend.1, fun i => ?_⟩
  rw [hj]
  simp only [mem_stationsAbove]

/-- All of them: the lowest that finds a fault begins the fault stop, which moves every station. -/
theorem Judges.first (h : Judges J fault G p k) (hf : fault k = some f) (hq : ∀ i, i < k → fault i = none) (hp : w.group.params = p)
    (hl : w.group.state = .landing → (w.jack k).record.state = .releasing) (hs : faultStops w = true) :
    StoppedBy f k p w (forStations J w) ∧
      ((forStations J w).jack k = ((w.jack k).faultedBy f).stopped) ∧
      (∀ i, i < k → (forStations J w).jack i = (G (generatorsHeld w) i (w.jack i)).stopped) ∧
      ∃ held, ∀ i, k < i → (forStations J w).jack i = judgedInStop fault G held i (w.jack i).stopped := by
  obtain ⟨h1, h2, h3, h4⟩ := h.below hq hp hl
  rw [forStations_split J k w, h.finds k _ f hf]
  generalize forList (stationsBelow k) J w = v at *
  have hsv : faultStops v = true := (faultStops_congr (by rw [h1]) (by rw [h1])).trans hs
  have hw : Works False False v (takeDetection f (.station k) v) := .takeDetection _ _ _
  obtain ⟨⟨hn, -⟩, -⟩ | ⟨-, ⟨hst, hc⟩, hy, hj⟩ | ⟨_, ⟨hr, -⟩, -⟩ := takeDetection_cases f (.station k) v
  · rw [hsv] at hn
    cases hn
  · have hstop : StoppedBy f k p w (takeDetection f (.station k) v) :=
      ⟨hst, hc, hw.params.trans (by rw [h1, hp]), by rw [hy, h2], (takeDetection_plan _ _ _).trans h3⟩
    have hk (i : Sta) : (v.jack i).struck f (.station k) i = if i = k then (v.jack i).faultedBy f else v.jack i := rfl
    obtain ⟨ha, hja⟩ := h.above hstop
    refine ⟨ha, ?_, fun i hi => ?_, generatorsHeld (takeDetection f (.station k) v), fun i hi => ?_⟩
    · rw [hja, if_neg (lt_irrefl k), hj, hk, if_pos rfl, h4, if_neg (lt_irrefl k)]
    · rw [hja, if_neg (lt_asymm hi), hj, hk, if_neg (ne_of_lt hi), h4, if_pos hi]
    · rw [hja, if_pos hi, hj, hk, if_neg (ne_of_gt hi), h4, if_neg (lt_asymm hi)]
  · exact absurd hr (h.kind k f hf)

/-! ### The heights past the checks -/

theorem blockWork_height (s : State) (k : Sta) : ((blockWork (begun s)).jack k).latchedHeight = (s.jack k).liveHeight := by
  have hw : Works False False (begun s) (blockWork (begun s)) := .blockWork _
  unfold Jack.latchedHeight
  rw [(hw.jacks k).pos, (hw.jacks k).settings, begun_openedWith]
  rfl

/-- The computation of such a cycle start finds every other station within the trip band. -/
theorem tripDetections_of_band (hb : ∀ i, (z.jack i).record.state = .engaged →
    (errorOf z.sync.ref (z.jack i)).natAbs ≤ 100 * z.group.params.tripBand) : tripDetections (formErrors z) = [] := by
  unfold tripDetections
  split_ifs
  · rw [List.map_eq_nil_iff, List.filter_eq_nil_iff]
    intro i _
    have := hb i
    unfold trips Jack.isIn
    rw [formErrors_jack]
    simp only [Bool.and_eq_true, beq_iff_eq, decide_eq_true_eq, not_and, not_lt]
    exact this
  · rfl

/-- A cycle start that its sequencer stopped: the group, the reference and the records at its end. -/
theorem cycleWork_stoppedBy (hslot : s.group.slot = none) (hz : blockWork (begun s) = z) (hs : s.group.state ≠ .stopping)
    (h : StoppedBy f k p o z)
    (hb : ∀ i, (z.jack i).record.state = .engaged → (errorOf z.sync.ref (z.jack i)).natAbs ≤ 100 * z.group.params.tripBand) :
    (cycleWork s).group.state = .stopping ∧ (cycleWork s).group.cause = .fault f (.station k) ∧
      (cycleWork s).sync = { o.sync with speed := 0, dir := .none, descent := false, waiting := false } ∧
      (cycleWork s).plan = o.plan ∧ ∀ i, ((cycleWork s).jack i).record = (z.jack i).record := by
  have hearly : forcedEarlier z = false := by
    rw [Bool.eq_false_iff]
    intro hf
    rw [← hz] at hf
    have := ((forcedEarlier_iff _).mp ((Works.blockWork (begun s) : Works True True _ _).forced trivial hf)).1
    rw [begun_group] at this
    exact hs this
  obtain ⟨h1, h2, h3, h4⟩ := cycleWork_forced hslot hz (.inl (forcedAtStart_of_fault h.state h.cause)) (by rw [h.state]; simp) hearly
  rw [tripped_of_none (tripDetections_of_band hb)] at h1 h2 h4
  refine ⟨?_, ?_, ?_, h3.trans h.plan, fun i => ?_⟩
  · rw [h1]
    exact h.state
  · rw [h1]
    exact h.cause
  · rw [h2, formErrors_sync, h.sync]
  · rw [h4, formErrors_jack]

end Sys2Proof.Machine

/-! PROOF. A cycle start of ENGAGING whose lowest fault stops the group (O10). -/

namespace Sys2Proof.Machine

-- One theorem after another, as in the tests: a thread each for this many proofs would pass the memory limit.
set_option Elab.async false

variable {s t u w o y z b : State} {k i : Sta} {f : FaultKind} {x : Subject} {e : Event} {c : Byte} {n : Nat} {p : GroupParams} {j q : Jack}
  {strict early : Prop} {r a : StationRec} {held : Bool}

/-! ### Records moved by the stop and faulted in it (R16, R105) -/

theorem Jack.moveStopped_move (j : Jack) : j.moveStopped.record =
    { j.record with move := j.record.move.map fun m => { m with done := true } } := by
  unfold Jack.moveStopped
  cases hm : j.record.move with
  | none =>
    show j.record = { j.record with move := none }
    rw [← hm]
  | some m =>
    simp only [Option.map_some]
    split_ifs with hd
    · have : ({ m with done := true } : Move) = m := by rw [← hd]
      rw [this, ← hm]
    · rfl

/-- The record of a station at rest that a fault finds in the stop. -/
def StationRec.faultedInStop (r : StationRec) (f : FaultKind) : StationRec :=
  { r.toFaulted f with move := r.move.map fun m => { m with underFault := false, done := true } }

theorem Jack.faultedBy_record (hu : j.record.state ≠ .unassigned) (hf : j.record.state ≠ .faulted) :
    (j.faultedBy f).record = j.record.faultedInStop f := by
  unfold Jack.faultedBy StationRec.faultedInStop
  rw [if_neg hu, if_neg hf]
  show j.moveStopped.record.toFaulted f = _
  rw [j.moveStopped_move]
  unfold StationRec.toFaulted
  rw [Option.map_map]
  rfl

theorem StationRec.faultedInStop_state : (r.faultedInStop f).state = .faulted := rfl

theorem StationRec.faultedFrom_faultedInStop : r.FaultedFrom f (r.faultedInStop f) := rfl

theorem Jack.stopped_record (j : Jack) : j.stopped.record = j.record.moveByStop := rfl

theorem StationRec.moveByStop_of_faulted (h : r.state = .faulted) : r.moveByStop = r := by
  unfold StationRec.moveByStop
  rw [h]

theorem StationRec.moveByStop_settings : r.moveByStop.settings = r.settings := by
  unfold StationRec.moveByStop
  split <;> rfl

/-- The record moved by a stop, as the statements write it. -/
theorem StationRec.moveByStop_eq (r : StationRec) : r.moveByStop =
    (if r.state = .seeking ∨ r.state = .confirming then
      { ({ r with start := none, attempts := 0, confirm := 0 } : StationRec) with state := .idle }
    else if r.state = .releasing then
      { ({ r with start := none, attempts := 0, confirm := 0 } : StationRec) with state := .engaged } else r) := by
  unfold StationRec.moveByStop
  cases hs : r.state <;> simp

/-! ### The judgements of ENGAGING -/

theorem engagingFault_ne_runaway (h : engagingFault p j = some f) : f ≠ .runaway := by
  unfold engagingFault at h
  split at h
  · split_ifs at h
    cases h
    simp
  · split_ifs at h
    cases h
    simp
  · cases h

/-- A station whose judgement gives a detection searches for contact. -/
theorem engagingFault_state (h : engagingFault p j = some f) : j.record.state = .seeking ∨ j.record.state = .confirming := by
  unfold engagingFault at h
  split at h
  · next hs => exact .inl hs
  · next hs => exact .inr hs
  · cases h

theorem judges_engaging (b : State) (k : Sta) : Judges (judgeEngaging b) (fun i => engagingFault b.group.params (b.jack i))
    (fun held i => engagingJack held b.group.params (b.jack i)) b.group.params k where
  kind := fun _ _ h => engagingFault_ne_runaway h
  finds := fun _ t _ h => judgeEngaging_fault h t
  quiet := fun _ _ h hp _ => judgeEngaging_quiet h hp

theorem engagingJack_record (h : (s.jack k).Watched q) :
    (engagingJack held p ((begun s).jack k) q).record = (s.jack k).judgedEngaging p := by
  obtain ⟨h1, -⟩ := engagingRecord_begun (p := p) h
  have hbs : ((begun s).jack k).record.state = (s.jack k).record.state := by rw [begun_record]; rfl
  have hqs : q.record.state = ((begun s).jack k).record.state := by
    rw [h.record, hbs]
    rfl
  by_cases hs : (s.jack k).searches
  · rw [engagingJack_of (by rw [hbs]; exact hs) hqs, h1]
    exact Jack.handed_record _ _ _
  · rw [Jack.judgedEngaging_of_unsearched hs, ← h.record]
    exact congrArg Jack.record (if_neg fun hn => hs (by have := hn.1; rwa [hbs] at this))

/-- A station judged after the stop has moved it keeps its record. -/
theorem engagingJack_stopped_record (h : q.record.state = j.record.state) :
    (engagingJack held p j q.stopped).record = q.record.moveByStop := by
  by_cases hs : q.stopped.record.state = j.record.state
  · unfold engagingJack
    split_ifs with hc
    · rw [Jack.handed_record]
      show engagingRecord p j q.stopped = _
      have hm : q.record.moveByStop.state = j.record.state := hs
      unfold engagingRecord
      split
      · next hj =>
        unfold StationRec.moveByStop at hm
        rw [h, hj] at hm
        cases hm
      · next hj =>
        unfold StationRec.moveByStop at hm
        rw [h, hj] at hm
        cases hm
      · rfl
    · rfl
  · rw [engagingJack_of_moved hs]
    rfl

/-! ### The end of the cycle start -/

/-- The record that the stop leaves of station `i`, the lowest station with a fault being `k`. -/
def leftEngaging (s : State) (k i : Sta) : StationRec :=
  (if i < k then (s.jack i).judgedEngaging s.group.params else (s.jack i).recordAtStart).moveByStop

theorem leftEngaging_settings : (leftEngaging s k i).settings = (s.jack i).recordAtStart.settings := by
  unfold leftEngaging
  rw [StationRec.moveByStop_settings]
  split_ifs
  · exact Jack.judgedEngaging_settings
  · rfl

/-- The records that the checks leave, station by station. -/
structure StoppedRecords (s : State) (f : FaultKind) (k : Sta) (left : Sta → StationRec) (fault : Sta → Option FaultKind) (z : State) :
    Prop where
  named : (s.jack k).recordAtStart.FaultedFrom f (z.jack k).record
  below : ∀ i, i < k → (z.jack i).record = left i
  kept : ∀ i, k < i → fault i = none → (z.jack i).record = left i
  found : ∀ i g, k < i → fault i = some g → (z.jack i).record = (left i).faultedInStop g

/-- A station that such a cycle start leaves ENGAGED has the record that the stop left. -/
theorem StoppedRecords.engaged {left : Sta → StationRec} {fault : Sta → Option FaultKind} (h : StoppedRecords s f k left fault z)
    (he : (z.jack i).record.state = .engaged) : i ≠ k ∧ (z.jack i).record = left i ∧ (k < i → fault i = none) := by
  obtain hlt | rfl | hgt := lt_trichotomy i k
  · exact ⟨ne_of_lt hlt, h.below i hlt, fun hk => absurd hk (lt_asymm hlt)⟩
  · rw [h.named.state] at he
    cases he
  · cases hf : fault i with
    | none => exact ⟨ne_of_gt hgt, h.kept i hgt hf, fun _ => rfl⟩
    | some g =>
      rw [h.found i g hgt hf, StationRec.faultedInStop_state] at he
      cases he

theorem checks_stopped (he : s.group.state = .engaging) (hund : Undetected s) (hg : ¬ ChecksGeometry s)
    (hf : engagingFault (begun s).group.params ((begun s).jack k) = some f)
    (hq : ∀ i, i < k → engagingFault (begun s).group.params ((begun s).jack i) = none) :
    StoppedBy f k s.group.params (begun s) (blockWork (begun s)) ∧
      StoppedRecords s f k (leftEngaging s k) (fun i => engagingFault (begun s).group.params ((begun s).jack i))
        (blockWork (begun s)) := by
  have hl : s.group.state ≠ .lockedOut := by
    rw [he]
    simp
  have hcw := calm_watchedWork hund hl
  have hwj := hcw.watchedJack hl
  have hbe : (begun s).group.state = .engaging := by rw [begun_group]; exact he
  have hbp : (begun s).group.params = s.group.params := by rw [begun_group]
  have hseq := Calm.afterSequenced_of_unchecked hg
  rw [sequenced_engaging hbe] at hseq
  have hwg : (watchedWork (begun s)).group = (begun s).group := hcw.group
  have hwy : (watchedWork (begun s)).sync = (begun s).sync := hcw.sync
  have hwp : (watchedWork (begun s)).plan = (begun s).plan := hcw.plan
  have hfirst := (judges_engaging (begun s) k).first (w := watchedWork (begun s)) hf hq (by rw [hwg]) (fun h => by
    rw [hwg, hbe] at h
    cases h) ((faultStops_iff _).mpr (.inl (by rw [hwg, hbe]; simp)))
  generalize watchedWork (begun s) = w at *
  generalize forStations (judgeEngaging (begun s)) w = y at *
  obtain ⟨hstop, hk, hbelow, hheld, habove⟩ := hfirst
  have hpoised : poisedTest y = y := by
    unfold poisedTest
    rw [if_neg]
    rw [hstop.state]
    simp
  rw [hpoised] at hseq
  have hcalm := (Calm.handOver y).trans hseq
  have hstate (i : Sta) : (w.jack i).record.state = (s.jack i).record.state ∧
      ((begun s).jack i).record.state = (s.jack i).record.state := by
    rw [(hwj i).record, begun_record]
    exact ⟨rfl, rfl⟩
  have hsearch {i : Sta} {g : FaultKind} (h : engagingFault (begun s).group.params ((begun s).jack i) = some g) :
      (w.jack i).record.state = .seeking ∨ (w.jack i).record.state = .confirming := by
    rw [(hstate i).1, ← (hstate i).2]
    exact engagingFault_state h
  refine ⟨⟨?_, ?_, ?_, ?_, ?_⟩, ?_, fun i hi => ?_, fun i hi hn => ?_, fun i g hi hn => ?_⟩
  · rw [hcalm.group, hstop.state]
  · rw [hcalm.group, hstop.cause]
  · rw [hcalm.group, hstop.params, hbp]
  · rw [hcalm.sync, hstop.sync, hwy]
  · rw [hcalm.plan, hstop.plan, hwp]
  · rw [hcalm.record, hk, Jack.stopped_record]
    have hr := Jack.faultedBy_record (f := f) (j := w.jack k) (by obtain h | h := hsearch hf <;> rw [h] <;> simp)
      (by obtain h | h := hsearch hf <;> rw [h] <;> simp)
    rw [hr, (hwj k).record, StationRec.moveByStop_of_faulted StationRec.faultedInStop_state]
    exact StationRec.faultedFrom_faultedInStop
  · rw [hcalm.record, hbelow i hi, Jack.stopped_record, engagingJack_record (hwj i), hbp]
    unfold leftEngaging
    rw [if_pos hi]
  · rw [hcalm.record, habove i hi, judgedInStop_of_none hn]
    unfold leftEngaging
    rw [if_neg (lt_asymm hi), engagingJack_stopped_record ((hstate i).1.trans (hstate i).2.symm), (hwj i).record]
  · rw [hcalm.record, habove i hi, judgedInStop_of_some hn]
    unfold leftEngaging
    rw [if_neg (lt_asymm hi)]
    have hidle : (w.jack i).stopped.record.state = .idle := by
      rw [Jack.stopped_record]
      unfold StationRec.moveByStop
      obtain h | h := hsearch hn <;> rw [h]
    rw [Jack.faultedBy_record (by rw [hidle]; simp) (by rw [hidle]; simp), Jack.stopped_record, (hwj i).record]

/-- The end of a cycle start whose checks leave such records, every other station within the trip band. -/
theorem StoppedRecords.ends {left : Sta → StationRec} {fault : Sta → Option FaultKind} (hr : s.pins.resetAsserted = false)
    (hu : exec .take s = .next u) (hslot : s.group.slot = none) (hs : s.group.state ≠ .stopping)
    (hrec : StoppedRecords s f k left fault (blockWork (begun s)))
    (hstop : StoppedBy f k s.group.params (begun s) (blockWork (begun s)))
    (hset : ∀ i, (left i).settings = (s.jack i).recordAtStart.settings)
    (hband : ∀ i c, i ≠ k → (k < i → fault i = none) → (left i).state = .engaged → (left i).contact = some c →
      (s.sync.ref + 100 * ((s.jack i).offsetAtStart - ((s.jack i).liveHeight - c))).natAbs ≤ 100 * s.group.params.tripBand) :
    (cycleWork s).group.state = .stopping ∧ (cycleWork s).group.cause = .fault f (.station k) ∧
      (cycleWork s).sync = { u.sync with speed := 0, dir := .none, descent := false, waiting := false } ∧
      StoppedRecords s f k left fault (cycleWork s) := by
  have hheight := blockWork_height s
  obtain ⟨hsync, -⟩ := begun_sync_plan hr hu
  have href : (begun s).sync.ref = s.sync.ref := (begun_ref s).1
  have hend := cycleWork_stoppedBy (z := blockWork (begun s)) hslot rfl hs hstop
  generalize blockWork (begun s) = z at *
  have hz : z.sync.ref = s.sync.ref := by
    rw [hstop.sync]
    exact href
  obtain ⟨h1, h2, h3, -, h5⟩ := hend fun i hi => by
    obtain ⟨hne, hl, hnone⟩ := hrec.engaged hi
    rw [hl] at hi
    have herr : errorOf z.sync.ref (z.jack i) = errorFor s.sync.ref (s.jack i).liveHeight (left i) := by
      rw [← hl, ← hz]
      unfold errorOf errorFor
      cases (z.jack i).record.contact with
      | none => rfl
      | some c => rw [hheight]
    rw [herr, hstop.params]
    unfold errorFor
    cases hc : (left i).contact with
    | none => exact Nat.zero_le _
    | some c =>
      show (s.sync.ref + 100 * ((left i).settings.offset - _)).natAbs ≤ _
      rw [hset]
      exact hband i c hne hnone hi hc
  refine ⟨h1, h2, by rw [h3, hsync], ?_, fun i hi => ?_, fun i hi hn => ?_, fun i g hi hn => ?_⟩
  · rw [h5]
    exact hrec.named
  · rw [h5]
    exact hrec.below i hi
  · rw [h5]
    exact hrec.kept i hi hn
  · rw [h5]
    exact hrec.found i g hi hn

/-- The search of the lowest station whose judgement gives a detection ends the engagement. -/
theorem search_stops (hr : s.pins.resetAsserted = false) (hu : exec .take s = .next u) (hslot : s.group.slot = none)
    (he : s.group.state = .engaging) (hund : Undetected s) (hg : ¬ ChecksGeometry s)
    (hf : engagingFault (begun s).group.params ((begun s).jack k) = some f)
    (hq : ∀ i, i < k → engagingFault (begun s).group.params ((begun s).jack i) = none)
    (hband : ∀ i c, i ≠ k → (leftEngaging s k i).state = .engaged → (leftEngaging s k i).contact = some c →
      (s.sync.ref + 100 * ((s.jack i).offsetAtStart - ((s.jack i).liveHeight - c))).natAbs ≤ 100 * s.group.params.tripBand) :
    (cycleWork s).group.state = .stopping ∧ (cycleWork s).group.cause = .fault f (.station k) ∧
      (cycleWork s).sync = { u.sync with speed := 0, dir := .none, descent := false, waiting := false } ∧
      StoppedRecords s f k (leftEngaging s k) (fun i => engagingFault (begun s).group.params ((begun s).jack i)) (cycleWork s) := by
  obtain ⟨hstop, hrec⟩ := checks_stopped he hund hg hf hq
  exact hrec.ends hr hu hslot (by rw [he]; simp) hstop (fun _ => leftEngaging_settings) fun i c hi _ => hband i c hi

end Sys2Proof.Machine

/-! PROOF. CYCLE_START moves a station that searches for contact on, back, into contact or into its fault, and the group to POISED (O10). -/

namespace Sys2Proof.Machine

-- One theorem after another, as in the tests: a thread each for this many proofs would pass the memory limit.
set_option Elab.async false

variable {s t u w o y z b : State} {k i : Sta} {f : FaultKind} {x : Subject} {e : Event} {c : Byte} {n : Nat} {p : GroupParams} {j q : Jack}

/-- The rate of a judgement, as the statement writes it. -/
theorem engagingRate_eq (p : GroupParams) (j : Jack) : engagingRate p j =
    ((if (j.record.state = .seeking ∧ contactSample j = false) ∨ (j.record.state = .confirming ∧ dropoutSample j = true) then
      min p.engageRate j.record.settings.rMax else 0 : Nat) : Int) := by
  have hd : (contactSample j = false ∧ dropoutSample j = true) ↔ dropoutSample j = true :=
    ⟨And.right, fun h => ⟨contactSample_of_dropout h, h⟩⟩
  unfold engagingRate seekRate
  simp only [hd]
  split_ifs <;> rfl

/-- A station that is not judged stands as it was found, or is not assigned, where all the others are ENGAGED. -/
theorem AllEngaged.unassigned (h : AllEngaged s) (hk : ((s.jack k).judgedEngaging s.group.params).state ≠ .engaged) :
    (s.jack k).assigned = false ∧ ¬ (s.jack k).searches := by
  have ha : (s.jack k).assigned = false := by
    rw [← Bool.not_eq_true]
    exact fun ha => hk (h k ha)
  refine ⟨ha, fun hs => ?_⟩
  have hu : (s.jack k).record.state = .unassigned := by simpa [Jack.assigned] using ha
  unfold Jack.searches at hs
  rw [hu] at hs
  simp at hs

/-- Where a station still searches: what a station receives. -/
theorem receives_of_judged {v : Int} {a : Brake} (hw : w.jack k = { q with err := v, gen := { q.gen with brake := a } })
    (hrate : q.rate = (if (s.jack k).searches then engagingRate s.group.params (s.jack k) else 0))
    (hgen : q.gen = if (s.jack k).searches then (s.jack k).generatorOn (engagingRate s.group.params (s.jack k))
      else { (s.jack k).gen with ceiling := false }) :
    if (s.jack k).searches then Receives s w k (engagingRate s.group.params (s.jack k)) else ReceivesNothing s w k := by
  by_cases h : (s.jack k).searches
  · rw [if_pos h] at hrate hgen ⊢
    refine ⟨by rw [hw]; exact hrate, ?_⟩
    rw [hw]
    show Generator.Handed _ _ _ { q.gen with brake := a }
    rw [hgen]
    exact ((s.jack k).generatorOn_handed _).brake a
  · rw [if_neg h] at hrate hgen ⊢
    refine ⟨by rw [hw]; exact hrate, ?_⟩
    rw [hw]
    show { q.gen with brake := a } = _
    rw [hgen]

theorem ListedFor.isListed (h : ListedFor f x s t) : Listed f x t := by
  refine h.listed.imp (fun ha => ?_) id
  obtain ⟨e, he, hx⟩ := List.any_eq_true.mp ha
  exact ⟨e, he, by simpa using hx⟩

/-- The record FAULTED from a station on the lift, as the statements write it. -/
theorem StationRec.FaultedFrom.of_engaged {r a : StationRec} (h : r.FaultedFrom f a) (hr : priorOf r.state = .engaged) : a = { r with
    state := .faulted, faultKind := some f, prior := some .engaged, start := none, attempts := 0, confirm := 0, move := a.move } := by
  unfold FaultedFrom toFaulted at h
  rw [hr, if_pos rfl] at h
  exact h

/-- The record FAULTED from a station off the lift, as the statements write it. -/
theorem StationRec.FaultedFrom.of_idle {r a : StationRec} (h : r.FaultedFrom f a) (hr : priorOf r.state = .idle) : a = { r with
    state := .faulted, faultKind := some f, prior := some .idle, contact := none, start := none, attempts := 0, confirm := 0
    move := a.move } := by
  unfold FaultedFrom toFaulted at h
  rw [hr, if_neg (by simp)] at h
  exact h

/-- The error that a cycle start of ENGAGING forms, where it finds nothing. -/
def searchError (s : State) (ref : Int) (k : Sta) : Int :=
  errorFor ref (s.jack k).liveHeight ((s.jack k).judgedEngaging s.group.params)

/-- Every station within the trip band, the reference 0. -/
def SearchInBand (s : State) : Prop := ∀ k, (s.jack k).assigned = true → (searchError s 0 k).natAbs ≤ 100 * s.group.params.tripBand

/-- The quiet cycle start of ENGAGING: its records and errors, the trips, and its two ends. -/
theorem search_quiet (hr : s.pins.resetAsserted = false) (hu : exec .take s = .next u) (hslot : s.group.slot = none)
    (he : s.group.state = .engaging) (hp : s.group.permit = true) (hund : Undetected s) (hg : ¬ ChecksGeometry s)
    (hq : ∀ k, ¬ (s.jack k).tooFar s.group.params ∧ ¬ (s.jack k).unstable s.group.params) :
    (cycleWork s).plan = u.plan ∧
    ((AllEngaged s → SearchInBand s) → ∀ k, ((cycleWork s).jack k).record = (s.jack k).judgedEngaging s.group.params ∧
      ((cycleWork s).jack k).err = searchError s (cycleWork s).sync.ref k) ∧
    (¬ AllEngaged s → (cycleWork s).group = { s.group with cycle := s.group.cycle + 1, waitCount := 0 } ∧
      (cycleWork s).sync = { u.sync with waiting := false } ∧
      ∀ k, if (s.jack k).searches then Receives s (cycleWork s) k (engagingRate s.group.params (s.jack k))
        else ReceivesNothing s (cycleWork s) k) ∧
    (AllEngaged s → SearchInBand s →
      (cycleWork s).group = { s.group with cycle := s.group.cycle + 1, waitCount := 0, state := .poised } ∧
      (cycleWork s).sync = { u.sync with ref := 0, speed := 0, dir := .none, waiting := false } ∧
      Reported (.state .engaging .poised) (s.group.cycle + 1) (cycleWork s) ∧
      ∀ k, if (s.jack k).assigned = true then
          Receives s (cycleWork s) k (rateOf s.group.params .none 0 { s.jack k with err := searchError s 0 k })
        else ReceivesNothing s (cycleWork s) k) := by
  have hy := searched_of_quiet hr hu hp he hund hq
  by_cases hall : AllEngaged s
  · obtain ⟨hpoised, htold⟩ := poised_of_allEngaged he hg hy hall
    by_cases hband : SearchInBand s
    · have hassigned {k : Sta} (h : ((s.jack k).judgedEngaging s.group.params).state = .engaged) : (s.jack k).assigned = true := by
        have : (s.jack k).record.state ≠ .unassigned := fun hu => by
          rw [Jack.judgedEngaging_unassigned.mpr hu] at h
          cases h
        simpa [Jack.assigned] using this
      obtain ⟨h1, h2, h3, h4⟩ := search_ends hslot hp hpoised fun k hk => hband k (hassigned hk)
      have hreported : Reported (.state .engaging .poised) (s.group.cycle + 1) (cycleWork s) :=
        reported_of_computed hslot ((Works.computeCycle _ : Works False False _ _).tells _ _ htold)
      have href : (cycleWork s).sync.ref = 0 := by rw [h2]
      refine ⟨h3, fun _ k => ⟨(h4 k).1, by rw [href]; exact (h4 k).2.1⟩, fun hn => absurd hall hn, fun _ _ => ⟨h1, h2, hreported, fun k => ?_⟩⟩
      obtain ⟨-, -, hk⟩ := h4 k
      by_cases hen : ((s.jack k).judgedEngaging s.group.params).state = .engaged
      · rw [if_pos (hassigned hen)]
        rwa [if_pos hen] at hk
      · obtain ⟨hn, hs⟩ := hall.unassigned hen
        rw [if_neg hen, if_neg hs, if_neg hs] at hk
        rw [hn, if_neg (by simp)]
        obtain ⟨hrate, a, ha⟩ := hk
        exact ⟨hrate, by rw [ha]⟩
    · obtain ⟨k, hk⟩ := not_forall.mp hband
      rw [Classical.not_imp, not_le] at hk
      obtain ⟨h1, -⟩ := search_trips hslot he hpoised (hall k hk.1) hk.2
      exact ⟨h1, fun h => absurd (h hall) hband, fun hn => absurd hall hn, fun _ h => absurd h hband⟩
  · obtain ⟨h1, h2, h3, h4⟩ := search_goes_on hslot he hg hy hall
    have href : (cycleWork s).sync.ref = u.sync.ref := by rw [h2]
    refine ⟨h3, fun _ k => ?_, fun _ => ⟨h1, h2, fun k => ?_⟩, fun h => absurd h hall⟩
    · obtain ⟨q, ⟨hrec, -⟩, a, ha⟩ := h4 k
      rw [href, ha]
      exact ⟨hrec, rfl⟩
    · obtain ⟨q, ⟨-, hrate, hgen⟩, a, ha⟩ := h4 k
      exact receives_of_judged ha hrate hgen

/-- The fault stop that such a station begins is reported. -/
theorem search_reports (hslot : s.group.slot = none) (he : s.group.state = .engaging)
    (hf : engagingFault (begun s).group.params ((begun s).jack k) = some f) (hs : (cycleWork s).group.state = .stopping)
    (hc : (cycleWork s).group.cause = .fault f (.station k)) :
    Reported (.groupStop f (.station k)) (s.group.cycle + 1) (cycleWork s) := by
  have hb : (begun s).group.state = .engaging := by rw [begun_group]; exact he
  have htaken : Taken f (.station k) (begun s) (blockWork (begun s)) :=
    ((taken_judged hb hf).trans (.judgedOn hb k)).trans (.afterSequenced _)
  obtain ⟨⟨hacts, -⟩, -⟩ := (htaken.trans (Works.tripped _)).ends hslot
  obtain ⟨hl, -⟩ | ⟨-, ⟨g, x, h1, h2⟩, -⟩ := hacts ((faultStops_iff s).mpr (.inl (by rw [he]; simp)))
  · rw [hs] at hl
    cases hl
  · rw [hc] at h1
    cases h1
    exact h2

/-- The record of a station at rest that a fault finds in the stop, as the statements write it. -/
theorem StationRec.faultedInStop_of_idle {r : StationRec} (hr : priorOf r.state = .idle) : r.faultedInStop f = { r with
    state := .faulted, faultKind := some f, prior := some .idle, contact := none, start := none, attempts := 0, confirm := 0
    move := r.move.map fun m => { m with underFault := false, done := true } } :=
  faultedFrom_faultedInStop.of_idle hr

/-- Settles O10: the station that becomes ENGAGED, the quiet cycle start by its three ends, and the one whose lowest fault stops the group. -/
theorem contactNeedsConfirmedSamples : Obligations.ContactNeedsConfirmedSamples := by
  refine ⟨fun k s t hr he hslot hk ht hen => ?_, fun s u hr he hslot hu => ?_⟩
  · cases (exec_cycleStart hr).symm.trans ht
    obtain ⟨⟨hc, hn⟩, h1, h2, h3⟩ := contact_confirmed hslot he hk hen
    unfold contactSample at hc
    rw [Bool.and_eq_true, decide_eq_true_eq] at hc
    refine ⟨hc.1, hc.2, fun hs => ?_, fun hs => ?_, h1, h2, h3⟩
    · obtain ⟨-, h⟩ | ⟨h, -⟩ := hn
      · exact h
      · rw [hs] at h
        cases h
    · obtain ⟨h, -⟩ | ⟨-, h⟩ := hn
      · rw [hs] at h
        cases h
      · exact h
  · intro p contact dropout tooFar unstable seek judged rate error allEngaged
    have hjudged (j : Jack) : judged j = j.judgedEngaging p := rfl
    have htooFar (j : Jack) : tooFar j = j.tooFar p := rfl
    have hunstable (j : Jack) : unstable j = j.unstable p := rfl
    have hrate (j : Jack) : (rate j : Int) = engagingRate p j := (engagingRate_eq p j).symm
    have herror (ref : Int) (j : Jack) : error ref j = errorFor ref j.liveHeight (j.judgedEngaging p) := by
      show (match (judged j).contact with | some c => ref + 100 * (j.offsetAtStart - (j.liveHeight - c)) | none => 0) = _
      unfold errorFor
      rw [Jack.judgedEngaging_settings, hjudged]
      cases (j.judgedEngaging p).contact <;> rfl
    have hall : allEngaged = AllEngaged s := rfl
    refine ⟨fun hp hund hg hq => ⟨cycleWork s, exec_cycleStart hr, ?_⟩, ?_⟩
    · obtain ⟨h1, h2, h3, h4⟩ := search_quiet hr hu hslot he hp hund hg hq
      have hin : (∀ k, (s.jack k).assigned = true → (error 0 (s.jack k)).natAbs ≤ 100 * p.tripBand) = SearchInBand s := by
        simp only [herror]
        rfl
      refine ⟨h1, fun hb => ?_, fun ha k hk hb => ?_, fun ha => ?_, fun ha hb => ?_⟩
      · rw [hin] at hb
        simp only [herror]
        exact h2 hb
      · rw [herror] at hb
        have hen := ha k hk
        rw [hjudged] at hen ⊢
        obtain ⟨-, g1, g2, g3, g4⟩ := search_trips hslot he
          (poised_of_allEngaged he hg (searched_of_quiet hr hu hp he hund hq) ha).1 hen hb
        exact ⟨g1, g2.isListed, g2.reported, g3, g4.of_engaged (by rw [hen]; rfl)⟩
      · obtain ⟨g1, g2, g3⟩ := h3 ha
        refine ⟨g1, g2, fun k => ?_⟩
        rw [hrate]
        exact g3 k
      · rw [hin] at hb
        simp only [herror]
        exact h4 ha hb
    · intro found moved left foundAfter
      have hfound (f : FaultKind) (k : Sta) : found f k ↔ engagingFault (begun s).group.params ((begun s).jack k) = some f :=
        (engagingFault_begun s k).symm
      have hleft (k i : Sta) : left k i = leftEngaging s k i := by
        unfold leftEngaging
        rw [StationRec.moveByStop_eq]
        rfl
      refine ⟨cycleWork s, exec_cycleStart hr, fun f k hf => ?_, fun f k hf hlow hp hund hg hband => ?_⟩
      · obtain ⟨h1, h2, h3⟩ := search_fails hslot he hf
        exact ⟨h1, h2.isListed, h2.reported, h3⟩
      · have hnone {i : Sta} (h : ¬ tooFar (s.jack i) ∧ ¬ unstable (s.jack i)) :
            engagingFault (begun s).group.params ((begun s).jack i) = none := by
          cases hg : engagingFault (begun s).group.params ((begun s).jack i) with
          | none => rfl
          | some g =>
            obtain ⟨-, hg⟩ | ⟨-, hg⟩ := (hfound g i).mpr hg
            · exact absurd hg h.1
            · exact absurd hg h.2
        have hprior {g : FaultKind} {i : Sta} (hg : found g i) : priorOf (s.jack i).recordAtStart.state = .idle ∧
            priorOf (s.jack i).recordAtStart.moveByStop.state = .idle := by
          have hs : (s.jack i).recordAtStart.state = .seeking ∨ (s.jack i).recordAtStart.state = .confirming :=
            Jack.tooFar_or_unstable_state (p := p) (j := s.jack i) (hg.imp And.right And.right)
          unfold StationRec.moveByStop
          obtain hs | hs := hs <;> rw [hs] <;> exact ⟨rfl, rfl⟩
        have hfk := (hfound f k).mp hf
        simp only [hleft] at hband ⊢
        obtain ⟨h1, h2, h3, hrec⟩ := search_stops hr hu hslot he hund hg hfk (fun i hi => hnone (hlow i hi)) hband
        refine ⟨h1, h2, h3, search_reports hslot he hfk h1 h2, hrec.named.of_idle (hprior hf).1, fun i hi => ⟨fun hn => ?_, fun g hg => ?_⟩⟩
        · obtain hlt | rfl | hgt := lt_trichotomy i k
          · exact hrec.below i hlt
          · exact absurd rfl hi
          · refine hrec.kept i hgt (hnone ⟨fun h => hn .noContact ⟨hgt, .inl ⟨rfl, h⟩⟩, fun h => hn .contactUnstable ⟨hgt, .inr ⟨rfl, h⟩⟩⟩)
        · rw [hrec.found i g hg.1 ((hfound g i).mp hg.2)]
          refine StationRec.faultedInStop_of_idle ?_
          unfold leftEngaging
          rw [if_neg (lt_asymm hg.1)]
          exact (hprior hg.2).2

end Sys2Proof.Machine

/-! PROOF. The judgement of one station in the release phase (O18). -/

namespace Sys2Proof.Machine

-- One theorem after another, as in the tests: a thread each for this many proofs would pass the memory limit.
set_option Elab.async false

variable {s t u w o y z b : State} {k i : Sta} {f : FaultKind} {x : Subject} {e : Event} {c : Byte} {n : Nat} {p : GroupParams} {j q : Jack}
  {strict early : Prop} {r a : StationRec} {held : Bool}

/-! ### What a judgement finds and makes of a station (R150 to R152) -/

/-- The sample confirms the release of a station found as `j`. -/
@[reducible] def Jack.confirms (p : GroupParams) (j : Jack) : Prop := releaseSample j = true ∧ p.confirmTarget ≤ j.record.confirm + 1

/-- The detection that the judgement of a station found as `j` gives. -/
def landingFault (p : GroupParams) (j : Jack) : Option FaultKind :=
  if j.record.state = .releasing ∧ clearing p j = false ∧ ¬ j.confirms p ∧ descentBeyond p j = true then some .noRelease else none

/-- A station whose release is confirmed (R152): released at once, or its clearance move ordered. -/
def Jack.confirmed (held : Bool) (p : GroupParams) (j : Jack) : Jack :=
  if clearanceSteps p j = 0 then (({ j with record := { j.record with confirm := j.record.confirm + 1 } } : Jack).handed held 0).released
  else { j with
    record := { j.record with confirm := j.record.confirm + 1 }
    rate := -(seekRate p j : Int)
    gen :=
      let g := { j.gen with ceiling := heldAtCeiling (seekRate p j) j.record.settings.kStep }
      if held then g else g.hand (.move (divisorOf (seekRate p j) j.record.settings.kStep) .down (clearanceSteps p j)) }

/-- A RELEASING station found as `j`, judged. -/
def Jack.lowered (held : Bool) (p : GroupParams) (j q : Jack) : Jack :=
  if clearing p j = true then { q with rate := -(seekRate p j : Int) }
  else if j.confirms p then q.confirmed held p
  else ({ q with record := { q.record with confirm := releaseCount j } } : Jack).handed held (-(seekRate p q : Int))

/-- A station as its judgement leaves it, where it gives no detection: judged where it still stands as found. -/
def landingJack (held : Bool) (p : GroupParams) (j q : Jack) : Jack :=
  match j.record.state with
  | .engaged => q.takenIntoRelease held p
  | .releasing => if q.record.state = .releasing then j.lowered held p q else q
  | _ => q

/-- Every assigned station is IDLE. -/
def AllIdle (s : State) : Prop := ∀ k, (s.jack k).record.state = .idle ∨ (s.jack k).record.state = .unassigned

/-- The group passes from LANDING to PREPARED, every assigned station IDLE. -/
structure Lands (s t : State) : Prop where
  found : s.group.state = .landing
  group : t.group = { s.group with state := .prepared }
  sync : t.sync = { s.sync with ref := 0, speed := 0, dir := .none }
  told : Told (.state .landing .prepared) s.group.cycle t
  idle : AllIdle t

/-- What one judgement without a detection leaves: its own station changed, and the group as it was, unless it lands with this station. -/
structure JudgedLanding (k : Sta) (g : Jack → Jack) (s t : State) : Prop where
  jack : ∀ i, t.jack i = if i = k then g (s.jack i) else s.jack i
  plan : t.plan = s.plan
  group : (t.group = s.group ∧ t.sync = s.sync ∧ (AllIdle t → s.group.state = .landing → AllIdle s)) ∨ Lands s t

theorem JudgedLanding.of_alone {g : Jack → Jack} (h : JudgedAlone k g s t)
    (hi : (g (s.jack k)).record.state = .idle ∨ (g (s.jack k)).record.state = .unassigned → g (s.jack k) = s.jack k) :
    JudgedLanding k g s t where
  jack := h.jack
  plan := h.plan
  group := .inl ⟨h.group, h.sync, fun ht _ i => by
    have hti := ht i
    rw [h.jack] at hti
    split_ifs at hti with hik
    · subst hik
      rwa [hi hti] at hti
    · exact hti⟩

/-- A judgement made only while the station stands as found. -/
theorem JudgedLanding.whileFound {g : Jack → Jack} {st : StationState} {f : State → State}
    (h : (s.jack k).record.state = st → JudgedLanding k g s (f s)) (hn : (s.jack k).record.state ≠ st → g (s.jack k) = s.jack k) :
    JudgedLanding k g s (whileFound k st f s) := by
  unfold Machine.whileFound
  split_ifs with hs
  · exact h (Jack.isIn_eq_true.mp hs)
  · have hg := hn (mt Jack.isIn_eq_true.mpr hs)
    exact .of_alone (.refl hg) fun _ => hg

theorem JudgedLanding.congr {g h : Jack → Jack} (hj : JudgedLanding k g s t) (hg : h (s.jack k) = g (s.jack k)) :
    JudgedLanding k h s t where
  jack := fun i => by
    rw [hj.jack]
    split_ifs with hi
    · rw [hi, hg]
    · rfl
  plan := hj.plan
  group := hj.group

theorem orderMove_jack (k : Sta) (rate : Nat) (dir : Dir) (n : Nat) (s : State) (i : Sta) : (orderMove k rate dir n s).jack i =
    if i = k then (let j := s.jack i
      { j with gen :=
        let g := { j.gen with ceiling := heldAtCeiling rate j.record.settings.kStep }
        if generatorsHeld s then g else g.hand (.move (divisorOf rate j.record.settings.kStep) dir n) }) else s.jack i := by
  unfold orderMove
  rw [updJack_jack]

/-! ### The ways of a judgement -/

theorem stationReleased_jack (k : Sta) (s : State) (i : Sta) :
    (stationReleased k s).jack i = if i = k then (s.jack i).released else s.jack i := by
  unfold stationReleased
  rw [raise_jack, updJack_jack]

/-- A release that completes with its confirmation. -/
theorem judgedLanding_finished (v : State) (hv : v.group = s.group ∧ v.sync = s.sync ∧ v.plan = s.plan) {g : Jack → Jack}
    (hj : ∀ i, v.jack i = if i = k then g (s.jack i) else s.jack i) :
    JudgedLanding k (fun q => (g q).released) s (finishRelease k v) := by
  obtain ⟨h1, h2, h3⟩ := hv
  have hx (i : Sta) : (stationReleased k v).jack i = if i = k then (g (s.jack i)).released else s.jack i := by
    rw [stationReleased_jack, hj]
    split_ifs <;> rfl
  have hg : (stationReleased k v).group = s.group ∧ (stationReleased k v).sync = s.sync ∧ (stationReleased k v).plan = s.plan :=
    ⟨h1, h2, h3⟩
  rw [finishRelease_eq]
  generalize stationReleased k v = x at hx hg
  obtain ⟨hg1, hg2, hg3⟩ := hg
  obtain ⟨⟨hl, hidle⟩, e⟩ | ⟨hn, e⟩ := landedCheck_cases x <;> rw [e]
  · refine ⟨fun i => by rw [enterGroup_jack, hx], (enterGroup_plan _ _).trans hg3, .inr ⟨?_, ?_, ?_, ?_, fun i => ?_⟩⟩
    · rw [← hg1]
      exact hl
    · rw [enterGroup_group, hg1]
    · rw [enterGroup_sync, hg2]
      rfl
    · have := told_enterGroup .prepared x
      rwa [hl, hg1] at this
    · rw [enterGroup_jack]
      exact (allIdle_iff x).mp hidle i
  · exact ⟨hx, hg3, .inl ⟨hg1, hg2, fun hi hl => absurd ⟨by rw [hg1]; exact hl, (allIdle_iff x).mpr hi⟩ hn⟩⟩

theorem judgedLanding_confirmed {t : State} (hst : (t.jack k).record.state = .releasing) :
    JudgedLanding k (Jack.confirmed (generatorsHeld t) t.group.params) t (confirmRelease k t) := by
  unfold confirmRelease
  simp only
  by_cases h0 : clearanceSteps t.group.params (t.jack k) = 0
  · rw [if_pos h0]
    refine JudgedLanding.congr (judgedLanding_finished (s := t)
      (handRate k 0 (t.updRec k (fun r => { r with confirm := r.confirm + 1 }))) ⟨rfl, rfl, rfl⟩ (g := fun q =>
      ({ q with record := { q.record with confirm := q.record.confirm + 1 } } : Jack).handed (generatorsHeld t) 0) fun i => ?_) ?_
    · rw [handRate_jack]
      by_cases hi : i = k
      · subst hi
        rw [if_pos rfl, if_pos rfl, updRec_jack_self]
        rfl
      · rw [if_neg hi, if_neg hi, updRec_jack_ne _ _ hi]
    · unfold Jack.confirmed
      rw [if_pos h0]
  · rw [if_neg h0]
    have hjack : Jack.confirmed (generatorsHeld t) t.group.params (t.jack k) = { t.jack k with
        record := { (t.jack k).record with confirm := (t.jack k).record.confirm + 1 }
        rate := -(seekRate t.group.params (t.jack k) : Int)
        gen :=
          let g := { (t.jack k).gen with ceiling := heldAtCeiling (seekRate t.group.params (t.jack k)) (t.jack k).record.settings.kStep }
          if generatorsHeld t then g else g.hand (.move (divisorOf (seekRate t.group.params (t.jack k))
            (t.jack k).record.settings.kStep) .down (clearanceSteps t.group.params (t.jack k))) } := if_neg h0
    refine .of_alone ⟨fun i => ?_, rfl, rfl, rfl⟩ fun hi => ?_
    · rw [orderMove_jack]
      by_cases hi : i = k
      · subst hi
        rw [if_pos rfl, if_pos rfl, hjack]
        unfold recordRate
        rw [updJack_jack_self, updRec_jack_self]
        rfl
      · rw [if_neg hi, if_neg hi]
        unfold recordRate
        rw [updJack_jack, if_neg hi, updRec_jack_ne _ _ hi]
    · rw [hjack] at hi
      have hi : (t.jack k).record.state = .idle ∨ (t.jack k).record.state = .unassigned := hi
      rw [hst] at hi
      simp at hi

theorem judgedLanding_releasing {t : State} (hs : (b.jack k).record.state = .releasing)
    (h : landingFault b.group.params (b.jack k) = none) (hp : t.group.params = b.group.params) :
    JudgedLanding k (landingJack (generatorsHeld t) b.group.params (b.jack k)) t (judgeReleasing b k t) := by
  have hn (hq : (t.jack k).record.state ≠ .releasing) :
      landingJack (generatorsHeld t) b.group.params (b.jack k) (t.jack k) = t.jack k := by
    unfold landingJack
    rw [hs]
    exact if_neg hq
  have hq (hq : (t.jack k).record.state = .releasing) : landingJack (generatorsHeld t) b.group.params (b.jack k) (t.jack k) =
      (b.jack k).lowered (generatorsHeld t) b.group.params (t.jack k) := by
    unfold landingJack
    rw [hs]
    exact if_pos hq
  have hnot (hst : (t.jack k).record.state = .releasing) {q : Jack} (hr : q.record.state = (t.jack k).record.state)
      (hi : q.record.state = .idle ∨ q.record.state = .unassigned) : False := by
    rw [hr, hst] at hi
    simp at hi
  unfold judgeReleasing
  simp only
  by_cases hc : clearing b.group.params (b.jack k) = true
  · rw [if_pos hc]
    refine .whileFound (fun hst => ?_) hn
    have hlow : landingJack (generatorsHeld t) b.group.params (b.jack k) (t.jack k) =
        { t.jack k with rate := -(seekRate b.group.params (b.jack k) : Int) } := (hq hst).trans (if_pos hc)
    refine .of_alone ⟨fun i => ?_, rfl, rfl, rfl⟩ fun hi => ?_
    · unfold recordRate
      rw [updJack_jack]
      split_ifs with hi
      · rw [hi, hlow]
      · rfl
    · rw [hlow] at hi
      exact (hnot hst rfl hi).elim
  · rw [if_neg hc]
    by_cases hcf : (b.jack k).confirms b.group.params
    · rw [if_pos (by rw [Bool.and_eq_true, decide_eq_true_eq]; exact hcf)]
      refine .whileFound (fun hst => ?_) hn
      have hlow := (hq hst).trans ((if_neg hc).trans (if_pos hcf))
      have hconf := judgedLanding_confirmed hst
      rw [hp] at hconf
      exact hconf.congr hlow
    · rw [if_neg (by rw [Bool.and_eq_true, decide_eq_true_eq]; exact hcf)]
      have hd : descentBeyond b.group.params (b.jack k) = false := by
        rw [Bool.eq_false_iff]
        intro hd
        unfold landingFault at h
        rw [if_pos ⟨hs, by simpa using hc, hcf, hd⟩] at h
        cases h
      rw [if_neg (by simp [hd])]
      refine .whileFound (fun hst => ?_) hn
      have hlow := (hq hst).trans ((if_neg hc).trans (if_neg hcf))
      refine .of_alone ⟨fun i => ?_, rfl, rfl, rfl⟩ fun hi => ?_
      · unfold lowerOn
        rw [handRate_jack]
        by_cases hi : i = k
        · subst hi
          rw [if_pos rfl, if_pos rfl, hlow, updRec_jack_self, hp]
          rfl
        · rw [if_neg hi, if_neg hi, updRec_jack_ne _ _ hi]
      · rw [hlow, Jack.handed_record] at hi
        have hi : (t.jack k).record.state = .idle ∨ (t.jack k).record.state = .unassigned := hi
        rw [hst] at hi
        simp at hi

theorem judgeLanding_quiet {t : State} (h : landingFault b.group.params (b.jack k) = none) (hp : t.group.params = b.group.params) :
    JudgedLanding k (landingJack (generatorsHeld t) b.group.params (b.jack k)) t (judgeLanding b k t) := by
  have hrest (hs : landingJack (generatorsHeld t) b.group.params (b.jack k) (t.jack k) = t.jack k) :
      JudgedLanding k (landingJack (generatorsHeld t) b.group.params (b.jack k)) t t := .of_alone (.refl hs) fun _ => hs
  unfold judgeLanding
  split
  · next hs => exact judgedLanding_releasing hs h hp
  · next hs =>
    have hj (q : Jack) : landingJack (generatorsHeld t) b.group.params (b.jack k) q =
        q.takenIntoRelease (generatorsHeld t) b.group.params := by
      unfold landingJack
      rw [hs]
    have hj := hj (t.jack k)
    refine .whileFound (fun hst => ?_) fun hst => ?_
    · have hlow : landingJack (generatorsHeld t) b.group.params (b.jack k) (t.jack k) = _ := hj.trans (if_pos hst)
      refine .of_alone ⟨fun i => ?_, rfl, rfl, rfl⟩ fun hi => ?_
      · rw [startRelease_jack]
        split_ifs with hi
        · rw [hi, hlow, hp]
        · rfl
      · rw [hlow, Jack.handed_record] at hi
        simp [StationRec.toReleasing] at hi
    · exact hj.trans (if_neg hst)
  all_goals
    next hs =>
      refine hrest ?_
      unfold landingJack
      rw [hs]

theorem judgeLanding_fault (h : landingFault b.group.params (b.jack k) = some f) (t : State) :
    judgeLanding b k t = takeDetection f (.station k) t := by
  unfold landingFault at h
  split_ifs at h with hc
  obtain ⟨hs, h1, h2, h3⟩ := hc
  cases h
  unfold judgeLanding
  rw [hs]
  unfold judgeReleasing
  simp only
  rw [if_neg (by simp [h1]), if_neg (by rw [Bool.and_eq_true, decide_eq_true_eq]; exact h2), if_pos h3]
  rfl

end Sys2Proof.Machine

/-! PROOF. A cycle start of the release phase that finds nothing: every station judged from its state (O18). -/

namespace Sys2Proof.Machine

-- One theorem after another, as in the tests: a thread each for this many proofs would pass the memory limit.
set_option Elab.async false

variable {s t u w o y z b : State} {k i : Sta} {f : FaultKind} {x : Subject} {e : Event} {c : Byte} {n : Nat} {p : GroupParams} {j q : Jack}
  {strict early : Prop} {r a : StationRec} {held : Bool}

/-! ### The judgements, one after another -/

/-- Once every assigned station is IDLE, a judgement without a detection has no work. -/
theorem judgeLanding_of_allIdle (h : landingFault b.group.params (b.jack k) = none) (hi : AllIdle t) : judgeLanding b k t = t := by
  have hnot {st : StationState} (hs : st = .engaged ∨ st = .releasing) (f : State → State) : whileFound k st f t = t := by
    unfold whileFound
    rw [if_neg]
    rw [Jack.isIn_eq_true]
    obtain h | h := hi k <;> rw [h] <;> obtain h | h := hs <;> rw [h] <;> simp
  unfold judgeLanding
  split
  · next hs =>
    unfold judgeReleasing
    simp only
    by_cases hc : clearing b.group.params (b.jack k) = true
    · rw [if_pos hc, hnot (.inr rfl)]
    · rw [if_neg hc]
      by_cases hcf : (b.jack k).confirms b.group.params
      · rw [if_pos (by rw [Bool.and_eq_true, decide_eq_true_eq]; exact hcf), hnot (.inr rfl)]
      · have hd : ¬ descentBeyond b.group.params (b.jack k) = true := fun hd => by
          unfold landingFault at h
          rw [if_pos ⟨hs, by simpa using hc, hcf, hd⟩] at h
          cases h
        rw [if_neg (by rw [Bool.and_eq_true, decide_eq_true_eq]; exact hcf), if_neg hd, hnot (.inr rfl)]
  · exact hnot (.inl rfl) _
  all_goals rfl

/-- The judgements so far have left the group as it was, or landed it. -/
def LandsOr (w t : State) : Prop :=
  (t.group = w.group ∧ t.sync = w.sync ∧ (AllIdle t → AllIdle w)) ∨ Lands w t

theorem LandsOr.params (h : LandsOr w t) : t.group.params = w.group.params := by
  obtain ⟨h, -⟩ | h := h
  · rw [h]
  · rw [h.group]

theorem LandsOr.unheld (h : LandsOr w t) (hp : w.group.permit = true) (hs : w.group.state = .landing) : generatorsHeld t = false := by
  unfold generatorsHeld
  obtain ⟨h, -⟩ | h := h
  · rw [h, hp, hs]
    rfl
  · rw [h.group]
    show (!w.group.permit || _) = false
    rw [hp]
    rfl

theorem LandsOr.step (h : LandsOr w t) (hs : w.group.state = .landing) (hq : landingFault b.group.params (b.jack k) = none)
    (hp : w.group.params = b.group.params) : LandsOr w (judgeLanding b k t) := by
  have hj := judgeLanding_quiet (t := t) hq (h.params.trans hp)
  obtain ⟨h1, h2, h3⟩ | hl := h
  · obtain ⟨g1, g2, g3⟩ | hl := hj.group
    · exact .inl ⟨g1.trans h1, g2.trans h2, fun hi => h3 (g3 hi (by rw [h1]; exact hs))⟩
    · refine .inr ⟨hs, by rw [hl.group, h1], by rw [hl.sync, h2], ?_, hl.idle⟩
      rw [← h1]
      exact hl.told
  · rw [judgeLanding_of_allIdle hq hl.idle]
    exact .inr hl

/-! ### The stations after the judgements -/

/-- A station as the checks before the sequencer leave it. -/
def Jack.atWatch (j : Jack) : Jack := { j with
  record := j.recordAtStart, pos := { j.pos with latched := j.pos.count }, gen := { j.gen with ceiling := false }, rate := 0 }

/-- A station found as `j` after its judgement, where nothing is found. -/
def Jack.landed (p : GroupParams) (j : Jack) : Jack := landingJack false p j j.atWatch

theorem landingJack_begun (s : State) (k : Sta) : landingJack held p ((begun s).jack k) q = landingJack held p (s.jack k) q := by
  rw [begun_openedWith]
  rfl

/-- Two stations with the same record, generator, rate and latched count. -/
structure Jack.Alike (j q : Jack) : Prop where
  record : q.record = j.record
  latched : q.pos.latched = j.pos.latched
  gen : q.gen = j.gen
  rate : q.rate = j.rate

theorem Jack.Watched.alike (h : j.Watched q) : j.atWatch.Alike q := ⟨h.record, h.latched, h.gen, h.rate⟩

theorem Jack.Alike.height (h : j.Alike q) : q.latchedHeight = j.latchedHeight := by
  unfold Jack.latchedHeight
  rw [h.record, h.latched]

theorem Jack.Alike.handed (h : j.Alike q) (v : Int) : (j.handed held v).Alike (q.handed held v) := by
  refine ⟨h.record, h.latched, ?_, rfl⟩
  unfold Jack.handed
  rw [h.record, h.gen]

theorem Jack.Alike.seekRate (h : j.Alike q) : Machine.seekRate p q = Machine.seekRate p j := by
  unfold Machine.seekRate
  rw [h.record]

theorem Jack.Alike.clearanceSteps (h : j.Alike q) : Machine.clearanceSteps p q = Machine.clearanceSteps p j := by
  unfold Machine.clearanceSteps
  rw [h.record]

theorem Jack.Alike.confirmed (h : j.Alike q) : (j.confirmed held p).Alike (q.confirmed held p) := by
  unfold Jack.confirmed
  rw [h.clearanceSteps]
  split_ifs
  · have hr : ({ q.record with confirm := q.record.confirm + 1 } : StationRec) = { j.record with confirm := j.record.confirm + 1 } := by
      rw [h.record]
    refine ⟨?_, h.latched, ?_, rfl⟩
    · unfold Jack.released Jack.handed
      rw [h.record]
    · unfold Jack.released Jack.handed
      rw [h.gen, h.record]
  · refine ⟨?_, h.latched, ?_, ?_⟩
    · rw [h.record]
    · simp only
      rw [h.seekRate, h.record, h.gen]
    · simp only
      rw [h.seekRate]
  · refine ⟨?_, h.latched, ?_, ?_⟩
    · rw [h.record]
    · simp only
      rw [h.seekRate, h.record, h.gen]
    · simp only
      rw [h.seekRate]

/-- A judgement makes like stations alike. -/
theorem Jack.Alike.landingJack {found : Jack} (h : j.Alike q) : (landingJack held p found j).Alike (landingJack held p found q) := by
  unfold Machine.landingJack
  split
  · unfold Jack.takenIntoRelease
    rw [h.record, h.height, h.seekRate]
    split_ifs
    · exact Jack.Alike.handed (j := { j with record := j.record.toReleasing j.latchedHeight })
        (q := { q with record := j.record.toReleasing j.latchedHeight }) ⟨rfl, h.latched, h.gen, h.rate⟩ _
    · exact h
  · rw [h.record]
    split_ifs
    · unfold Jack.lowered
      split_ifs
      · exact ⟨h.record, h.latched, h.gen, rfl⟩
      · exact h.confirmed
      · rw [h.record, h.seekRate]
        exact Jack.Alike.handed (j := { j with record := { j.record with confirm := releaseCount found } })
          (q := { q with record := { j.record with confirm := releaseCount found } }) ⟨rfl, h.latched, h.gen, h.rate⟩ _
    · exact h
  · exact h

end Sys2Proof.Machine

/-! PROOF. What a quiet cycle start of the release phase leaves of every station and of the group (O18). -/

namespace Sys2Proof.Machine

-- One theorem after another, as in the tests: a thread each for this many proofs would pass the memory limit.
set_option Elab.async false

variable {s t u w o y z b : State} {k i : Sta} {f : FaultKind} {x : Subject} {e : Event} {c : Byte} {n : Nat} {p : GroupParams} {j q : Jack}
  {strict early : Prop} {r a : StationRec} {held : Bool}

/-- Every station after its judgement, where nothing is found. -/
def JudgedAtLanding (s y : State) : Prop := Judged s (fun k => ((s.jack k).landed s.group.params).record)
  (fun k => ((s.jack k).landed s.group.params).rate) (fun k => ((s.jack k).landed s.group.params).gen) y

theorem Jack.takenIntoRelease_settings : (j.takenIntoRelease held p).record.settings = j.record.settings := by
  unfold takenIntoRelease
  split_ifs
  · rw [Jack.handed_record]
    rfl
  · rfl

theorem Jack.confirmed_settings : (j.confirmed held p).record.settings = j.record.settings := by
  unfold confirmed
  split_ifs <;> rfl

theorem landingJack_settings : (landingJack held p j q).record.settings = q.record.settings := by
  unfold landingJack
  split
  · exact Jack.takenIntoRelease_settings
  · split_ifs
    · unfold Jack.lowered
      split_ifs
      · rfl
      · exact Jack.confirmed_settings
      · rw [Jack.handed_record]
    · rfl
  · rfl

theorem landingJack_latched : (landingJack held p j q).pos.latched = q.pos.latched := by
  unfold landingJack Jack.takenIntoRelease Jack.lowered Jack.confirmed
  split
  · split_ifs <;> rfl
  · split_ifs <;> rfl
  · rfl

/-- The judgements leave the group as it was, or land it. -/
structure Released (s u y : State) : Prop where
  group : y.group = { s.group with cycle := s.group.cycle + 1 }
  sync : y.sync = u.sync
  kept : AllIdle y → AllIdle s

/-- The group lands. -/
structure HasLanded (s u y : State) : Prop where
  group : y.group = { s.group with cycle := s.group.cycle + 1, state := .prepared }
  sync : y.sync = { u.sync with ref := 0, speed := 0, dir := .none }
  told : Told (.state .landing .prepared) (s.group.cycle + 1) y
  idle : AllIdle y

theorem sequenced_landing (h : b.group.state = .landing) (hd : b.sync.descent = false) :
    sequenced b = handOver (forStations (judgeLanding b) (watchedWork b)) := by
  unfold sequenced sequencerWork
  rw [h, hd]
  rfl

/-- Every station judged, one after another. -/
theorem released_of_quiet (hr : s.pins.resetAsserted = false) (hu : exec .take s = .next u) (hp : s.group.permit = true)
    (hs : s.group.state = .landing) (hund : Undetected s)
    (hq : ∀ k, landingFault (begun s).group.params ((begun s).jack k) = none) :
    JudgedAtLanding s (forStations (judgeLanding (begun s)) (watchedWork (begun s))) ∧
      (forStations (judgeLanding (begun s)) (watchedWork (begun s))).plan = u.plan ∧
      (Released s u (forStations (judgeLanding (begun s)) (watchedWork (begun s))) ∨
        HasLanded s u (forStations (judgeLanding (begun s)) (watchedWork (begun s)))) := by
  have hl : s.group.state ≠ .lockedOut := by
    rw [hs]
    simp
  obtain ⟨hsync, hplan⟩ := begun_sync_plan hr hu
  have hw := calm_watchedWork hund hl
  have hwj := hw.watchedJack hl
  have hwg : (watchedWork (begun s)).group = (begun s).group := hw.group
  have hwy : (watchedWork (begun s)).sync = (begun s).sync := hw.sync
  have hwp : (watchedWork (begun s)).plan = (begun s).plan := hw.plan
  generalize watchedWork (begun s) = w at *
  have hws : w.group.state = .landing := by
    rw [hwg, begun_group]
    exact hs
  have hwperm : w.group.permit = true := by
    rw [hwg, begun_group]
    exact hp
  have hparams : w.group.params = s.group.params := by rw [hwg, begun_group]
  have hstep (k : Sta) (t : State) (ht : LandsOr w t ∧ t.plan = w.plan) :
      (LandsOr w (judgeLanding (begun s) k t) ∧ (judgeLanding (begun s) k t).plan = w.plan) ∧
        ∀ i, (judgeLanding (begun s) k t).jack i =
          if i = k then landingJack false s.group.params (s.jack k) (t.jack i) else t.jack i := by
    have hj := judgeLanding_quiet (t := t) (hq k) (ht.1.params.trans (by rw [hwg]))
    refine ⟨⟨ht.1.step hws (hq k) (by rw [hwg]), hj.plan.trans ht.2⟩, fun i => ?_⟩
    rw [hj.jack, ht.1.unheld hwperm hws, ← hwg, hparams, landingJack_begun]
  have hend := forStations_keeps (P := fun t => LandsOr w t ∧ t.plan = w.plan) (f := judgeLanding (begun s))
    (fun k t ht => (hstep k t ht).1) ⟨.inl ⟨rfl, rfl, id⟩, rfl⟩
  have hjack (k : Sta) : (forStations (judgeLanding (begun s)) w).jack k = landingJack false s.group.params (s.jack k) (w.jack k) :=
    forStations_jack_of (P := fun t => LandsOr w t ∧ t.plan = w.plan) (g := fun k => landingJack false s.group.params (s.jack k))
      hstep ⟨.inl ⟨rfl, rfl, id⟩, rfl⟩ k
  generalize forStations (judgeLanding (begun s)) w = y at *
  have halike (k : Sta) : ((s.jack k).landed s.group.params).Alike (y.jack k) := by
    rw [hjack]
    exact (hwj k).alike.landingJack
  refine ⟨⟨fun k => (halike k).record, fun k => (halike k).rate, fun k => (halike k).gen, fun k => ?_⟩,
    hend.2.trans (hwp.trans hplan), ?_⟩
  · rw [← (hwj k).height, hjack]
    unfold Jack.latchedHeight
    rw [landingJack_settings, landingJack_latched]
  · obtain ⟨h1, h2, h3⟩ | h := hend.1
    · refine .inl ⟨h1.trans (hwg.trans (begun_group s)), h2.trans (hwy.trans hsync), fun hi k => ?_⟩
      have := h3 hi k
      rw [(hwj k).record] at this
      exact this
    · refine .inr ⟨?_, ?_, ?_, h.idle⟩
      · rw [h.group, hwg, begun_group]
      · rw [h.sync, hwy, hsync]
      · have := h.told
        rwa [hwg, begun_group] at this

end Sys2Proof.Machine

/-! PROOF. What a quiet cycle start of the release phase leaves of a station, way by way of its judgement (O18). -/

namespace Sys2Proof.Machine

-- One theorem after another, as in the tests: a thread each for this many proofs would pass the memory limit.
set_option Elab.async false

variable {s t u w o y z b : State} {k i : Sta} {f : FaultKind} {x : Subject} {e : Event} {c : Byte} {n : Nat} {p : GroupParams} {j q : Jack}
  {strict early : Prop} {r a : StationRec} {held : Bool}

/-! ### The ways of a judgement, as the statement names them (R150 to R152) -/

/-- A RELEASING station that does not clear. -/
@[reducible] def Jack.releases (p : GroupParams) (j : Jack) : Prop := j.record.state = .releasing ∧ j.record.confirm < p.confirmTarget

/-- A RELEASING station whose sample confirms its release. -/
@[reducible] def Jack.releaseConfirms (p : GroupParams) (j : Jack) : Prop :=
  j.releases p ∧ releaseSample j = true ∧ p.confirmTarget ≤ j.record.confirm + 1

/-- A RELEASING station too far below its start height. -/
def Jack.tooLow (p : GroupParams) (j : Jack) : Prop :=
  j.releases p ∧ ¬ j.releaseConfirms p ∧ ∃ h ∈ j.record.start, (p.window : Int) < h - j.liveHeight

/-- The record that the judgement leaves. -/
def Jack.judgedLanding (p : GroupParams) (j : Jack) : StationRec :=
  if j.record.state = .engaged then j.recordAtStart.toReleasing j.liveHeight
  else if j.releaseConfirms p then
    (if clearanceSteps p j = 0 then { j.recordAtStart with state := .idle, contact := none, start := none, confirm := 0 }
    else { j.recordAtStart with confirm := j.record.confirm + 1 })
  else if j.releases p then { j.recordAtStart with confirm := releaseCount j }
  else j.recordAtStart

theorem not_clearing_iff (h : j.record.state = .releasing) : ¬ clearing p j = true ↔ j.record.confirm < p.confirmTarget := by
  simp [clearing, Jack.isIn, h]

theorem Jack.landed_engaged (h : j.record.state = .engaged) : j.landed p =
    ({ j.atWatch with record := j.recordAtStart.toReleasing j.liveHeight } : Jack).handed false (-(seekRate p j : Int)) := by
  unfold landed landingJack
  rw [h]
  exact if_pos h

theorem Jack.landed_clearing (h : j.record.state = .releasing) (hc : p.confirmTarget ≤ j.record.confirm) :
    j.landed p = { j.atWatch with rate := -(seekRate p j : Int) } := by
  unfold landed landingJack
  rw [h]
  refine (if_pos h).trans (if_pos ?_)
  simp [clearing, Jack.isIn, h, hc]

theorem Jack.landed_confirms (h : j.releaseConfirms p) : j.landed p = j.atWatch.confirmed false p := by
  obtain ⟨⟨hs, hc⟩, hconf⟩ := h
  unfold landed landingJack
  rw [hs]
  exact (if_pos hs).trans ((if_neg ((not_clearing_iff hs).mpr hc)).trans (if_pos hconf))

theorem Jack.landed_lowered (h : j.releases p) (hn : ¬ j.releaseConfirms p) : j.landed p =
    ({ j.atWatch with record := { j.recordAtStart with confirm := releaseCount j } } : Jack).handed false (-(seekRate p j : Int)) := by
  obtain ⟨hs, hc⟩ := h
  unfold landed landingJack
  rw [hs]
  exact (if_pos hs).trans ((if_neg ((not_clearing_iff hs).mpr hc)).trans (if_neg fun hconf => hn ⟨⟨hs, hc⟩, hconf⟩))

theorem Jack.landed_other (h : j.record.state ≠ .engaged) (hr : j.record.state ≠ .releasing) : j.landed p = j.atWatch := by
  unfold landed landingJack
  split
  · next hs => exact absurd hs h
  · next hs => exact absurd hs hr
  · rfl

/-- A station whose release completes at its confirmation. -/
theorem Jack.confirmed_released (h : clearanceSteps p j = 0) :
    j.atWatch.confirmed false p =
      (({ j.atWatch with record := { j.recordAtStart with confirm := j.record.confirm + 1 } } : Jack).handed false 0).released :=
  if_pos h

/-- A station whose clearance move is ordered. -/
theorem Jack.confirmed_ordered (h : clearanceSteps p j ≠ 0) :
    j.atWatch.confirmed false p = { j.atWatch with
      record := { j.recordAtStart with confirm := j.record.confirm + 1 }
      rate := -(seekRate p j : Int)
      gen := ({ j.gen with ceiling := heldAtCeiling (seekRate p j) j.record.settings.kStep } : Generator).hand
        (.move (divisorOf (seekRate p j) j.record.settings.kStep) .down (clearanceSteps p j)) } := if_neg h

theorem Jack.landed_record (p : GroupParams) (j : Jack) : (j.landed p).record = j.judgedLanding p := by
  unfold judgedLanding
  by_cases he : j.record.state = .engaged
  · rw [if_pos he, Jack.landed_engaged he]
    exact Jack.handed_record _ _ _
  · rw [if_neg he]
    by_cases hc : j.releaseConfirms p
    · rw [if_pos hc, Jack.landed_confirms hc]
      by_cases h0 : clearanceSteps p j = 0
      · rw [if_pos h0, Jack.confirmed_released h0]
        rfl
      · rw [if_neg h0, Jack.confirmed_ordered h0]
    · rw [if_neg hc]
      by_cases hr : j.releases p
      · rw [if_pos hr, Jack.landed_lowered hr hc]
        exact Jack.handed_record _ _ _
      · rw [if_neg hr]
        by_cases hs : j.record.state = .releasing
        · rw [Jack.landed_clearing hs (by by_contra h; exact hr ⟨hs, by omega⟩)]
          rfl
        · rw [Jack.landed_other he hs]
          rfl

/-- The contact height is kept but by a release that completes. -/
theorem Jack.judgedLanding_contact (h : j.releaseConfirms p → 0 < clearanceSteps p j) :
    (j.judgedLanding p).contact = j.record.contact := by
  unfold judgedLanding
  split_ifs with h1 h2 h3
  · rfl
  · have := h h2
    omega
  · rfl
  · rfl
  · rfl

theorem Jack.judgedLanding_settings : (j.judgedLanding p).settings = j.recordAtStart.settings := by
  unfold judgedLanding
  split_ifs <;> rfl

theorem Jack.judgedLanding_unassigned : (j.judgedLanding p).state = .unassigned ↔ j.record.state = .unassigned := by
  unfold judgedLanding
  split_ifs with h1 h2 h3 h4
  · simp [StationRec.toReleasing, h1]
  · have := h2.1.1
    simp [this]
  · exact Iff.rfl
  · exact Iff.rfl
  · exact Iff.rfl

end Sys2Proof.Machine

/-! PROOF. The end of a cycle start of the release phase that finds nothing (O18). -/

namespace Sys2Proof.Machine

-- One theorem after another, as in the tests: a thread each for this many proofs would pass the memory limit.
set_option Elab.async false

variable {s t u w o y z b : State} {k i : Sta} {f : FaultKind} {x : Subject} {e : Event} {c : Byte} {n : Nat} {p : GroupParams} {j q : Jack}
  {strict early : Prop} {r a : StationRec} {held : Bool}

/-- Every assigned station stands IDLE once judged. -/
def AllReleased (s : State) : Prop :=
  ∀ k, (s.jack k).assigned = true → ((s.jack k).judgedLanding s.group.params).state = .idle

theorem JudgedAtLanding.allIdle_iff (h : JudgedAtLanding s y) : AllIdle y ↔ AllReleased s := by
  refine forall_congr' fun k => ?_
  rw [h.record, Jack.landed_record, Jack.judgedLanding_unassigned]
  unfold Jack.assigned
  simp only [bne_iff_ne, ne_eq]
  tauto

/-- The lifts of the stations after the judgements, where no release completes. -/
theorem JudgedAtLanding.lift (h : JudgedAtLanding s y)
    (hn : ∀ k, (s.jack k).releaseConfirms s.group.params → 0 < clearanceSteps s.group.params (s.jack k)) (k : Sta) :
    (y.jack k).lift = (s.jack k).liveLift := by
  unfold Jack.lift Jack.liveLift
  rw [h.height, h.record, Jack.landed_record, Jack.judgedLanding_contact (hn k)]

/-- The checks after the sequencer find nothing. -/
theorem calm_afterLanding (hs : s.group.state = .landing) (hd : s.sync.descent = false) (hund : Undetected s)
    (hlift : ChecksGeometry s → ∀ k, ((forStations (judgeLanding (begun s)) (watchedWork (begun s))).jack k).lift = (s.jack k).liveLift) :
    Calm (forStations (judgeLanding (begun s)) (watchedWork (begun s))) (blockWork (begun s)) := by
  have hcars := (sequenced_begun s).1
  have hseq := Calm.afterSequenced (o := begun s)
  rw [sequenced_landing (by rw [begun_group]; exact hs) ((begun_ref s).2.trans hd)] at hseq hcars
  generalize forStations (judgeLanding (begun s)) (watchedWork (begun s)) = y at *
  refine (Calm.handOver y).trans (hseq fun hr => ?_)
  have hck := (geometryRuns_begun s).mp hr
  refine geometryFree_of_kept (hund.2.2.1 hck) hcars fun k => ?_
  rw [handOver_jack]
  exact hlift hck k

/-- The end of such a cycle start, station by station. -/
structure LandingEnds (s t : State) (k : Sta) : Prop where
  record : (t.jack k).record = (s.jack k).judgedLanding s.group.params
  err : (t.jack k).err = errorFor t.sync.ref (s.jack k).liveHeight ((s.jack k).judgedLanding s.group.params)
  rate : (t.jack k).rate = ((s.jack k).landed s.group.params).rate
  gen : ∃ a, (t.jack k).gen = { ((s.jack k).landed s.group.params).gen with brake := a }

theorem landing_quiet (hr : s.pins.resetAsserted = false) (hu : exec .take s = .next u) (hslot : s.group.slot = none)
    (hp : s.group.permit = true) (hs : s.group.state = .landing) (hd : s.sync.descent = false) (hund : Undetected s)
    (hq : ∀ k, landingFault (begun s).group.params ((begun s).jack k) = none)
    (hn : ChecksGeometry s → ∀ k, (s.jack k).releaseConfirms s.group.params → 0 < clearanceSteps s.group.params (s.jack k)) :
    (cycleWork s).plan = u.plan ∧
    (¬ AllReleased s → (cycleWork s).group = { s.group with cycle := s.group.cycle + 1, waitCount := 0 } ∧
      (cycleWork s).sync = { u.sync with waiting := false }) ∧
    (AllReleased s → (∃ k, (s.jack k).releaseConfirms s.group.params) →
      (cycleWork s).group = { s.group with cycle := s.group.cycle + 1, waitCount := 0, state := .prepared } ∧
      (cycleWork s).sync = { u.sync with ref := 0, speed := 0, dir := .none, waiting := false } ∧
      Reported (.state .landing .prepared) (s.group.cycle + 1) (cycleWork s)) ∧
    ∀ k, LandingEnds s (cycleWork s) k := by
  obtain ⟨hj, hplan, hgroup⟩ := released_of_quiet hr hu hp hs hund hq
  have hcalm := calm_afterLanding hs hd hund fun hck => hj.lift (hn hck)
  have hdesc : u.sync.descent = false := by
    rw [← (begun_sync_plan hr hu).1]
    exact (begun_ref s).2.trans hd
  have htells : Tells (forStations (judgeLanding (begun s)) (watchedWork (begun s))) (blockWork (begun s)) := by
    have hw : Works False False (sequenced (begun s)) (blockWork (begun s)) := .afterSequenced _
    rw [sequenced_landing (by rw [begun_group]; exact hs) ((begun_ref s).2.trans hd)] at hw
    exact (Tells.handOver _).trans hw.tells
  have hreport {e : Event} {c : Byte} (h : Told e c (blockWork (begun s))) : Reported e c (cycleWork s) :=
    reported_of_computed hslot ((Works.computeCycle _ : Works False False _ _).tells _ _ h)
  generalize forStations (judgeLanding (begun s)) (watchedWork (begun s)) = y at *
  have hjz := hj.calm hcalm
  have hall : AllIdle y ↔ AllReleased s := hj.allIdle_iff
  have hrests : Rests (blockWork (begun s)) := by
    unfold Rests
    rw [hcalm.group, hcalm.sync]
    obtain h | h := hgroup
    · rw [h.group, h.sync]
      exact .inr (.inr ⟨hs, hdesc⟩)
    · rw [h.group]
      exact .inr (.inl rfl)
  obtain ⟨h1, h2, h3, h4⟩ := cycleWork_rests hslot rfl hrests
  generalize blockWork (begun s) = z at *
  refine ⟨h3.trans (hcalm.plan.trans hplan), fun hna => ?_, fun ha ⟨k, hk⟩ => ?_, fun k => ?_⟩
  · obtain h | h := hgroup
    · exact ⟨by rw [h1, hcalm.group, h.group], by rw [h2, hcalm.sync, h.sync]⟩
    · exact absurd (hall.mp h.idle) hna
  · obtain h | h := hgroup
    · have := h.kept (hall.mpr ha) k
      rw [hk.1.1] at this
      simp at this
    · exact ⟨by rw [h1, hcalm.group, h.group], by rw [h2, hcalm.sync, h.sync], hreport (htells _ _ h.told)⟩
  · obtain ⟨a, ha⟩ := h4 k
    have href : (cycleWork s).sync.ref = z.sync.ref := by rw [h2]
    refine ⟨?_, ?_, ?_, a, ?_⟩
    · rw [ha, ← Jack.landed_record]
      exact hjz.record k
    · rw [ha, href, ← Jack.landed_record]
      exact hjz.err _ k
    · rw [ha]
      exact hjz.rate k
    · rw [ha]
      show { (z.jack k).gen with brake := a } = _
      rw [hjz.gen k]

end Sys2Proof.Machine

/-! PROOF. RELEASED at a cycle start of the release phase, and the judgements of its stations apart from one (O18). -/

namespace Sys2Proof.Machine

-- One theorem after another, as in the tests: a thread each for this many proofs would pass the memory limit.
set_option Elab.async false

variable {s t u w o y z b : State} {k i : Sta} {f : FaultKind} {x : Subject} {e : Event} {c : Byte} {n : Nat} {p : GroupParams} {j q : Jack}
  {strict early : Prop} {r a : StationRec} {held : Bool}

/-! ### A release that completes with its confirmation (R152, R153) -/

theorem told_stationReleased (k : Sta) (v : State) :
    Told (.released k ((v.jack k).liveHeight - (v.jack k).record.contact.getD 0)) v.group.cycle (stationReleased k v) := told_raise _ _

/-- The judgement that confirms a release without a clearance move raises RELEASED. -/
theorem judgeLanding_releases {t : State} (h : (b.jack k).releaseConfirms b.group.params)
    (hs : (t.jack k).record.state = .releasing) (h0 : clearanceSteps t.group.params (t.jack k) = 0) :
    Told (.released k ((t.jack k).liveHeight - (t.jack k).record.contact.getD 0)) t.group.cycle (judgeLanding b k t) := by
  obtain ⟨⟨hst, hc⟩, hconf⟩ := h
  have hj : judgeLanding b k t = finishRelease k (handRate k 0 (t.updRec k (fun r => { r with confirm := r.confirm + 1 }))) := by
    unfold judgeLanding
    rw [hst]
    unfold judgeReleasing
    simp only
    rw [if_neg ((not_clearing_iff hst).mpr hc), if_pos (by rw [Bool.and_eq_true, decide_eq_true_eq]; exact hconf)]
    unfold whileFound
    rw [if_pos (Jack.isIn_eq_true.mpr hs)]
    unfold confirmRelease
    exact if_pos h0
  have hv : (handRate k 0 (t.updRec k (fun r => { r with confirm := r.confirm + 1 }))).jack k =
      ({ t.jack k with record := { (t.jack k).record with confirm := (t.jack k).record.confirm + 1 } } : Jack).handed
        (generatorsHeld t) 0 := by
    rw [handRate_jack, if_pos rfl, updRec_jack_self]
    rfl
  have htold := told_stationReleased k (handRate k 0 (t.updRec k (fun r => { r with confirm := r.confirm + 1 })))
  rw [hv] at htold
  rw [hj, finishRelease_eq]
  exact (Works.landedCheck _ : Works False False _ _).tells _ _ htold

/-- The judgements of other stations without a detection leave station `k` alone. -/
theorem landingList_jack {l : List Sta} (hl : k ∉ l) (hq : ∀ i ∈ l, landingFault b.group.params (b.jack i) = none)
    (hp : t.group.params = b.group.params) :
    (forList l (judgeLanding b) t).jack k = t.jack k ∧ (forList l (judgeLanding b) t).group.params = b.group.params := by
  refine forList_keeps (P := fun y => y.jack k = t.jack k ∧ y.group.params = b.group.params) (fun i hi y hy => ?_) ⟨rfl, hp⟩
  have hw : Works False False y (judgeLanding b i y) := .judgeLanding b i y
  refine ⟨?_, hw.params.trans hy.2⟩
  have hne : k ≠ i := fun h => hl (h ▸ hi)
  rw [(judgeLanding_quiet (hq i hi) hy.2).jack, if_neg hne, hy.1]

theorem release_reported (hslot : s.group.slot = none) (hs : s.group.state = .landing) (hd : s.sync.descent = false) (hund : Undetected s)
    (hq : ∀ k, landingFault (begun s).group.params ((begun s).jack k) = none)
    (hk : (s.jack k).releaseConfirms s.group.params) (h0 : clearanceSteps s.group.params (s.jack k) = 0) :
    Reported (.released k ((s.jack k).liveHeight - (s.jack k).record.contact.getD 0)) (s.group.cycle + 1) (cycleWork s) := by
  have hl : s.group.state ≠ .lockedOut := by
    rw [hs]
    simp
  have hbp : (begun s).group.params = s.group.params := by rw [begun_group]
  have hw := calm_watchedWork hund hl
  obtain ⟨hjk, hjp⟩ := landingList_jack (b := begun s) (t := watchedWork (begun s)) (k := k) (l := stationsBelow k)
    (by rw [mem_stationsBelow]; exact lt_irrefl k) (fun i _ => hq i) (by rw [hw.group]; rfl)
  have hwb : Works False False (watchedWork (begun s)) (forList (stationsBelow k) (judgeLanding (begun s)) (watchedWork (begun s))) :=
    .forList (fun i t => .judgeLanding _ i t) _
  have hcycle := hwb.cycle
  have hfound : ((begun s).jack k).releaseConfirms (begun s).group.params := by
    rw [hbp, begun_openedWith]
    exact hk
  have hrec := (hw.watchedJack hl k).record
  have hpos : ((watchedWork (begun s)).jack k).pos.count = (s.jack k).pos.count := by
    rw [hw.pos, cleared_jack, begun_latch]
  have hwc : (watchedWork (begun s)).group.cycle = s.group.cycle + 1 := by
    rw [hw.group]
    show (begun s).group.cycle = _
    rw [begun_group]
  have hsplit : forStations (judgeLanding (begun s)) (watchedWork (begun s)) = forList (stationsAbove k) (judgeLanding (begun s))
      (judgeLanding (begun s) k (forList (stationsBelow k) (judgeLanding (begun s)) (watchedWork (begun s)))) := forStations_split _ k _
  have hseq : Works False False (sequenced (begun s)) (blockWork (begun s)) := .afterSequenced _
  rw [sequenced_landing (by rw [begun_group]; exact hs) ((begun_ref s).2.trans hd), hsplit] at hseq
  have hcomp : Works False False (blockWork (begun s)) (computeCycle (blockWork (begun s))) := .computeCycle _
  refine reported_of_computed hslot (hcomp.tells _ _ (hseq.tells _ _ (Tells.handOver _ _ _
    ((Works.forList (strict := False) (early := False) (fun i t => .judgeLanding _ i t) _).tells _ _ ?_))))
  generalize forList (stationsBelow k) (judgeLanding (begun s)) (watchedWork (begun s)) = v at *
  generalize watchedWork (begun s) = w at *
  have hvs : (v.jack k).record.state = .releasing := by
    rw [hjk, hrec]
    exact hk.1.1
  have hv0 : clearanceSteps v.group.params (v.jack k) = 0 := by
    rw [hjp, hbp, hjk]
    unfold clearanceSteps at h0 ⊢
    rw [hrec]
    exact h0
  have htold := judgeLanding_releases hfound hvs hv0
  have hheight : (v.jack k).liveHeight = (s.jack k).liveHeight := by
    unfold Jack.liveHeight
    rw [hjk, hrec, hpos]
    rfl
  have hcontact : (v.jack k).record.contact = (s.jack k).record.contact := by
    rw [hjk, hrec]
    rfl
  rwa [hheight, hcontact, hcycle, hwc] at htold

end Sys2Proof.Machine

/-! PROOF. A descent beyond the window at a cycle start of the release phase (O18). -/

namespace Sys2Proof.Machine

-- One theorem after another, as in the tests: a thread each for this many proofs would pass the memory limit.
set_option Elab.async false

variable {s t u w o y z b : State} {k i : Sta} {f : FaultKind} {x : Subject} {e : Event} {c : Byte} {n : Nat} {p : GroupParams} {j q : Jack}
  {strict early : Prop} {r a : StationRec} {held : Bool}

/-! ### What the judgement finds (R151) -/

theorem landingFault_begun (s : State) (k : Sta) : landingFault (begun s).group.params ((begun s).jack k) = some f ↔
    f = .noRelease ∧ (s.jack k).tooLow s.group.params := by
  have hfall : descentBeyond s.group.params ((begun s).jack k) = true ↔
      ∃ h ∈ (s.jack k).record.start, (s.group.params.window : Int) < h - (s.jack k).liveHeight := by
    rw [begun_openedWith]
    show decide ((s.group.params.window : Int) < (s.jack k).record.start.getD (s.jack k).liveHeight - (s.jack k).liveHeight) = true ↔ _
    rw [decide_eq_true_eq]
    cases (s.jack k).record.start with
    | none =>
      simp only [Option.getD_none, Int.sub_self, Option.mem_def, reduceCtorEq, false_and, exists_false, iff_false, not_lt]
      exact Int.natCast_nonneg _
    | some h => simp
  have hsame : ((begun s).jack k).record.state = (s.jack k).record.state ∧
      clearing s.group.params ((begun s).jack k) = clearing s.group.params (s.jack k) ∧
      (((begun s).jack k).confirms s.group.params ↔ (s.jack k).confirms s.group.params) := by
    rw [begun_openedWith]
    exact ⟨rfl, rfl, Iff.rfl⟩
  obtain ⟨h1, h2, h3⟩ := hsame
  unfold landingFault Jack.tooLow
  rw [begun_group]
  simp only [h1, h2, h3, hfall, Option.ite_none_right_eq_some, Option.some.injEq]
  constructor
  · rintro ⟨⟨hs, hc, hn, hd⟩, rfl⟩
    have hc : (s.jack k).record.confirm < s.group.params.confirmTarget := (not_clearing_iff hs).mp (by rw [hc]; simp)
    exact ⟨rfl, ⟨hs, hc⟩, fun hconf => hn hconf.2, hd⟩
  · rintro ⟨rfl, ⟨hs, hc⟩, hn, hd⟩
    exact ⟨⟨hs, by simpa using (not_clearing_iff hs).mpr hc, fun hconf => hn ⟨⟨hs, hc⟩, hconf⟩, hd⟩, rfl⟩

theorem landingFault_eq_none (h : ¬ (s.jack k).tooLow s.group.params) :
    landingFault (begun s).group.params ((begun s).jack k) = none := by
  cases hf : landingFault (begun s).group.params ((begun s).jack k) with
  | none => rfl
  | some f => exact absurd ((landingFault_begun s k).mp hf).2 h

/-! ### A station that holds its contact height (R16, R105) -/

/-- A record on the lift, or FAULTED from there, with the contact height `c`. -/
def StationRec.OnLift (c : Option Int) (q : StationRec) : Prop := q.contact = c ∧
  (q.state = .releasing ∨ q.state = .engaged ∨ (q.state = .faulted ∧ q.prior = some .engaged))

theorem StationRec.stable_onLift (c : Option Int) : Stable (OnLift c) := by
  rintro q ⟨hc, hq⟩
  refine ⟨?_, ?_, fun m => ⟨hc, hq⟩, fun hf f m => ?_⟩
  · unfold StationRec.moveByStop
    obtain h | h | ⟨h, hp⟩ := hq <;> rw [h]
    · exact ⟨hc, .inr (.inl rfl)⟩
    · exact ⟨hc, .inr (.inl h)⟩
    · exact ⟨hc, .inr (.inr ⟨h, hp⟩)⟩
  · unfold StationRec.cut
    split_ifs
    · refine ⟨hc, ?_⟩
      unfold StationRec.endMove
      obtain h | h | ⟨h, hp⟩ := hq
      · exact .inl (by simp [h, moveEndState])
      · exact .inr (.inl (by simp [h, moveEndState]))
      · exact .inr (.inr ⟨by simp [h, moveEndState], hp⟩)
    · exact ⟨hc, hq⟩
  · have hprior : priorOf q.state = .engaged := by
      obtain h | h | ⟨h, -⟩ := hq
      · rw [h]
        rfl
      · rw [h]
        rfl
      · exact absurd h hf
    refine ⟨?_, .inr (.inr ⟨rfl, ?_⟩)⟩
    · show (if priorOf q.state = .engaged then q.contact else none) = c
      rw [if_pos hprior, hc]
    · show some (priorOf q.state) = _
      rw [hprior]

theorem StationRec.OnLift.not_idle {c : Option Int} (h : OnLift c r) : ¬ (r.state = .idle ∨ r.state = .unassigned) := by
  obtain ⟨-, h | h | ⟨h, -⟩⟩ := h <;> rw [h] <;> simp

/-! ### The judgements of the other stations -/

/-- The judgements of other stations move the record of station `k` by detections alone, and hand it nothing. -/
structure JudgedApart (k : Sta) (s t : State) : Prop where
  drifts : Drifts k s t
  rate : (t.jack k).rate = (s.jack k).rate
  params : t.group.params = s.group.params

theorem JudgedApart.trans (h : JudgedApart k s t) (g : JudgedApart k t u) : JudgedApart k s u :=
  ⟨h.drifts.trans g.drifts, g.rate.trans h.rate, g.params.trans h.params⟩

theorem judgedApart_judgeLanding (hi : i ≠ k) (hp : t.group.params = b.group.params) : JudgedApart k t (judgeLanding b i t) := by
  have hw : Works False False t (judgeLanding b i t) := .judgeLanding b i t
  refine ⟨?_, ?_, hw.params⟩
  · cases h : landingFault b.group.params (b.jack i) with
    | some f =>
      rw [judgeLanding_fault h]
      exact .detection _ _ t
    | none => exact .of_record (by rw [(judgeLanding_quiet h hp).jack, if_neg hi.symm])
  · cases h : landingFault b.group.params (b.jack i) with
    | some f => rw [judgeLanding_fault h, takeDetection_rate]
    | none => rw [(judgeLanding_quiet h hp).jack, if_neg hi.symm]

theorem judgedApart_list {l : List Sta} (hl : k ∉ l) (hp : t.group.params = b.group.params) :
    JudgedApart k t (forList l (judgeLanding b) t) :=
  forList_keeps (P := fun u => JudgedApart k t u) (fun _ hi _ hu =>
    hu.trans (judgedApart_judgeLanding (fun h => hl (h ▸ hi)) (hu.params.trans hp))) ⟨.refl t, rfl, rfl⟩

/-- The group does not land before a station on the lift is judged. -/
theorem alert_list {l : List Sta} {c : Option Int} (hl : k ∉ l) (hp : t.group.params = b.group.params) (ha : Alert o t)
    (hk : StationRec.OnLift c (t.jack k).record) : Alert o (forList l (judgeLanding b) t) := by
  refine (forList_keeps (P := fun u => JudgedApart k t u ∧ Alert o u) (fun i hi u hu => ?_) ⟨⟨.refl t, rfl, rfl⟩, ha⟩).2
  have hne : i ≠ k := fun h => hl (h ▸ hi)
  have hap := hu.1.trans (judgedApart_judgeLanding (b := b) hne (hu.1.params.trans hp))
  refine ⟨hap, ?_⟩
  cases h : landingFault b.group.params (b.jack i) with
  | some f =>
    rw [judgeLanding_fault h]
    exact (hu.2.detection _ _).alert
  | none =>
    obtain ⟨hg, -⟩ | hlands := (judgeLanding_quiet h (hu.1.params.trans hp)).group
    · exact hu.2.same hg
    · exact absurd (hlands.idle k) (hap.drifts _ (StationRec.stable_onLift c) hk).not_idle

/-! ### The fault to the end of the cycle start -/

theorem Jack.tooLow_assigned (h : j.tooLow p) : j.assigned = true := by
  have hs : j.record.state = .releasing := h.1.1
  unfold assigned
  rw [hs]
  rfl

theorem watchedWork_params (b : State) : (watchedWork b).group.params = b.group.params := (Works.watchedWork b : Works False False _ _).params

/-- The judgement of a station too far below its start height is taken, and hands it nothing. -/
theorem taken_tooLow (hs : s.group.state = .landing) (hd : s.sync.descent = false) (h : (s.jack k).tooLow s.group.params) :
    Taken .noRelease (.station k) (begun s) (blockWork (begun s)) ∧ Drifts k (begun s) (sequenced (begun s)) ∧
      ((blockWork (begun s)).jack k).rate = 0 := by
  have hf : landingFault (begun s).group.params ((begun s).jack k) = some .noRelease := (landingFault_begun s k).mpr ⟨rfl, h⟩
  have hlift : StationRec.OnLift (s.jack k).record.contact ((begun s).jack k).record := by
    rw [begun_record]
    exact ⟨rfl, .inl h.1.1⟩
  have hsplit : forStations (judgeLanding (begun s)) (watchedWork (begun s)) = forList (stationsAbove k) (judgeLanding (begun s))
      (judgeLanding (begun s) k (forList (stationsBelow k) (judgeLanding (begun s)) (watchedWork (begun s)))) := forStations_split _ k _
  rw [judgeLanding_fault hf] at hsplit
  have hbelow : k ∉ stationsBelow k := by
    rw [mem_stationsBelow]
    exact lt_irrefl k
  have habove : k ∉ stationsAbove k := by
    rw [mem_stationsAbove]
    exact lt_irrefl k
  have hapart := judgedApart_list (t := watchedWork (begun s)) hbelow (watchedWork_params _)
  have hw : Works True True (begun s) (forList (stationsBelow k) (judgeLanding (begun s)) (watchedWork (begun s))) :=
    (Works.watchedWork _).trans (.forList (fun i t => .judgeLanding _ i t) _)
  have halert := alert_list (k := k) hbelow (watchedWork_params _) (alert_watchedWork (begun s))
    (Drifts.watchedWork _ _ (StationRec.stable_onLift _) hlift)
  have hrate := hapart.rate.trans (watchedWork_rate _ k)
  have hdrifts := (Drifts.watchedWork (k := k) (begun s)).trans hapart.drifts
  have hseq := sequenced_landing (b := begun s) (by rw [begun_group]; exact hs) ((begun_ref s).2.trans hd)
  have hafter : Works True True (sequenced (begun s)) (blockWork (begun s)) := .afterSequenced _
  rw [afterSequenced_rate]
  rw [hseq, hsplit] at hafter ⊢
  generalize forList (stationsBelow k) (judgeLanding (begun s)) (watchedWork (begun s)) = v at *
  have hparams : (takeDetection .noRelease (.station k) v).group.params = (begun s).group.params :=
    (Works.takeDetection _ _ _ : Works False False _ _).params.trans hw.params
  have hover := judgedApart_list (t := takeDetection .noRelease (.station k) v) habove hparams
  refine ⟨(taken_takeDetection hw halert).trans (((Works.forList (fun i t => .judgeLanding _ i t) _).trans (.handOver _)).trans hafter),
    ((hdrifts.trans (.detection _ _ _)).trans hover.drifts).trans (.handOver _), ?_⟩
  rw [handOver_jack, hover.rate, takeDetection_rate, hrate]

/-- A station whose release ends in a fault: the group, the list, and the station at the end of the cycle start. -/
theorem release_fails (hslot : s.group.slot = none) (hs : s.group.state = .landing) (hd : s.sync.descent = false)
    (h : (s.jack k).tooLow s.group.params) :
    ((cycleWork s).group.state = .stopping ∨ (cycleWork s).group.state = .lockedOut) ∧
    ListedFor .noRelease (.station k) s (cycleWork s) ∧
    ((cycleWork s).jack k).record.state = .faulted ∧ ((cycleWork s).jack k).record.prior = some .engaged ∧
    ((cycleWork s).jack k).record.contact = (s.jack k).record.contact ∧ ((cycleWork s).jack k).rate = 0 := by
  obtain ⟨htaken, hdrifts, hrate⟩ := taken_tooLow hs hd h
  have hstops : faultStops s = true := (faultStops_iff s).mpr (.inl (by rw [hs]; simp))
  obtain ⟨hacts, hlisted, hfaulted, -⟩ := (htaken.trans (Works.tripped _)).ends hslot
  have hfk : ((cycleWork s).jack k).record.state = .faulted := hfaulted k rfl (Jack.tooLow_assigned h)
  have hland : (blockWork (begun s)).group.state ≠ .landing := by
    obtain hl | ⟨hl, -⟩ := htaken.alarmed (by rw [faultStops_begun]; exact hstops) <;> rw [hl] <;> simp
  have hends : StationRec.OnLift (s.jack k).record.contact ((cycleWork s).jack k).record := by
    refine (hdrifts.trans (drifts_cycleWork hslot (.inl hland))) _ (StationRec.stable_onLift _) ?_
    rw [begun_record]
    exact ⟨rfl, .inl h.1.1⟩
  obtain ⟨hcontact, hstate⟩ := hends
  refine ⟨?_, hlisted, hfk, ?_, hcontact, rate_of_taken hslot hstops hrate htaken ?_⟩
  · obtain hl | ⟨hstop | ⟨hst, -⟩, -⟩ := hacts.1 hstops
    · exact .inr hl.1
    · exact .inl hstop
    · rw [hs] at hst
      cases hst
  · obtain he | he | ⟨-, he⟩ := hstate
    · rw [hfk] at he
      cases he
    · rw [hfk] at he
      cases he
    · exact he
  · unfold forcedStation Jack.assigned Jack.isIn
    rw [hfk]
    rfl

end Sys2Proof.Machine

/-! PROOF. A cycle start of the release phase whose lowest fault stops the group (O18). -/

namespace Sys2Proof.Machine

-- One theorem after another, as in the tests: a thread each for this many proofs would pass the memory limit.
set_option Elab.async false

variable {s t u w o y z b : State} {k i : Sta} {f : FaultKind} {x : Subject} {e : Event} {c : Byte} {n : Nat} {p : GroupParams} {j q : Jack}
  {strict early : Prop} {r a : StationRec} {held : Bool}

/-! ### The judgements of LANDING -/

theorem landingFault_state (h : landingFault p j = some f) : f = .noRelease ∧ j.record.state = .releasing := by
  unfold landingFault at h
  split_ifs at h with hc
  cases h
  exact ⟨rfl, hc.1⟩

theorem judges_landing (b : State) (k : Sta) : Judges (judgeLanding b) (fun i => landingFault b.group.params (b.jack i))
    (fun held i => landingJack held b.group.params (b.jack i)) b.group.params k where
  kind := fun _ _ h => by
    rw [(landingFault_state h).1]
    simp
  finds := fun _ t _ h => judgeLanding_fault h t
  quiet := fun i t h hp hl => by
    have hj := judgeLanding_quiet h hp
    obtain ⟨h1, h2, -⟩ | hlands := hj.group
    · exact ⟨hj.jack, h1, h2, hj.plan⟩
    · obtain ⟨hk, hne⟩ := hl hlands.found
      have := hlands.idle k
      rw [hj.jack, if_neg hne.symm, hk] at this
      simp at this

/-- A station judged before the stop. -/
theorem landingJack_record (h : (s.jack k).Watched q) (hh : held = false) :
    (landingJack held p ((begun s).jack k) q).record = (s.jack k).judgedLanding p := by
  rw [landingJack_begun, hh, ← Jack.landed_record]
  exact h.alike.landingJack.record

/-- A station judged after the stop has moved it: an ENGAGED one is taken into RELEASING (log 36). -/
theorem landingJack_stopped_record (h : (s.jack k).Watched q) : (landingJack held p ((begun s).jack k) q.stopped).record =
    if (s.jack k).record.state = .engaged then (s.jack k).recordAtStart.toReleasing (s.jack k).liveHeight
    else (s.jack k).recordAtStart.moveByStop := by
  have hr : q.stopped.record = (s.jack k).recordAtStart.moveByStop := by rw [Jack.stopped_record, h.record]
  have hstate : (s.jack k).recordAtStart.state = (s.jack k).record.state := rfl
  rw [landingJack_begun]
  by_cases he : (s.jack k).record.state = .engaged
  · have hstop : (s.jack k).recordAtStart.moveByStop = (s.jack k).recordAtStart := by
      unfold StationRec.moveByStop
      rw [hstate, he]
    rw [hstop] at hr
    have hheight : q.stopped.latchedHeight = (s.jack k).liveHeight := by
      rw [← h.height]
      unfold Jack.latchedHeight
      rw [hr, h.record]
      rfl
    rw [if_pos he]
    unfold landingJack
    rw [he]
    unfold Jack.takenIntoRelease
    simp only
    rw [if_pos (by rw [hr]; exact he), Jack.handed_record, hr, hheight]
  · rw [if_neg he, ← hr]
    unfold landingJack
    split
    · next hs => exact absurd hs he
    · next hs =>
      rw [if_neg]
      rw [hr]
      unfold StationRec.moveByStop
      rw [hstate, hs]
      simp
    · rfl

/-! ### The records that the stop leaves -/

/-- The record that the stop leaves of station `i`, the lowest station with a fault being `k`. -/
def leftLanding (s : State) (k i : Sta) : StationRec :=
  if i < k then ((s.jack i).judgedLanding s.group.params).moveByStop
  else if (s.jack i).record.state = .engaged then (s.jack i).recordAtStart.toReleasing (s.jack i).liveHeight
  else (s.jack i).recordAtStart.moveByStop

theorem StationRec.moveByStop_contact : r.moveByStop.contact = r.contact := by
  unfold StationRec.moveByStop
  split <;> rfl

theorem leftLanding_settings : (leftLanding s k i).settings = (s.jack i).recordAtStart.settings := by
  unfold leftLanding
  split_ifs
  · rw [StationRec.moveByStop_settings, Jack.judgedLanding_settings]
  · rfl
  · rw [StationRec.moveByStop_settings]

theorem leftLanding_contact
    (hn : ∀ k, (s.jack k).releaseConfirms s.group.params → 0 < clearanceSteps s.group.params (s.jack k)) :
    (leftLanding s k i).contact = (s.jack i).record.contact := by
  unfold leftLanding
  split_ifs
  · rw [StationRec.moveByStop_contact, Jack.judgedLanding_contact (hn i)]
  · rfl
  · rw [StationRec.moveByStop_contact]
    rfl

/-- The judgements of such a cycle start. -/
theorem judgements_stopped (hp : s.group.permit = true) (hs : s.group.state = .landing) (hund : Undetected s)
    (hf : landingFault (begun s).group.params ((begun s).jack k) = some f)
    (hq : ∀ i, i < k → landingFault (begun s).group.params ((begun s).jack i) = none) :
    StoppedBy f k s.group.params (begun s) (forStations (judgeLanding (begun s)) (watchedWork (begun s))) ∧
      StoppedRecords s f k (leftLanding s k) (fun i => landingFault (begun s).group.params ((begun s).jack i))
        (forStations (judgeLanding (begun s)) (watchedWork (begun s))) := by
  have hl : s.group.state ≠ .lockedOut := by
    rw [hs]
    simp
  have hcw := calm_watchedWork hund hl
  have hwj := hcw.watchedJack hl
  have hbp : (begun s).group.params = s.group.params := by rw [begun_group]
  have hbs : (begun s).group.state = .landing := by rw [begun_group]; exact hs
  have hwg : (watchedWork (begun s)).group = (begun s).group := hcw.group
  have hwy : (watchedWork (begun s)).sync = (begun s).sync := hcw.sync
  have hwp : (watchedWork (begun s)).plan = (begun s).plan := hcw.plan
  have hstate (i : Sta) : ((watchedWork (begun s)).jack i).record.state = ((begun s).jack i).record.state := by
    rw [(hwj i).record, begun_record]
  have hreleasing {i : Sta} {g : FaultKind} (h : landingFault (begun s).group.params ((begun s).jack i) = some g) :
      ((watchedWork (begun s)).jack i).record.state = .releasing := (hstate i).trans (landingFault_state h).2
  have hfirst := (judges_landing (begun s) k).first (w := watchedWork (begun s)) hf hq (by rw [hwg]) (fun _ => hreleasing hf)
    ((faultStops_iff _).mpr (.inl (by rw [hwg, hbs]; simp)))
  generalize watchedWork (begun s) = w at *
  generalize forStations (judgeLanding (begun s)) w = y at *
  obtain ⟨hstop, hk, hbelow, hheld, habove⟩ := hfirst
  have hunheld : generatorsHeld w = false := by
    unfold generatorsHeld
    rw [hwg, begun_group]
    show (!s.group.permit || s.group.state == .lockedOut) = false
    rw [hp, hs]
    rfl
  refine ⟨⟨hstop.state, hstop.cause, by rw [hstop.params, hbp], by rw [hstop.sync, hwy], by rw [hstop.plan, hwp]⟩,
    ?_, fun i hi => ?_, fun i hi hn => ?_, fun i g hi hn => ?_⟩
  · have hw := hreleasing hf
    rw [hk, Jack.stopped_record, Jack.faultedBy_record (by rw [hw]; simp) (by rw [hw]; simp), (hwj k).record,
      StationRec.moveByStop_of_faulted StationRec.faultedInStop_state]
    exact StationRec.faultedFrom_faultedInStop
  · rw [hbelow i hi, Jack.stopped_record, landingJack_record (hwj i) hunheld, hbp]
    unfold leftLanding
    rw [if_pos hi]
  · rw [habove i hi, judgedInStop_of_none hn]
    unfold leftLanding
    rw [if_neg (lt_asymm hi)]
    exact landingJack_stopped_record (hwj i)
  · have hw := hreleasing hn
    have hengaged : (w.jack i).stopped.record.state = .engaged := by
      rw [Jack.stopped_record]
      unfold StationRec.moveByStop
      rw [hw]
    have hne : (s.jack i).record.state ≠ .engaged := by
      rw [(hwj i).record] at hw
      have hw : (s.jack i).record.state = .releasing := hw
      rw [hw]
      simp
    rw [habove i hi, judgedInStop_of_some hn, Jack.faultedBy_record (by rw [hengaged]; simp) (by rw [hengaged]; simp),
      Jack.stopped_record, (hwj i).record]
    unfold leftLanding
    rw [if_neg (lt_asymm hi), if_neg hne]

end Sys2Proof.Machine

/-! PROOF. The last step of a clearance move, and a cycle start of the release phase (O18): the statement. -/

namespace Sys2Proof.Machine

-- One theorem after another, as in the tests: a thread each for this many proofs would pass the memory limit.
set_option Elab.async false

variable {s t u w o y z b : State} {k i : Sta} {f : FaultKind} {x : Subject} {e : Event} {c : Byte} {n : Nat} {p : GroupParams} {j q : Jack}
  {strict early : Prop} {r a : StationRec} {held : Bool}

/-! ### The lowest fault stops the group (R151, R154) -/

/-- The records that the judgements leave keep every contact height, where no release completes. -/
theorem StoppedRecords.contact {left : Sta → StationRec} {fault : Sta → Option FaultKind} (h : StoppedRecords s f k left fault y)
    (hk : (s.jack k).record.state = .releasing) (hf : ∀ i g, k < i → fault i = some g → priorOf (left i).state = .engaged)
    (hl : ∀ i, (left i).contact = (s.jack i).record.contact) (i : Sta) : (y.jack i).record.contact = (s.jack i).record.contact := by
  obtain hlt | rfl | hgt := lt_trichotomy i k
  · rw [h.below i hlt, hl]
  · have hprior : priorOf (s.jack i).recordAtStart.state = .engaged := by
      show priorOf (s.jack i).record.state = _
      rw [hk]
      rfl
    rw [h.named.of_engaged hprior]
    rfl
  · cases hn : fault i with
    | none => rw [h.kept i hgt hn, hl]
    | some g =>
      rw [h.found i g hgt hn, StationRec.faultedFrom_faultedInStop.of_engaged (hf i g hgt hn)]
      exact hl i

theorem leftLanding_found {g : FaultKind} (hi : k < i) (h : landingFault (begun s).group.params ((begun s).jack i) = some g) :
    (leftLanding s k i).state = .engaged ∧ leftLanding s k i = (s.jack i).recordAtStart.moveByStop := by
  have hs : (s.jack i).record.state = .releasing := by
    rw [← (landingFault_state h).2, begun_record]
    rfl
  have hleft : leftLanding s k i = (s.jack i).recordAtStart.moveByStop := by
    unfold leftLanding
    rw [if_neg (lt_asymm hi), if_neg (by rw [hs]; simp)]
  refine ⟨?_, hleft⟩
  rw [hleft]
  unfold StationRec.moveByStop
  rw [show (s.jack i).recordAtStart.state = .releasing from hs]

/-- The lowest station too far below its start height ends the release phase. -/
theorem release_stops (hr : s.pins.resetAsserted = false) (hu : exec .take s = .next u) (hslot : s.group.slot = none)
    (hp : s.group.permit = true) (hs : s.group.state = .landing) (hd : s.sync.descent = false) (hund : Undetected s)
    (hn : ChecksGeometry s → ∀ k, (s.jack k).releaseConfirms s.group.params → 0 < clearanceSteps s.group.params (s.jack k))
    (hk : (s.jack k).tooLow s.group.params) (hlow : ∀ i, i < k → ¬ (s.jack i).tooLow s.group.params)
    (hband : ∀ i c, i ≠ k → (k < i → ¬ (s.jack i).tooLow s.group.params) → (leftLanding s k i).state = .engaged →
      (leftLanding s k i).contact = some c →
      (s.sync.ref + 100 * ((s.jack i).offsetAtStart - ((s.jack i).liveHeight - c))).natAbs ≤ 100 * s.group.params.tripBand) :
    (cycleWork s).group.state = .stopping ∧ (cycleWork s).group.cause = .fault .noRelease (.station k) ∧
      (cycleWork s).sync = { u.sync with speed := 0, dir := .none, descent := false, waiting := false } ∧
      StoppedRecords s .noRelease k (leftLanding s k) (fun i => landingFault (begun s).group.params ((begun s).jack i)) (cycleWork s) := by
  have hf : landingFault (begun s).group.params ((begun s).jack k) = some .noRelease := (landingFault_begun s k).mpr ⟨rfl, hk⟩
  obtain ⟨hstop, hrec⟩ := judgements_stopped hp hs hund hf fun i hi => landingFault_eq_none (hlow i hi)
  have hw : Works False False (begun s) (forStations (judgeLanding (begun s)) (watchedWork (begun s))) :=
    (Works.watchedWork _).trans (.forStations (fun i t => .judgeLanding _ i t) _)
  have hcalm := calm_afterLanding hs hd hund fun hck i => by
    have hcontact := hrec.contact hk.1.1 (fun i g hi hg => by rw [(leftLanding_found hi hg).1]; rfl)
      (fun i => leftLanding_contact (hn hck)) i
    unfold Jack.lift Jack.liveLift Jack.latchedHeight
    rw [hcontact, (hw.jacks i).pos, (hw.jacks i).settings, begun_openedWith]
    rfl
  generalize forStations (judgeLanding (begun s)) (watchedWork (begun s)) = y at *
  refine StoppedRecords.ends hr hu hslot (by rw [hs]; simp) ?_ ?_ (fun _ => leftLanding_settings) fun i c hi hnone => ?_
  · refine ⟨?_, fun i hi => ?_, fun i hi hg => ?_, fun i g hi hg => ?_⟩ <;> rw [hcalm.record]
    · exact hrec.named
    · exact hrec.below i hi
    · exact hrec.kept i hi hg
    · exact hrec.found i g hi hg
  · refine ⟨?_, ?_, ?_, ?_, ?_⟩
    · rw [hcalm.group, hstop.state]
    · rw [hcalm.group, hstop.cause]
    · rw [hcalm.group, hstop.params]
    · rw [hcalm.sync, hstop.sync]
    · rw [hcalm.plan, hstop.plan]
  · refine hband i c hi fun hki ht => ?_
    have := hnone hki
    rw [(landingFault_begun s i).mpr ⟨rfl, ht⟩] at this
    cases this

/-- The fault stop that such a station begins is reported. -/
theorem release_reports_stop (hslot : s.group.slot = none) (hs : s.group.state = .landing) (hd : s.sync.descent = false)
    (h : (s.jack k).tooLow s.group.params) (hst : (cycleWork s).group.state = .stopping)
    (hc : (cycleWork s).group.cause = .fault .noRelease (.station k)) :
    Reported (.groupStop .noRelease (.station k)) (s.group.cycle + 1) (cycleWork s) := by
  obtain ⟨htaken, -⟩ := taken_tooLow hs hd h
  obtain ⟨⟨hacts, -⟩, -⟩ := (htaken.trans (Works.tripped _)).ends hslot
  obtain ⟨hl, -⟩ | ⟨-, ⟨g, x, h1, h2⟩, -⟩ := hacts ((faultStops_iff s).mpr (.inl (by rw [hs]; simp)))
  · rw [hst] at hl
    cases hl
  · rw [hc] at h1
    cases h1
    exact h2

/-! ### What a station receives (R150 to R152) -/

theorem receives_of_generatorOn {v : Int} (hr : (t.jack k).rate = v)
    (hg : ∃ a, (t.jack k).gen = { (s.jack k).generatorOn v with brake := a }) : Receives s t k v := by
  obtain ⟨a, ha⟩ := hg
  refine ⟨hr, ?_⟩
  rw [ha]
  exact ((s.jack k).generatorOn_handed v).brake a

/-- A station that the judgement lowers receives minus its seek rate. -/
theorem LandingEnds.lowered (h : LandingEnds s t k)
    (hk : (s.jack k).record.state = .engaged ∨ ((s.jack k).releases s.group.params ∧ ¬ (s.jack k).releaseConfirms s.group.params)) :
    Receives s t k (-(seekRate s.group.params (s.jack k) : Int)) := by
  obtain ⟨-, -, hr, hg⟩ := h
  obtain hk | ⟨hk, hn⟩ := hk
  · rw [Jack.landed_engaged hk] at hr hg
    exact receives_of_generatorOn hr hg
  · rw [Jack.landed_lowered hk hn] at hr hg
    exact receives_of_generatorOn hr hg

/-- A station whose release completes receives the stop value. -/
theorem LandingEnds.released (h : LandingEnds s t k) (hk : (s.jack k).releaseConfirms s.group.params)
    (h0 : clearanceSteps s.group.params (s.jack k) = 0) : Receives s t k 0 := by
  obtain ⟨-, -, hr, hg⟩ := h
  rw [Jack.landed_confirms hk, Jack.confirmed_released h0] at hr hg
  exact receives_of_generatorOn hr hg

/-- A station whose clearance move is ordered. -/
theorem LandingEnds.ordered (h : LandingEnds s t k) (hk : (s.jack k).releaseConfirms s.group.params)
    (h0 : clearanceSteps s.group.params (s.jack k) ≠ 0) :
    (t.jack k).rate = -(seekRate s.group.params (s.jack k) : Int) ∧
      ∃ a, (t.jack k).gen = { ({ (s.jack k).gen with
        ceiling := heldAtCeiling (seekRate s.group.params (s.jack k)) (s.jack k).record.settings.kStep } : Generator).hand
          (.move (divisorOf (seekRate s.group.params (s.jack k)) (s.jack k).record.settings.kStep) .down
            (clearanceSteps s.group.params (s.jack k))) with brake := a } := by
  obtain ⟨-, -, hr, hg⟩ := h
  rw [Jack.landed_confirms hk, Jack.confirmed_ordered h0] at hr hg
  exact ⟨hr, hg⟩

/-- A clearing station is handed nothing. -/
theorem LandingEnds.cleared (h : LandingEnds s t k) (hk : (s.jack k).record.state = .releasing)
    (hc : s.group.params.confirmTarget ≤ (s.jack k).record.confirm) :
    (t.jack k).rate = -(seekRate s.group.params (s.jack k) : Int) ∧
      (t.jack k).gen = { (s.jack k).gen with ceiling := false, brake := (t.jack k).gen.brake } := by
  obtain ⟨-, -, hr, a, ha⟩ := h
  rw [Jack.landed_clearing hk hc] at hr ha
  exact ⟨hr, by rw [ha]; rfl⟩

/-- Any other station receives nothing. -/
theorem LandingEnds.other (h : LandingEnds s t k) (he : (s.jack k).record.state ≠ .engaged) (hr : (s.jack k).record.state ≠ .releasing) :
    ReceivesNothing s t k := by
  obtain ⟨-, -, hrate, a, ha⟩ := h
  rw [Jack.landed_other he hr] at hrate ha
  exact ⟨hrate, by rw [ha]; rfl⟩

/-- A move ordered of a generator, as the statement writes it. -/
theorem Generator.hand_move (g : Generator) (d : Divisor) (n : Nat) (ce : Bool) (a : Brake) :
    ({ ({ g with ceiling := ce } : Generator).hand (.move d .down n) with brake := a } : Generator) =
      (if g.run = .idle then { ({ g with ceiling := ce, brake := a } : Generator) with
        run := .counted, divisor := some d, dir := .down, dirHigh := g.stepHigh && g.dirHigh, pending := none, remaining := n }
      else { ({ g with ceiling := ce, brake := a } : Generator) with pending := some (.move d .down n) }) := by
  obtain ⟨run, divisor, dir, pending, remaining, ceiling, brake, stepHigh, dirHigh⟩ := g
  cases run with
  | idle => cases stepHigh <;> rfl
  | rate => rfl
  | counted => rfl

end Sys2Proof.Machine

/-! PROOF. The last step of a clearance move, and a cycle start of the release phase (O18): the statement's cases. -/

namespace Sys2Proof.Machine

-- One theorem after another, as in the tests: a thread each for this many proofs would pass the memory limit.
set_option Elab.async false

/-- Settles O18: the row of the clearance move, the quiet cycle start of the release phase, and the one whose lowest fault stops the
group. -/
theorem lastReleaseLandsTheGroup : Obligations.LastReleaseLandsTheGroup := by
  refine ⟨clearanceMove_completes, fun s u hr hs hd hslot hu => ?_⟩
  intro p seek steps light releasing confirms tooFar judged landed
  have hjudged (j : Jack) : judged j = j.judgedLanding p := rfl
  have htooFar (j : Jack) : tooFar j = j.tooLow p := rfl
  have hconfirms (j : Jack) : confirms j = j.releaseConfirms p := rfl
  have hsteps (j : Jack) : steps j = clearanceSteps p j := rfl
  have hlanded : landed = AllReleased s := rfl
  refine ⟨fun hp hund hq hn => ⟨cycleWork s, exec_cycleStart hr, ?_⟩, ?_⟩
  · have hnone (k : Sta) : landingFault (begun s).group.params ((begun s).jack k) = none := landingFault_eq_none (hq k)
    obtain ⟨h1, h2, h3, h4⟩ := landing_quiet hr hu hslot hp hs hd hund hnone hn
    refine ⟨h1, h2, h3, fun k => ⟨(h4 k).record, ?_, (h4 k).lowered, fun hc h0 => ⟨(h4 k).released hc h0, ?_⟩, fun hc h0 => ?_,
      (h4 k).cleared, (h4 k).other⟩⟩
    · rw [(h4 k).err, hjudged]
      unfold errorFor
      rw [Jack.judgedLanding_settings]
      cases ((s.jack k).judgedLanding p).contact <;> rfl
    · exact release_reported hslot hs hd hund hnone hc h0
    · obtain ⟨hrate, a, ha⟩ := (h4 k).ordered hc (Nat.pos_iff_ne_zero.mp h0)
      refine ⟨hrate, ?_⟩
      rw [ha]
      exact Generator.hand_move _ _ _ _ _
  · intro moved left foundAfter
    have hmoved (r : StationRec) : moved r = r.moveByStop := (StationRec.moveByStop_eq r).symm
    have hleft (k i : Sta) (h : i < k ∨ (s.jack i).record.state ≠ .engaged) : left k i = leftLanding s k i := by
      show moved (if i < k then judged (s.jack i) else (s.jack i).recordAtStart) = _
      rw [hmoved]
      unfold leftLanding
      by_cases hi : i < k
      · rw [if_pos hi, if_pos hi, hjudged]
      · rw [if_neg hi, if_neg hi, if_neg (h.resolve_left hi)]
    refine ⟨cycleWork s, exec_cycleStart hr, fun k hk => ?_, fun k hk hlow hp hund hn hband => ?_⟩
    · obtain ⟨h1, h2, h3⟩ := release_fails hslot hs hd hk
      exact ⟨h1, h2.isListed, h2.reported, h3⟩
    · have hdesc : u.sync.descent = false := by
        rw [← (begun_sync_plan hr hu).1]
        exact (begun_ref s).2.trans hd
      obtain ⟨h1, h2, h3, hrec⟩ := release_stops hr hu hslot hp hs hd hund hn hk hlow fun i c hi hnf he hc => by
        have hor : i < k ∨ (s.jack i).record.state ≠ .engaged := by
          by_contra hcon
          obtain ⟨hge, hen⟩ := not_or.mp hcon
          rw [not_not] at hen
          unfold leftLanding at he
          rw [if_neg hge, if_pos hen] at he
          cases he
        rw [← hleft k i hor] at he hc
        exact hband i c hi (fun hf => hnf hf.1 hf.2) he hc
      have hsync : ({ u.sync with speed := 0, dir := .none, descent := false, waiting := false } : Sync) =
          { u.sync with speed := 0, dir := .none, waiting := false } := by rw [← hdesc]
      rw [hsync] at h3
      refine ⟨h1, h2, h3, release_reports_stop hslot hs hd hk h1 h2, hrec.named.of_engaged ?_, fun i hi hor => ?_⟩
      · show priorOf (s.jack k).record.state = _
        rw [hk.1.1]
        rfl
      · rw [hleft k i hor]
        refine ⟨fun hnf => ?_, fun hf => ?_⟩
        · obtain hlt | rfl | hgt := lt_trichotomy i k
          · exact hrec.below i hlt
          · exact absurd rfl hi
          · exact hrec.kept i hgt (landingFault_eq_none fun ht => hnf ⟨hgt, ht⟩)
        · have hg := (landingFault_begun s i).mpr ⟨rfl, hf.2⟩
          rw [hrec.found i .noRelease hf.1 hg]
          exact StationRec.faultedFrom_faultedInStop.of_engaged (by rw [(leftLanding_found hf.1 hg).1]; rfl)

end Sys2Proof.Machine
